-- ==== Sys2Proof/Word.lean ====
section
/-! DEFINITION. The words of the machine: bytes, register words, 64-bit memory words, and the bit ranges that name a register's fields. -/
namespace Sys2Proof

abbrev Byte := BitVec 8
/-- A register of a page (R88). -/
abbrev Word := BitVec 32
/-- A memory word of 64 bits, the unit of the fabric (R9, R130). -/
abbrev Word64 := BitVec 64

/-- A field: the key of its register in the register file (page number times 0x1000 plus offset) and its bits `hi` down to `lo`. -/
structure Fld where
  key : Nat
  hi : Nat
  lo : Nat
deriving DecidableEq, Repr

end Sys2Proof
end

