-- ==== Sys2Proof/Syntax.lean ====
section
/-! DEFINITION. The commands: one constructor per row of spec/opcode_table.json, with the operands of the row; and the operand types. -/
namespace Sys2Proof

/-- Requesters, in the order of the codes of R100. -/
inductive Req where
  | ac0 | ac1 | ac2 | ac3 | anchor | loop | ios | mtr | bel | task | switch | upd | can | debug
deriving DecidableEq, Repr

/-- The requester that core `c` is. -/
def Req.ofCore (c : Nat) : Req :=
  match c with
  | 0 => .ac0 | 1 => .ac1 | 2 => .ac2 | _ => .ac3

/-- Access widths in bytes (R92). -/
inductive Width where
  | b1 | b2 | b4 | b8
deriving DecidableEq, Repr

/-- An access of the debug port. -/
inductive Access where
  | load (addr : Nat) (width : Width)
  | store (addr : Nat) (width : Width) (data : Word64)
deriving DecidableEq, Repr

/-- The error that a controller detected (LEC of R175). -/
inductive CanErr where
  | stuff | form | ack | bitRecessive | bitDominant | crc
deriving DecidableEq, Repr

/-- What the wake detector saw (R168, R169): a dominant level of so many ns, or an extended frame without bit-rate switching. -/
inductive CanWakeCause where
  | dominant (ns : Nat)
  /-- identifier, data length code, first data byte; `plain` says IDE = 1, RTR = 0 and BRS = 0 -/
  | frame (plain : Bool) (id : BitVec 29) (dlc : Nat) (data0 : Byte)
deriving DecidableEq, Repr

/-- A frame on a field bus (R153). -/
structure CanFrame where
  id : BitVec 29
  ide : Bool
  rtr : Bool
  dlc : Nat
  fdf : Bool
  brs : Bool
  esi : Bool
  data : List Byte
deriving DecidableEq, Repr

/-! ### The configuration image (R4 to R7, R25, R193, R203, R567) -/

/-- The source that the image gives a point. -/
inductive ImgSrc where
  | none
  | station (ch addr : Nat)
  | lio
  | task (t : Nat)
  | loop (k : Nat)
  | metering
deriving DecidableEq, Repr

structure ImgPoint where
  pid : Nat
  src : ImgSrc
  /-- TYPE code of R259 -/
  ptype : Nat
  isOut : Bool
  start : Word
  log : Bool
  lo : Int
  hi : Int
deriving DecidableEq, Repr

/-- A row of the station table: its image of R203 and the points of its records in order. -/
structure ImgStation where
  ch : Nat
  addr : Nat
  serial : BitVec 48
  image : List Byte
  pids : List Nat
  /-- published slot offset O of its STD frame, in µs (R196) -/
  stdOffset : Nat
deriving DecidableEq, Repr

/-- An output frame of the module in the schedule (R188): class 0 FAST, 1 STD, 2 SLOW; ADDR 0 for a broadcast; its slot in µs after
the period's start. -/
structure OutFrame where
  ch : Nat
  cls : Nat
  addr : Nat
  group : Nat
  slotUs : Nat
deriving DecidableEq, Repr

/-- One channel that the image uses: RATE and MODE (R567). -/
structure ImgChannel where
  ch : Nat
  rate : Word
  mode : Word
deriving DecidableEq, Repr

/-- Loops and other settings are in the fields that the chapters name. `tier` is 0 Base, 1 Col, 2 Summit. -/
structure ConfigImage where
  tier : Nat
  points : List ImgPoint
  stations : List ImgStation
  outFrames : List OutFrame
  channels : List ImgChannel
  syncCfg : Word
  discCfg : Word
  startTmo : Word
  q0Cfg : Word
  dioDir : Word
  /-- the points of AIN0 to AIN7, of AOUT0 to AOUT3 and of DIO0 to DIO15, and the range of each AIN point -/
  ainPids : List (Option Nat)
  aoutPids : List (Option Nat)
  dioPids : List (Option Nat)
  /-- number of loops the image declares -/
  loops : Nat
  /-- owner tables of CMPT (R463): points, loop slots, command slots, record classes: pairs of index and compartment -/
  ownPoints : List (Nat × Nat)
  ownSlots : List (Nat × Nat)
  ownCommands : List (Nat × Nat)
  ownClasses : List (Nat × Nat)
  /-- BLK_OWNER.COMP of pages -/
  ownPages : List (Nat × Nat)
  /-- SHAKE256 digest of the image (R478) -/
  digest : BitVec 256
deriving DecidableEq, Repr


/-- A record that a block or the anchor submits to the Cairn event recorder (R500). -/
structure CairnRec where
  cls : BitVec 10
  sev : Fin 8
  comp : BitVec 6
  time : Word64
  payload : List Byte
deriving DecidableEq, Repr

/-- The kinds of copy unit (R484); `pass` is the full pass of a RESYNC (R487). -/
inductive UnitKind where
  | task | bg | final | pass
deriving DecidableEq, Repr

/-- A copy unit, as the active module forms it and the standby module applies it (R484). -/
structure CopyUnit where
  seq : Nat
  kind : UnitKind
  /-- TASK units: the task, and its release header's fields -/
  task : Nat
  header : List Byte
  /-- the package whose switch the active module has made (R268): its header, and the bytes of its signature block and of its bank by offset -/
  package : Option (List Byte × List (Nat × Byte) × List (Nat × Byte))
  /-- 64-byte lines of the active program bank, by offset in the bank -/
  lines : List (Nat × List Byte)
  /-- a full pass: bytes of the task areas -/
  areas : List (Nat × Byte)
  /-- points: PID, VALUE, Q and instant in monotonic time -/
  points : List (Nat × Word × Nat × Nat)
  /-- task states: task, and CYCLE, SKIPPED, OVR_CNT, EXEC_MAX, EXEC_PREV, the latest release instant, STATE, FIRST, STEPPED and BACK_STEP -/
  tasks : List (Nat × List Nat)
  /-- loop slots: slot, the 512 bytes of its block, the output and Q given last, and whether it has been evaluated, is new, is to be reseeded, has been held -/
  slots : List (Nat × List Byte × Int × Nat × Nat)
  /-- registers: LOOP.ENk, PTP settings -/
  regs : List (Nat × Word)
  /-- the FNET cycle -/
  cycle : Nat
  forces : List (Nat × List Nat)
  /-- bytes of the schedule table, when it has changed -/
  sched : Option (List (Nat × Byte))
  commandOwners : Option (List (Nat × Nat))
  /-- energy state of a circuit, and T_END of the last cycle handed on -/
  circuits : List (Nat × List Int)
  /-- station states, by channel × 256 + address, when one has changed -/
  stations : List (Nat × Nat)
deriving DecidableEq, Repr

/-- An identity message (R478), with what the control messages of 17 report beside: BUILD_ID (R545), PFW.STAT.ASSERTED (R499), and the failed loop
lanes, the channels in BUS_OFF and the ECC instances whose SELFTEST_OK is 0 (R489). -/
structure IdMsg where
  sideB : Bool
  role : Fin 4
  /-- the role has not been taken yet -/
  starting : Bool
  pair : Fin 4
  serial : BitVec 48
  image : BitVec 256
  program : BitVec 256
  build : BitVec 64
  pfw : Bool
  lanes : BitVec 4
  busOff : BitVec 4
  eccBad : BitVec 8
deriving DecidableEq, Repr

/-- How a verification ends where the signature and the tables hold (R535, R536). -/
inductive VerifyOut where
  /-- a digest does not match -/
  | badDigest
  /-- the digests match, and the boot record has been written -/
  | written
  /-- the digests match, and the write of the boot record has failed twice -/
  | notWritten
deriving DecidableEq, Repr

/-- A block of the container that the active module's anchor sends over the Belay link (R539): the container's length, the offset and the data. -/
structure LinkBlock where
  length : Word
  offset : Word
  data : List Byte
deriving DecidableEq, Repr

/-- An Ethernet frame without its FCS: the 802.1Q tag and the sequence number of the HSR tag where it carries them (R435, R437, R441). -/
structure EthFrame where
  dst : BitVec 48
  src : BitVec 48
  tag : Option (BitVec 16)
  hsr : Option (BitVec 16)
  etype : BitVec 16
  data : List Byte
  fcsOk : Bool
deriving DecidableEq, Repr

/-- An access request of a door reader (R452), with what the reference firmware's tables hold and the cache's layout does not give: the door group
of the reader, whether the access schedule permits it now, the unlock time, and whether the head end has loaded the cache completely; and the ingress
stamp of the request's frame with the egress stamp of the answer's. -/
structure AccessRequest where
  reader : BitVec 16
  seq : Word
  pin : Option (BitVec 32)
  data : List Byte
  loaded : Bool
  door : Fin 64
  scheduleOk : Bool
  unlockS : BitVec 16
  ingress : Word64
  egress : Word64
deriving DecidableEq, Repr

/-- What a metering channel has received (R350, R351): the bits of its MOD pin, oldest first, from the first bit that the first sample needs; the
high-pass's DC before the first filter output, in units of 2^−16 code; and, for each calibrated sample, the monotonic time that the CK_MOD follower reads
in the cycle in which it leaves the interpolator. -/
structure ChanIn where
  bits : List Bool
  dc : Int
  leave : List Nat
deriving DecidableEq, Repr

/-- The samples of a circuit's channels around one line cycle: the voltage and the current channel of each phase. -/
structure CycleIn where
  chans : List (ChanIn × ChanIn)
deriving DecidableEq, Repr

/-- The session that a handshake has made (R467): the compartment to which the policy table maps the peer, and the idle time that it gives, in s. -/
structure HsLive where
  comp : Fin 64
  idle : Option Nat
deriving DecidableEq, Repr

/-- What came of the protection of a session record (R471). -/
inductive RecordOut where
  /-- the record as decrypted or encrypted -/
  | bytes (b : List Byte)
  /-- the record failed -/
  | bad
  /-- the session ended first, by a close or fatal alert (R467, R474) -/
  | ended
deriving DecidableEq, Repr

/-- The commands, in the table's order. -/
inductive Instr where
  /-- VIN_RISE (R71): VIN rises through the under-voltage threshold and the power-on sequence of rails, oscillators and PLL locking begins, with cause POWER_ON. -/
  | vinRise
  /-- UNDER_V (R76): VIN falls below the under-voltage threshold while running; DOWN is sent on the Belay link and the module enters cold reset within 2 µs. -/
  | underV
  /-- OVER_V (R67): VIN rises above the over-voltage threshold; the supervisor holds the module in cold reset and asserts SYS_FAULT_n. -/
  | overV
  /-- OVER_V_RELEASE (R564): VIN falls to the over-voltage release level, which clears the OVER_V cause and starts the relock sequence. -/
  | overVRelease
  /-- RESET_PIN (R72): An assertion of RESET_n lasting at least 1 µs is accepted; the outputs take their reset states and any pending reset request lapses. -/
  | resetPin
  /-- RESET_PIN_RELEASE (R564): RESET_n is deasserted, which clears the RESET_PIN cause of a held cold reset. -/
  | resetPinRelease
  /-- COLD_RESET_RELEASE (R564): The last holding cause has cleared, PLLs are locked and RESET_n and PFW_n are deasserted; cold reset is released, module time starts and the anchor fetches from the boot ROM. -/
  | coldResetRelease
  /-- CLOCK_LOSS (R42): The clock monitor counts no edge of a clock within its loss window and flags the clock lost, with the consequences of R41. -/
  | clockLoss (d : Fin 11)
  /-- CLOCK_RESTORE (R42): A lost clock has run within its restore tolerance for the restore time and is flagged restored. -/
  | clockRestore (d : Fin 11)
  /-- PLL_UNLOCK (R42): A PLL lock detector reports loss of lock; PLL_LOCK is cleared and PLL_UNLOCK is set. -/
  | pllUnlock (p : Fin 7)
  /-- PLL_RELOCK (R42): A PLL lock detector reports lock again and the PLL's bit of PLL_LOCK returns to 1. -/
  | pllRelock (p : Fin 7)
  /-- THERMAL (R82): The supervisor judges the die at or above 130 °C, holds the module in cold reset and asserts SYS_FAULT_n. -/
  | thermal
  /-- THERMAL_RELEASE (R564): The supervisor judges the die below 115 °C, which clears the THERMAL cause. -/
  | thermalRelease
  /-- PFW_FALL (R75): A fall of PFW_n passes the 400-cycle filter and is accepted: counted and timestamped, and in the running state it starts the energy and checkpoint save and the Cairn flush. -/
  | pfwFall
  /-- PFW_RISE (R86): A deassertion of PFW_n passes the filter and is accepted; RISE is set and the module keeps running. -/
  | pfwRise
  /-- TSENS_READING (R81): The temperature sensor delivers its 1 ms reading; TEMP, MAX and the WARN event are updated. -/
  | tsensReading (deg : BitVec 16)
  /-- PPS_OUT_PULSE (R48): Module time crosses a whole second and PPS_OUT rises for 100 µs, unless TIME_INVALID is set. -/
  | ppsOutPulse
  /-- PPS_IN (R48): A rising edge on PPS_IN is timestamped in module time and counted, at most one per 100 µs. -/
  | ppsIn
  /-- DEBUG_ACCESS (R55): The debug port takes a JTAG access, which it serves only in BLANK or SERVICE. -/
  | debugAccess (acc : Access)
  /-- CORE_MEMORY_LOAD (R22): An application core loads from memory; the grant, CMPT checks, ECC checks and correction, misalignment rule and faults apply. -/
  | coreMemoryLoad (core : Fin 5) (fetch : Bool) (addr : Nat) (width : Width)
  /-- CORE_MEMORY_STORE (R132): An application core stores to memory, with read-modify-write for narrow writes, region and CMPT grant checks, and faults. -/
  | coreMemoryStore (core : Fin 5) (addr : Nat) (width : Width) (data : Word64)
  /-- ECC_BUCKET_LEAK (R135): LEAK_S seconds pass and the bucket loses 1; the instance re-arms when the bucket reaches THRESH / 2 or below. -/
  | eccBucketLeak (n : Fin 8)
  /-- SCRUB_WORD (R137): The scrubber reads one word in an idle cycle, writes back a corrected word or records an uncorrectable one. -/
  | scrubWord (n : Fin 8)
  /-- SCRUB_PASS_DONE (R138): A scrub pass completes; SCRUB_PASS increments and SCRUB_LATE is set or cleared according to the period. -/
  | scrubPassDone (n : Fin 8)
  /-- BUCKET_CFG_WRITE (R136): A write of BUCKET_CFG sets LEAK_S and THRESH, and sets CE_THRESH at once when THRESH falls below an armed bucket. -/
  | bucketCfgWrite (req : Req) (n : Fin 8) (value : Word)
  /-- REGISTER_WRITE (R11): A write to a register without a row of its own acts per its access code, with width, expert-lock, state and compartment checks. -/
  | registerWrite (req : Req) (page : Fin 39) (off : Nat) (value : Word)
  /-- EXPERT_ARM (R95): A BLK_CTL write with KEY 0x5A3C from compartment 0 arms, or re-arms, the unlock sequence and applies ENABLE. -/
  | expertArm (req : Req) (page : Fin 39) (enable : Bool)
  /-- EXPERT_UNLOCK (R95): A BLK_CTL write with KEY 0x3CA5 and EXPERT = 1 within 256 cycles of arming sets EXPERT and records it in Cairn. -/
  | expertUnlock (req : Req) (page : Fin 39) (enable : Bool)
  /-- EXPERT_CLEAR (R96): A BLK_CTL write with KEY 0x0000 and EXPERT = 0 clears EXPERT and applies ENABLE. -/
  | expertClear (req : Req) (page : Fin 39) (enable : Bool)
  /-- BLOCK_ENABLE (R91): BLK_CTL.ENABLE of a page changes to 1 and the block starts with the checks and restart timing that its chapter states. -/
  | blockEnable (req : Req) (page : Fin 39) (expert : Bool)
  /-- BLOCK_DISABLE (R91): BLK_CTL.ENABLE of a page changes to 0 and the block stops with the effects that its chapter states. -/
  | blockDisable (req : Req) (page : Fin 39) (expert : Bool)
  /-- INT_CLR (R89): A write to INT_CLR clears each INT_RAW bit written 1; an event in the same cycle wins. -/
  | intClr (req : Req) (page : Fin 39) (value : Word)
  /-- BLK_OWNER_WRITE (R89): A write to BLK_OWNER sets the page owner when it comes from the anchor, and otherwise sets OWNER_WR. -/
  | blkOwnerWrite (req : Req) (page : Fin 39) (value : Word)
  /-- INTC_ROUTE_WRITE (R108): A write to INTC.ROUTEn sets the target and priority, subject to the LOCK and anchor-target rules and to claims in progress. -/
  | intcRouteWrite (req : Req) (source : Fin 256) (value : Word)
  /-- INTC_CLAIM (R107): A read of CLAIMt claims the highest-priority claimable source of target t and returns it. -/
  | intcClaim (req : Req) (target : Fin 5)
  /-- INTC_COMPLETE (R109): A write of COMPLETEt ends service of a claimed source, or sets BAD_COMPLETE. -/
  | intcComplete (req : Req) (target : Fin 5) (source : Fin 256)
  /-- INTC_SWI_SET (R112): A write to SWI_SET sets software interrupt bits of INTC.INT_RAW. -/
  | intcSwiSet (req : Req) (value : Word)
  /-- RST_CMD_WARM (R122): An accepted RST.CMD with KIND 1 schedules a warm reset after DELAY, replacing any pending request. -/
  | rstCmdWarm (req : Req) (delay : Byte)
  /-- RST_CMD_COLD (R122): An accepted RST.CMD with KIND 2 schedules a cold reset after DELAY, replacing any pending request. -/
  | rstCmdCold (req : Req) (delay : Byte)
  /-- RST_CMD_CANCEL (R122): An accepted RST.CMD with KIND 0 cancels a pending request whose save has not begun. -/
  | rstCmdCancel (req : Req)
  /-- RESET_SAVE_START (R115): DELAY ms after a reset request, the energy and checkpoint save begins, and the request can no longer be replaced. -/
  | resetSaveStart
  /-- RESET_SAVE_DONE (R122): The pre-reset save completes and the commanded or lifecycle reset takes effect. -/
  | resetSaveDone
  /-- SRAM_WIPE_DONE (R116): The wipe engine completes the SRAM wipe of start-up step 3. -/
  | sramWipeDone
  /-- LIFECYCLE_WIPE_DONE (R117): The pending lifecycle wipe of MRAM completes, the marker is written last and the transition is recorded. -/
  | lifecycleWipeDone
  /-- ECC_SELFTEST (R139): The anchor runs the checker self-test of the ECC instances and sets SELFTEST_OK or ECC_FAIL. -/
  | eccSelftest (n : Fin 8) (pass : Bool)
  /-- BOOT_VERIFY_DONE (R119): Manifest and image digests are verified, with fallback to the other bank, and the anchor releases the application cores or enters recovery. -/
  | bootVerifyDone (selectedOk otherOk : Bool)
  /-- DRAM_WIPE_DONE (R24): The background DRAM wipe completes and DRAM_READY is set. -/
  | dramWipeDone
  /-- NRG_TOTALS_LOAD (R394): At start-up, NRG loads the valid save slot with the higher SEQ and reports LOAD. -/
  | nrgTotalsLoad
  /-- CONFIG_ACCEPT (R567): The configuration image is checked against its tier and source rules; if accepted, the anchor loads CMPT tables and field settings and enables blocks in order, and READY rises at start-up. -/
  | configAccept (img : Option ConfigImage)
  /-- CAN_INTEGRATION_DONE (R148): A channel counts 11 consecutive recessive bits in INTEGRATING, or in SLEEP_PENDING, and changes state accordingly. -/
  | canIntegrationDone (ch : Fin 4)
  /-- CAN_MODE_NORMAL (R148): MODE.REQ is written NORMAL, which takes effect at the next bus idle or ends sleep. -/
  | canModeNormal (req : Req) (ch : Fin 4)
  /-- CAN_MODE_LISTEN (R148): MODE.REQ is written LISTEN, which takes effect at the next bus idle or ends sleep. -/
  | canModeListen (req : Req) (ch : Fin 4)
  /-- CAN_MODE_LOOPBACK (R148): MODE.REQ is written LOOPBACK, which takes effect at the next bus idle or ends sleep. -/
  | canModeLoopback (req : Req) (ch : Fin 4)
  /-- CAN_MODE_SLEEP (R149): MODE.REQ is written SLEEP; the channel enters SLEEP_PENDING, waits in INTEGRATING, or refuses in BUS_OFF or RECOVERING. -/
  | canModeSleep (req : Req) (ch : Fin 4)
  /-- CAN_PROTOCOL_ERROR (R167): The controller detects a protocol error, sends an error frame, updates LEC, ERR_TYPE, TEC and REC, and may change error state. -/
  | canProtocolError (ch : Fin 4) (kind : CanErr) (inData : Bool) (tecInc recInc : Nat)
  /-- CAN_RECOVER (R166): CMD.RECOVER starts bus-off recovery, or sets BAD_CMD outside BUS_OFF. -/
  | canRecover (req : Req) (ch : Fin 4)
  /-- CAN_RECOVERY_DONE (R148): 128 occurrences of 11 recessive bits are counted in RECOVERING; the counters clear and the channel becomes ERROR_ACTIVE. -/
  | canRecoveryDone (ch : Fin 4)
  /-- CAN_WAKE (R170): The wake detector sees a long dominant level or a matching wake frame; the channel wakes, WAKE_TS is latched, and module sleep ends. -/
  | canWake (ch : Fin 4) (cause : CanWakeCause)
  /-- CAN_RX_VALID (R154): A received frame becomes valid; it is stored in the ring with its timestamp, or discarded and counted when the ring is full. -/
  | canRxValid (ch : Fin 4) (frame : CanFrame) (sof : Word64)
  /-- CAN_RX_WM_TIMEOUT (R159): TIMEOUT_US passes with unread entries and RX_WM is set. -/
  | canRxWmTimeout (ch : Fin 4)
  /-- CAN_TX_START (R162): At a point where it may start a frame, the controller offers the ready head with the lowest identifier, keeping the bus free for a launch. -/
  | canTxStart (ch : Fin 4)
  /-- CAN_TX_SUCCESS (R165): An own frame becomes valid for the transmitter; its OWN ring entry is stored and the descriptor is written back and retired SENT or SENT_LATE. -/
  | canTxSuccess (ch : Fin 4) (loopDelay : Nat) (measured : Nat)
  /-- CAN_TX_DROP_LATE (R163): A DROP_LATE descriptor has not started by LAUNCH + MAX_LATE_US and retires DROPPED_LATE. -/
  | canTxDropLate (ch : Fin 4) (queue : Fin 3)
  /-- CAN_POP (R157): CMD.POP advances RX_RD_FW by one and loads the head window from the shadow buffer, or sets BAD_CMD. -/
  | canPop (req : Req) (ch : Fin 4)
  /-- CAN_ABORT_Q1 (R164): CMD.ABORT_Q1 retires every unstarted Q1 descriptor ABORTED. -/
  | canAbortQ1 (req : Req) (ch : Fin 4)
  /-- CAN_ABORT_Q2 (R164): CMD.ABORT_Q2 retires every unstarted Q2 descriptor ABORTED. -/
  | canAbortQ2 (req : Req) (ch : Fin 4)
  /-- CAN_RX_RD_FW_WRITE (R157): A write of RX_RD_FW releases entries and reloads the head window. -/
  | canRxRdFwWrite (req : Req) (ch : Fin 4) (index : BitVec 16)
  /-- CAN_RX_CFG_WRITE (R155): A write of RX_CFG.FW_CONSUMER adds the firmware consumer with an empty ring, or removes it. -/
  | canRxCfgWrite (req : Req) (ch : Fin 4) (fwConsumer : Bool)
  /-- CAN_TXQ_WR_WRITE (R160): A write of TXQ1_WR or TXQ2_WR queues descriptors, or is refused with RING_PTR. -/
  | canTxqWrWrite (req : Req) (ch : Fin 4) (second : Bool) (index : BitVec 16)
  /-- FNET_SYNC_QUEUE (R182): For each 1 ms cycle, FNET queues a SYNC with DROP_LATE in Q0 of every enabled channel. -/
  | fnetSyncQueue
  /-- FNET_TIME_QUEUE (R205): After each whole second of module time, FNET queues a TIME frame following the next SYNC. -/
  | fnetTimeQueue
  /-- DISC_OPEN (R202): FNET sends DISC_OPEN after the first SYNC and every PERIOD_S while a table station is ABSENT or LOST. -/
  | discOpen (ch : Fin 4)
  /-- ANNOUNCE (R201): The scan engine takes a valid ANNOUNCE and answers with ASSIGN from the station table, raising PARKED, MISWIRED or DUPLICATE once per serial. -/
  | announce (ch : Fin 4)
  /-- HELLO (R209): The scan engine takes a HELLO; a matching serial moves the station to CONFIGURING with CFG_CHECK, and another serial is counted in BAD_FRAME. -/
  | hello (ch : Fin 4)
  /-- HELLO_TIMEOUT (R209): No HELLO arrives within 20 ms of ASSIGN and the station returns to ABSENT. -/
  | helloTimeout (ch : Fin 4) (addr : Nat)
  /-- CFG_ACK (R204): The scan engine takes a CFG_ACK and sends CFG_WRITE blocks and CFG_COMMIT, repeats the exchange, or concludes an OUT_SET. -/
  | cfgAck (ch : Fin 4)
  /-- CFG_TIMEOUT (R204): A station fails to answer in time; the exchange is repeated or, on the third failure, the station enters CFG_FAIL. -/
  | cfgTimeout (ch : Fin 4) (addr : Nat)
  /-- INIT_REPORT (R190): The scan engine takes an INIT_REPORT, keeps its values and moves the station to READY or REJOINING with an OUT_SET. -/
  | initReport (ch : Fin 4)
  /-- START (R205): When every table station is READY, the module sends START with cycle N_s on every channel. -/
  | start
  /-- OUT_SET_TIMEOUT (R209): No CFG_ACK arrives within 10 ms of an OUT_SET; it is sent again, and after the third failure the station becomes LOST. -/
  | outSetTimeout (ch : Fin 4) (addr : Nat)
  /-- STATION_PRESENT (R209): Cycle N_s begins and READY stations become PRESENT with their INIT values written. -/
  | stationPresent
  /-- MFP_INPUT_FRAME (R190): The scan engine takes a FAST_IN, STD_IN or SLOW_IN entry from the ring and writes dated values and quality into the I/O image, or discards it as stale or bad. -/
  | mfpInputFrame (ch : Fin 4)
  /-- MFP_COS_FRAME (R190): The scan engine takes a COS frame and writes each entry dated by SEQ and DT. -/
  | mfpCosFrame (ch : Fin 4)
  /-- MFP_ALARM_FRAME (R189): The scan engine takes an ALARM frame from a station. -/
  | mfpAlarmFrame (ch : Fin 4)
  /-- IOS_OUTPUT_BUILD (R191): At a frame's build instant, the scan engine builds an output frame from the visible image words and queues it in Q0 with DROP_LATE. -/
  | iosOutputBuild (ch : Fin 4) (frame : Nat)
  /-- IOS_Q0_ENQUEUE (R191): A frame waiting for a full Q0 enters it when an entry frees, in build order. -/
  | iosQ0Enqueue (ch : Fin 4)
  /-- STATION_MISSED_CYCLE (R209): One ms after the end of an STD cycle, each station without a valid STD_IN counts a miss, and after the third it becomes LOST. -/
  | stationMissedCycle
  /-- START_TMO (R208): FNET.START_TMO expires before IMAGE_FULL; START is sent, unfinished stations become LOST, TIMEOUT is set and task release is permitted. -/
  | startTmo
  /-- IOS_EVT_READ (R216): A read of IOS.EVT removes and returns the head of the event FIFO. -/
  | iosEvtRead (req : Req)
  /-- FW_DATA_SEND (R538): The scan engine sends the next FW_DATA frame of a station staging, at most one per 4 ms per channel, resending on a missing FW_ACK. -/
  | fwDataSend (ch : Fin 4)
  /-- FW_ACK (R538): The scan engine takes a FW_ACK giving the next offset that the station expects. -/
  | fwAck (ch : Fin 4)
  /-- FW_STAT (R537): The scan engine takes a FW_STAT answer to BEGIN, END, QUERY or ABORT, advancing or failing the staging. -/
  | fwStat (ch : Fin 4)
  /-- TASK_RELEASE (R237): A cyclic release instant comes; a waiting task enters its latch cycle, or the release is skipped and counted as an overrun. -/
  | taskRelease (t : Fin 16)
  /-- TASK_TRIGGER (R240): An event trigger reaches TASK; a waiting event task is latched after 1 to 20 cycles, or the trigger is skipped. -/
  | taskTrigger
  /-- TASK_LATCH_DONE (R230): The snapshot copy of a task completes and the task becomes RELEASED and possibly dispatchable. -/
  | taskLatchDone (t : Fin 48)
  /-- DISPATCH (R234): A read of TASK.DISPATCHc moves the dispatchable task of core c to RUNNING and returns it. -/
  | dispatch (req : Req) (c : Fin 2)
  /-- COMMIT (R233): A write of TASK.COMMITc for the most recently dispatched running task starts its commit, or sets BAD_COMMIT. -/
  | commit (req : Req) (c : Fin 2) (t : BitVec 6)
  /-- TASK_PUBLISH (R233): The commit publishes every written output in one cycle, records the response time, forms the TASK copy unit and returns the task to WAITING. -/
  | taskPublish (t : Fin 48)
  /-- TASK_BUDGET_EXPIRE (R238): An instance has not published BUDGET µs after its release; BUDGET_ACc is set and a Cairn warning is written. -/
  | taskBudgetExpire (t : Fin 48)
  /-- SW_TRIG (R240): A write of TASK.SW_TRIG triggers each event task of KIND SOFTWARE whose bit is set. -/
  | swTrig (req : Req) (value : Word)
  /-- TASK_ENABLE (R248): TCFGt.EN is written 1; settings and lists are checked and the task enters WAITING, or BLK_FAULT.LIST is set. -/
  | taskEnable (req : Req) (t : Fin 48)
  /-- TASK_DISABLE (R248): TCFGt.EN is written 0; a waiting, latching or released instance is withdrawn and the task becomes DISABLED. -/
  | taskDisable (req : Req) (t : Fin 48)
  /-- IMAGE_KEEPER_VISIT (R226): The image keeper visits a point word and marks it aged when its age has reached 2^23 units. -/
  | imageKeeperVisit (pid : Nat)
  /-- OCHG_ARM (R261): The OCHG_ARM mailbox request checks the package, signature and partner, arms TASK with a 10 s limit and tests for a gap. -/
  | ochgArm (core : Fin 4) (sigOk digestOk partnerOk : Bool)
  /-- OCHG_CANCEL (R261): The OCHG_CANCEL mailbox request disarms an armed change, or answers TOO_LATE or BUSY. -/
  | ochgCancel (core : Fin 4)
  /-- OCHG_TIMEOUT (R261): The 10 s limit of an armed change is reached without a gap; it is disarmed with answer NO_GAP. -/
  | ochgTimeout
  /-- QUIESCENT_GAP (R262): TASK finds a quiescent gap and holds every release and trigger, starting the armed switch, handover or update hold. -/
  | quiescentGap
  /-- CARRY_OVER_DONE (R263): The carry-over copy of an online change completes, and point changes, task installation and force releases follow. -/
  | carryOverDone
  /-- OCHG_SWITCH_DONE (R263): Banks are exchanged, AC0 and AC1 restart at ENTRY, deferred force stores apply, TASK resumes and SWITCHED is answered. -/
  | ochgSwitchDone
  /-- OCHG_RECORD_DONE (R267): The anchor completes the flash program record of the switched package. -/
  | ochgRecordDone
  /-- FORCE_STORE (R271): A 64-bit store to word 0 of a force table entry sets, changes or releases a force, or is refused. -/
  | forceStore (req : Req) (entry : Fin 512) (word : Word64)
  /-- LOOP_SAMPLE (R286): Module time reaches a slot's sample instant; a fixed-phase slot latches its inputs and closes AIN holds, and a deadline slot becomes due. -/
  | loopSample (slot : Fin 512)
  /-- LOOP_FIXED_EVALUATION (R287): A lane evaluates its fixed-phase slots in the first window after conversion, in cascade and slot order. -/
  | loopFixedEvaluation (lane : Fin 4)
  /-- LOOP_FIXED_OUTPUT (R287): At s0 + 2,048 cycles, a fixed-phase output is published to the image and to the DAC. -/
  | loopFixedOutput (slot : Fin 16)
  /-- LOOP_EVALUATION (R288): A lane evaluates a due deadline slot in one window: it judges the inputs, runs the law or holds, and publishes in the window's last cycle. -/
  | loopEvaluation (lane : Fin 4)
  /-- LOOP_DEADLINE_MISS (R288): A due deadline slot reaches its deadline unevaluated; it is removed from the queue and the miss is counted. -/
  | loopDeadlineMiss (slot : Fin 512)
  /-- LOOP_SLOT_ENABLE (R307): A bit of LOOP.ENk is written 1; the slot is checked and enabled with its statistics cleared, or refused with a reason. -/
  | loopSlotEnable (req : Req) (slot : Fin 512)
  /-- LOOP_SLOT_DISABLE (R298): A bit of LOOP.ENk is written 0; no later instant is taken and the output holds. -/
  | loopSlotDisable (req : Req) (slot : Fin 512)
  /-- LOOP_LANE_FAULT (R309): A lane finds an uncorrectable slot block or a self-check mismatch; it stops and republishes its outputs with Q BAD. -/
  | loopLaneFault (lane : Fin 4) (selfCheck : Bool)
  /-- STAT_CLR_SLOT (R335): A write of LOOP.STAT_CLR with a SLOT clears that slot's statistics and sets STAT_SINCE. -/
  | statClrSlot (req : Req) (slot : Fin 512)
  /-- STAT_CLR_ALL (R335): A write of LOOP.STAT_CLR with ALL clears the statistics of every slot. -/
  | statClrAll (req : Req)
  /-- LIO_AIN_HOLD (R301): Module time reaches a 10 µs grid instant; every AIN track-and-hold closes and the DIO inputs are sampled. -/
  | lioAinHold (volts : List Int) (levels : BitVec 16)
  /-- LIO_AIN_RESULT (R301): 1,024 cycles after the hold, the conversions are written to their points with CLIP where limited. -/
  | lioAinResult
  /-- LIO_AOUT_SHORT (R315): An analogue output enters current limit and SHORT is set. -/
  | lioAoutShort (n : Fin 4)
  /-- INJ_START (R324): INJi_CMD.START checks the unit and starts injection at the slot's next published instant, or refuses it with REASON 6. -/
  | injStart (req : Req) (n : Fin 4)
  /-- INJ_STOP (R327): INJi_CMD.STOP ends an injection unit with REASON 2. -/
  | injStop (req : Req) (n : Fin 4)
  /-- CAP_ARM (R330): CAPj_CMD.ARM arms a capture unit, or refuses it with REASON 6. -/
  | capArm (req : Req) (j : Fin 4)
  /-- CAP_STOP (R330): CAPj_CMD.STOP ends a capture unit with REASON 2. -/
  | capStop (req : Req) (j : Fin 4)
  /-- MOD_FAULT (R349): 256 consecutive identical bits on an enabled MOD pin put the channel in MOD_FAULT and invalidate its circuits. -/
  | modFault (c : Fin 24)
  /-- MOD_FAULT_CLEAR (R349): 10 ms pass without such a run and MOD_FAULT clears. -/
  | modFaultClear (c : Fin 24)
  /-- MTR_TEMP_UPDATE (R355): Every 100 ms, each temperature source is read and the channel corrections are recomputed, with fallback to TSENS. -/
  | mtrTempUpdate
  /-- CAL_LOAD (R356): CAL_CMD.LOAD copies every active calibration block into staging. -/
  | calLoad (req : Req)
  /-- CAL_COMMIT (R356): CAL_CMD.COMMIT checks the staging blocks and makes them active from one common sample, or refuses with a reason. -/
  | calCommit (req : Req)
  /-- CIRC_ENABLE (R359): CIRCm_CFG.EN is written 1; the circuit is checked and enabled, or refused with a reason. -/
  | circEnable (req : Req) (m : Fin 18)
  /-- CIRC_DISABLE (R359): CIRCm_CFG.EN is written 0; the circuit leaves VALID and a partial cycle is discarded. -/
  | circDisable (req : Req) (m : Fin 18)
  /-- ZERO_CROSSING (R361): A calibrated voltage channel gives an accepted positive-going crossing; it closes a line cycle and may make a circuit VALID. -/
  | zeroCrossing (ch : Fin 6) (inp : ChanIn)
  /-- ZC_LOST (R363): No crossing arrives within TIMEOUT_MS; the channel is ZC_LOST and timed windows start, or a feeder moves phase. -/
  | zcLost (ch : Fin 6)
  /-- TIMED_WINDOW (R363): A timed window of duration T_h closes and is handed on as a cycle with TIMED. -/
  | timedWindow (m : Fin 18)
  /-- CYCLE_RECORD (R368): The front end writes a closed cycle's record into the circuit ring and hands it to the energy accumulators. -/
  | cycleRecord (m : Fin 18) (cyc : CycleIn)
  /-- WINDOW (R369): A 10-cycle window ends and its RMS, power, PF, frequency and THD points are published. -/
  | window (m : Fin 18) (delay : Nat)
  /-- NRG_RECORD_ADD (R380): NRG adds a handed-on record to the accumulators, the tallies and the demand interval. -/
  | nrgRecordAdd
  /-- INTERVAL_CLOSE (R387): A demand interval closes at NOM_END + 2 ms, its record is written to the demand ring, and the next interval opens. -/
  | intervalClose (m : Fin 18)
  /-- NRG_SAVE_PERIODIC (R392): PERIOD_S seconds of monotonic time pass and a periodic save of the energy state starts. -/
  | nrgSavePeriodic
  /-- NRG_SAVE_DONE (R392): A save completes with its CRC written last; SAVE_DONE is set and a merged pending cause starts the next save. -/
  | nrgSaveDone (writeFailed : Bool)
  /-- NRG_UNIT_WRITE (R384): A write of CIRCm_TCFG.UNIT recomputes every tally of the circuit, or is refused for UNIT 7. -/
  | nrgUnitWrite (req : Req) (m : Fin 18) (unit : BitVec 3)
  /-- NRG_TOT_READ (R382): A read of NRG.TOT_LO returns the selected total's low word and latches TOT_HI. -/
  | nrgTotRead (req : Req)
  /-- NRG_TALLY_READ (R385): A read of NRG.TALLY returns the selected tally and latches TALLY_WRAP. -/
  | nrgTallyRead (req : Req)
  /-- EXPORT_CREATE (R396): EXP_CMD.CREATE saves with REASON 4, writes the export record and asks the anchor to sign it, or is refused. -/
  | exportCreate (req : Req)
  /-- EXPORT_DONE (R553): The anchor completes the device-key signature of the export record and EXP_STAT becomes READY. -/
  | exportDone
  /-- RTC_SECOND (R404): The RTC completes a second and advances the calendar by the Gregorian rule, with ROLL after 2399. -/
  | rtcSecond
  /-- RTC_SEC_READ (R405): A read of RTC_SEC copies the mirror into the shadows and sets FROZEN. -/
  | rtcSecRead (req : Req)
  /-- RTC_YEAR_HI_READ (R405): A read of RTC_YEAR_HI returns its shadow and clears FROZEN. -/
  | rtcYearHiRead (req : Req)
  /-- RTC_FREEZE_TIMEOUT (R405): 2 ms after the freezing read, FROZEN clears. -/
  | rtcFreezeTimeout
  /-- LOAD (R406): RTC_CMD.LOAD checks the staged fields and schedules the load for the next CK_AON edge, or refuses it. -/
  | load (req : Req)
  /-- LOAD_SEC (R406): RTC_CMD.LOAD_SEC checks the staged fields and sets PENDING for the next whole second, or refuses it. -/
  | loadSec (req : Req)
  /-- RTC_LOAD_APPLY (R406): A pending LOAD or LOAD_SEC is applied at its instant; VALID is set, and module time is stepped if TIME_INVALID. -/
  | rtcLoadApply
  /-- RTC_TIME_LOST (R409): VBAT falls below 2.0 V with VIN absent; VALID clears and LOST is set. -/
  | rtcTimeLost
  /-- CD_START (R410): RTC_CD_CTL.EN is written 1 and the countdown loads RTC_CD_LOAD. -/
  | cdStart (req : Req)
  /-- CD_STOP (R410): RTC_CD_CTL.EN is written 0 and the counter stops. -/
  | cdStop (req : Req)
  /-- CD_EXPIRE (R410): The countdown reaches 0; CD_EXPIRED is set, the counter reloads or stops, and with WAKE the module leaves sleep. -/
  | cdExpire
  /-- PTP_SAMPLE_COMMIT (R413): A write of MO_HId commits a domain sample, which updates the servo estimates and lock state or is refused. -/
  | ptpSampleCommit (req : Req) (d : Fin 2) (hi : Word)
  /-- DOMAIN_ENABLE (R414): DCFGd.EN is written 1; the estimates are cleared and the domain becomes ACQUIRING. -/
  | domainEnable (req : Req) (d : Fin 2)
  /-- DOMAIN_DISABLE (R414): DCFGd.EN is written 0; the domain becomes IDLE and is deselected if active. -/
  | domainDisable (req : Req) (d : Fin 2)
  /-- HOLDOVER (R414): HOLD_S seconds pass without a sample; the domain enters HOLDOVER and an AUTO switch may follow. -/
  | holdover (d : Fin 2)
  /-- PTP_SELECT (R416): A write of ACT.SEL switches the active domain without a step, or is refused. -/
  | ptpSelect (req : Req) (sel : BitVec 2)
  /-- SLEW_DONE (R415): The absolute offset falls to LOCK_NS while slewing and SLEW_DONE is set. -/
  | slewDone
  /-- STEP_CMD (R418): A write of STEP_CMD_HI while no domain is selected schedules a step of the written amount, or is refused. -/
  | stepCmd (req : Req) (hi : Word)
  /-- TIME_STEP (R419): At STEP_AT, module time and every follower are stepped together and the consequences of R428 are applied. -/
  | timeStep
  /-- SCHEDULE_FIRE (R426): Module time reaches an armed schedule entry's T_NEXT; it fires, sets pending bits, triggers SCHEDULE tasks and advances. -/
  | scheduleFire (entry : Fin 256)
  /-- SCHEDULE_ENTRY_STORE (R425): A 64-bit store to a schedule entry word arms, disarms or updates it, or is refused. -/
  | scheduleEntryStore (req : Req) (entry : Fin 256) (word : Fin 4) (data : Word64)
  /-- ETH_FRAME_RX (R437): A frame completes at a port; it is stamped, checked and forwarded by VLAN, learning, storm limit, spanning-tree state or HSR rules. -/
  | ethFrameRx (port : Fin 4) (frame : EthFrame) (transit : Nat)
  /-- ETH_LINK_CHANGE (R436): A port's link goes up or down; LINK_CHG is set, launched frames retire LINK_DOWN, and HSR_FAULT may be raised. -/
  | ethLinkChange (port : Fin 4) (up : Bool)
  /-- SFP_CHG (R436): SFPn_PRES_n, LOS or TXFLT changes; TXDIS is driven accordingly and SFP_CHG is set. -/
  | sfpChg (cage : Fin 2) (present los txFault : Bool)
  /-- FDB_AGE_OUT (R439): A learned address reaches AGE seconds without traffic and is removed. -/
  | fdbAgeOut
  /-- FDB_FLUSH_ALL (R458): A write of FDB_FLUSH with ALL flushes every learned entry. -/
  | fdbFlushAll (req : Req)
  /-- FDB_FLUSH_PORTS (R458): A write of FDB_FLUSH with PORTS flushes the entries learned on the named ports. -/
  | fdbFlushPorts (req : Req) (ports : BitVec 5)
  /-- MAC4_TX_WR_WRITE (R443): A write of MAC4.TX_WR hands transmit descriptors to MAC4, or is refused. -/
  | mac4TxWrWrite (req : Req) (index : BitVec 17)
  /-- MAC4_TX_DESCRIPTOR (R444): MAC4 takes a transmit descriptor, forwards or queues the frame for launch, or refuses it, and writes it back. -/
  | mac4TxDescriptor
  /-- MAC4_RX_RD_WRITE (R443): A write of MAC4.RX_RD hands receive buffers back to MAC4. -/
  | mac4RxRdWrite (req : Req) (index : BitVec 17)
  /-- ETH_LAUNCH (R445): A frame in a port's launch queue reaches its launch time and leaves, retiring SENT or SENT_LATE. -/
  | ethLaunch (port : Fin 4) (jitter : Nat)
  /-- ETH_DROP_LATE (R445): A DROP_LATE launched frame has not started by LAUNCH + MAX_LATE_US and retires DROPPED_LATE. -/
  | ethDropLate (port : Fin 4)
  /-- COMMAND_EXCHANGE_STORE (R447): A 64-bit store to word 0 of a command slot is admitted by owner and stamped with time and compartment. -/
  | commandExchangeStore (req : Req) (slot : Fin 8192) (word : Word64)
  /-- ACCESS_REQUEST (R452): The reference firmware takes an access-reader request datagram and answers with a grant or denial from the cache within 5 ms. -/
  | accessRequest (r : AccessRequest)
  /-- HISTORIAN_SAMPLE (R450): The reference firmware writes a trended point's record into the historian ring at its interval or on change. -/
  | historianSample (pid : Fin 12288)
  /-- HS (R467): The HS mailbox request passes handshake bytes to the anchor, which makes a session live and bound to a compartment when the policy allows. -/
  | hs (core : Fin 4) (src : Word64) (len out : Word) (reply : List Byte) (live : Option HsLive)
  /-- ENTER (R468): The ENTER mailbox request switches the requesting core into a live session's compartment, or is refused. -/
  | enter (core : Fin 4) (handle : Word)
  /-- LEAVE (R468): The LEAVE mailbox request switches the requesting core to BASE. -/
  | leave (core : Fin 4)
  /-- CMPT_SWITCH (R469): The anchor writes CURc; the core is stopped, drained, its registers zeroed, and it resumes at ENTRYc in the new state. -/
  | cmptSwitch (core : Fin 2) (value : Word)
  /-- OPEN (R471): The OPEN mailbox request decrypts one session record into the compartment's destination, or ends the session on failure. -/
  | openRecord (core : Fin 4) (src : Word64) (len dst : Word) (out : RecordOut)
  /-- SEAL (R471): The SEAL mailbox request encrypts one record from the compartment under the session's send key. -/
  | seal (core : Fin 4) (src : Word64) (len dst : Word) (out : RecordOut)
  /-- CLOSE (R556): The CLOSE mailbox request ends a session. -/
  | close (core : Fin 4) (handle : Word)
  /-- SESSION_IDLE_TIMEOUT (R467): A session's idle time passes and the session ends. -/
  | sessionIdleTimeout (handle : BitVec 16)
  /-- SCRATCH_WIPE_DONE (R470): The wipe of scratch window N completes and ENTER for N is accepted again. -/
  | scratchWipeDone (n : Fin 64)
  /-- IDENTITY_MESSAGE (R478): A Belay identity message arrives, revealing the partner's side, role, serial and digests. -/
  | identityMessage (m : IdMsg)
  /-- ROLE_DECIDE (R478): Before field channels open, the module takes its role from the partner and from foreign SYNCs. -/
  | roleDecide
  /-- COLD_TAKE (R479): A WAIT or unsynced standby hears no foreign SYNC for 20 ms and takes the floor by a full start as ALONE. -/
  | coldTake
  /-- LANE_DOWN (R482): A Belay lane loses lock for 1 µs or carries 16 bad frames in 10 ms and goes down. -/
  | laneDown (lane : Fin 2) (lockLost : Bool) (badFrames : Nat)
  /-- LANE_UP (R482): A Belay lane holds lock for 100 ms without a bad frame and comes up. -/
  | laneUp (lane : Fin 2)
  /-- HEARTBEAT_SEND (R481): Every 50 µs the module sends a heartbeat on both lanes. -/
  | heartbeatSend
  /-- HEARTBEAT_RX (R483): A heartbeat arrives; the link delay, time steering and TIME_INVALID of a standby follow from it. -/
  | heartbeatRx (mt mono : Word64) (lastRx : Option Word64) (timeInvalid : Bool)
  /-- HEARTBEAT_MISS (R490): No heartbeat arrives within 55 µs of the previous due time; at the fourth consecutive miss a fail-over may be decided. -/
  | heartbeatMiss
  /-- DOWN (R490): The DOWN ordered set is received and a synced standby decides fail-over within 1 µs. -/
  | down
  /-- LINK_LOSS_DECIDE (R490): With both lanes out of lock, the standby decides fail-over at the first SYNC instant plus LATE_US unless a foreign SYNC was stored. -/
  | linkLossDecide
  /-- BG_UNIT (R484): At every 1 ms boundary the active module forms a BG copy unit. -/
  | bgUnit
  /-- COPY_UNIT_APPLY (R484): The standby receives a whole copy unit and applies it within 20 µs, or leaves SYNCED on failure. -/
  | copyUnitApply (unit : CopyUnit) (arrived : Bool)
  /-- SYNCED (R487): A RESYNC pass ends with nothing left and every unit applied; the pair enters SYNCED. -/
  | synced
  /-- SWAP (R489): BEL.CMD.SWAP requests a planned handover, which checks its conditions and searches for a gap. -/
  | swap (req : Req)
  /-- CANCEL (R499): BEL.CMD.CANCEL withdraws a pending SWAP before its gap is found. -/
  | cancel (req : Req)
  /-- RELINQUISH (R499): BEL.CMD.RELINQUISH makes an active module with a synced partner send DOWN and demote to STANDBY. -/
  | relinquish (req : Req)
  /-- SWAP_DUE (R493): SWAP_CFG.HOURS of monotonic time pass and a periodic planned handover starts. -/
  | swapDue
  /-- SWAP_REFUSED (R489): No handover gap is found within 10 s, or a condition fails, and the handover is refused. -/
  | swapRefused
  /-- PROMOTE (R491): The standby applies its complete units and becomes active at instant P, taking SYNC, tasks, loops, outputs and the service address. -/
  | promote
  /-- ALIVE (R492): A write of BEL.ALIVE restarts the firmware liveness limit. -/
  | alive (req : Req)
  /-- ALIVE_TIMEOUT (R492): MS milliseconds pass without an ALIVE write; the active module sends DOWN and demotes, or only records DEMOTED when alone. -/
  | aliveTimeout
  /-- CKPT_SAVE (R495): Every CKPT_CFG.S seconds, BEL starts writing the persist shadow into the other checkpoint slot. -/
  | ckptSave
  /-- CKPT_DONE (R495): A checkpoint save completes with its CRC written last and CKPT_DONE is set. -/
  | ckptDone
  /-- CAIRN_RECORD_SUBMIT (R504): A block or the anchor submits a record, which is numbered and accepted into the intake queue or dropped when the queue is full. -/
  | cairnRecordSubmit (r : CairnRec)
  /-- CAIRN_RECORD_STORE (R507): A queued record reaches storage and is written into a free slot, replaces a lower-severity record, or is dropped. -/
  | cairnRecordStore
  /-- CAIRN_LOSS (R504): The intake queue becomes empty after drops and one LOSS record is written. -/
  | cairnLoss
  /-- CAIRN_INDEX_READY (R503): The recorder rebuilds its index after reset, sets INDEX_READY and writes an INDEX record. -/
  | cairnIndexReady
  /-- CLEAR (R513): CAIRN.CMD with OP CLEAR removes every record up to CLEAR_TO and writes a CLEARED record. -/
  | clear (req : Req)
  /-- TEST_ENTER (R506): CAIRN.CMD with OP TEST_ENTER moves the recorder from NORMAL to TEST in BLANK or SERVICE, or sets BAD_CMD. -/
  | testEnter (req : Req)
  /-- TEST_LEAVE (R506): CAIRN.CMD with OP TEST_LEAVE returns the recorder from TEST to NORMAL, or sets BAD_CMD. -/
  | testLeave (req : Req)
  /-- FIRST (R510): A reader context CMD with OP FIRST starts a search for the lowest visible record. -/
  | first (k : Fin 5)
  /-- NEXT (R510): A reader context CMD with OP NEXT starts a search for the lowest visible record above CURSOR. -/
  | next (k : Fin 5)
  /-- LAST (R510): A reader context CMD with OP LAST starts a search for the highest visible record. -/
  | last (k : Fin 5)
  /-- CAIRN_SEARCH_DONE (R510): A reader command completes within 3 µs and WIN, NUM, CURSOR and STAT change in one cycle. -/
  | cairnSearchDone (k : Fin 5)
  /-- SUBMIT (R512): A reader context CMD with OP SUBMIT accepts the SUB record into the intake queue, or refuses it. -/
  | submit (k : Fin 5)
  /-- POINT_SUMMARY (R515): A summary interval closes and each logged point that changed writes a POINT_SUMMARY record. -/
  | pointSummary
  /-- UPD_BEGIN (R535): The UPD_BEGIN mailbox request invalidates the inactive bank, issues an UPD_ID and enters RECEIVING, or is refused. -/
  | updBegin (core : Fin 4) (len : Word)
  /-- UPD_SUBMIT (R534): A write of UPD.SUBMIT marks a window slot BUSY for checking. -/
  | updSubmit (req : Req) (slot : Fin 8)
  /-- UPD_BLOCK_DONE (R534): The update unit checks a block, writes a new block to the inactive image bank or refuses it, and clears BUSY. -/
  | updBlockDone (slot : Fin 8) (link : Option LinkBlock) (writeOk : Bool)
  /-- UPD_VERIFY (R536): The UPD_VERIFY mailbox request starts verification of the complete container, or is refused with reason 7. -/
  | updVerify (core : Fin 4)
  /-- UPD_VERIFY_DONE (R536): Verification of manifest and part digests from flash completes, and the update enters STAGING or returns to IDLE with a reason. -/
  | updVerifyDone (sigOk : Bool) (out : VerifyOut)
  /-- UPD_PARTNER_REPORT (R539): The partner reports READY or its reason for the container sent over the Belay link. -/
  | updPartnerReport (build : BitVec 64) (reason : BitVec 4)
  /-- UPD_READY (R540): Every staged station, the partner and the BASE check are ready, and the update becomes READY. -/
  | updReady
  /-- UPD_ACTIVATE (R541): The UPD_ACTIVATE mailbox request copies the program part into the inactive bank and searches for a gap. -/
  | updActivate (core : Fin 4)
  /-- UPD_GAP_TIMEOUT (R535): No gap is found within 10 s of activation and the update returns to READY with reason 11. -/
  | updGapTimeout
  /-- UPD_ANCHOR_REENTRY (R541): The anchor re-enters through the boot ROM and loads and checks the new anchor image. -/
  | updAnchorReentry
  /-- UPD_SERVICE_LOAD_DONE (R541): The new service firmware and metering tables are loaded and committed. -/
  | updServiceLoadDone
  /-- UPD_BOOT_RECORD_WRITTEN (R541): The boot record is written with the new bank in TRIAL, banks are exchanged and the cores restart. -/
  | updBootRecordWritten
  /-- HOLD_END (R541): The hold ends, tasks are released again, and ACTIVATE is sent to staged stations for cycle N_a. -/
  | holdEnd
  /-- UPD_ABORT (R535): The UPD_ABORT mailbox request sends ABORT to staged stations and returns the update to IDLE with reason 12. -/
  | updAbort (core : Fin 4)
  /-- UPD_CONFIRM (R549): The UPD_CONFIRM mailbox request confirms a trial: anti-rollback fuses are burned and TRIAL is cleared. -/
  | updConfirm (core : Fin 4)
  /-- UPD_AUTO_CONFIRM (R549): 3,600 s of monotonic time pass without reset and with READY high, and the trial is confirmed. -/
  | updAutoConfirm
  /-- CHALLENGE (R552): The CHALLENGE mailbox request issues a new 64-bit challenge. -/
  | challenge (core : Fin 4)
  /-- CHALLENGE_EXPIRE (R552): 600 s of monotonic time pass and the challenge becomes void. -/
  | challengeExpire
  /-- LC_CMD (R125): The LC_CMD mailbox request checks a signed lifecycle or key command and performs or refuses the change. -/
  | lcCmd (core : Fin 4) (src : Word64) (len : Word) (sigOk : Bool)
  /-- DEVICE_KEY (R553): The DEVICE_KEY mailbox request returns the 64-byte device public key. -/
  | deviceKey (core : Fin 4) (dst : Word64)
  /-- SLEEP (R171): The SLEEP mailbox request grants module sleep after a save and Cairn flush, or answers REFUSED. -/
  | sleep (core : Fin 4)
  /-- UTC_STORE (R556): The UTC_STORE mailbox request stores the TAI−UTC offset in the configuration region. -/
  | utcStore (core : Fin 4) (offset : Word)
  /-- RECOVERY_CONSOLE_FRAME (R554): In recovery, the anchor takes a console frame, writes or refuses the block, and verifies and boots the container after the last one. -/
  | recoveryConsoleFrame (bytes : List Byte) (sigOk digestsOk : Bool)
  /-- SYMBOL_LOCK (R478): A Belay lane reaches symbol lock; LANE.LOCKn is set and the exchange of identity messages on that lane begins. -/
  | symbolLock (lane : Fin 2)
  /-- IDENTITY_MESSAGE_SEND (R478): Every 1 ms from symbol lock, the module sends an identity message carrying side, role, pair state, serial and digests on both lanes. -/
  | identityMessageSend
  /-- HSR_UNIQ (R441): 400 ms pass after an HSR frame was seen on one ring port without its copy on the other, and the frame is counted in HSR_UNIQ0 or HSR_UNIQ1, possibly raising HSR_FAULT. -/
  | hsrUniq
  /-- PARTNER_IMAGE_LOADED (R487): The standby's anchor finishes verifying and loading the configuration image and program package sent by the active module, and the pair enters RESYNC with its alignment. -/
  | partnerImageLoaded (img : Option ConfigImage) (program : Option (List (Nat × Byte)))
  /-- ALWAYS_ON_SUPPLY_SWITCH (R69): VIN crosses 7.5 V and the always-on domain switches its supply between VIN and VBAT without losing a CK_AON cycle. -/
  | alwaysOnSupplySwitch
  /-- AOUT_SHORT_END (R315): An analogue output leaves current limit and its LIO.AOUTn.SHORT bit returns to 0. -/
  | aoutShortEnd (n : Fin 4)
deriving DecidableEq, Repr

end Sys2Proof
end

