-- ==== Sys2Proof/Machine/RegNames.lean ====
section
/-! DEFINITION. The names of the register pages (R104), of their registers and fields, and of the event bits of INT_RAW,
each at the offset and bits that the register tables of spec/ give (02 to 19: the tables headed `Offset` and `Bits`).
A register is a key, page number times 0x1000 plus offset (R88); a field is a key and a bit range. -/
namespace Sys2Proof

-- Page numbers of R104.

namespace Pg
def SYS : Nat := 0
def CLK : Nat := 1
def RST : Nat := 2
def INTC : Nat := 3
def ANC : Nat := 4
def TSENS : Nat := 5
def PFW : Nat := 6
def RTC : Nat := 7
def ECC (n : Nat) : Nat := 8 + n
def CAN (n : Nat) : Nat := 16 + n
def FNET : Nat := 20
def IOS : Nat := 21
def TASK : Nat := 22
def LOOP : Nat := 23
def TUNE : Nat := 24
def LIO : Nat := 25
def MTR : Nat := 26
def NRG : Nat := 27
def PTP : Nat := 28
def SW : Nat := 29
def MAC (n : Nat) : Nat := 30 + n
def MAC4 : Nat := 34
def BEL : Nat := 35
def CAIRN : Nat := 36
def UPD : Nat := 37
def CMPT : Nat := 38
end Pg

-- Registers: the key of each in the register file.
namespace R
-- CLK (R42, 01_architecture.md)
def CLK_LOST : Nat := 0x1100
def CLK_LOST_EVER : Nat := 0x1104
def CLK_LAST_RESET : Nat := 0x1108
def CLK_PLL_LOCK : Nat := 0x110c
def CLK_MON_SEL : Nat := 0x1110
def CLK_MON_PPM : Nat := 0x1114
-- TSENS (R83, 02_module_hardware.md)
def TSENS_TEMP : Nat := 0x5100
def TSENS_MAX : Nat := 0x5104
def TSENS_WARN : Nat := 0x5108
-- PFW (R85, 02_module_hardware.md)
def PFW_STAT : Nat := 0x6100
def PFW_COUNT : Nat := 0x6104
def PFW_TS_LO : Nat := 0x6108
def PFW_TS_HI : Nat := 0x610c
def BLK_ID (page : Nat) : Nat := page * 0x1000 + 0x0
def BLK_VER (page : Nat) : Nat := page * 0x1000 + 0x4
def BLK_CTL (page : Nat) : Nat := page * 0x1000 + 0x8
def BLK_STAT (page : Nat) : Nat := page * 0x1000 + 0xc
def INT_RAW (page : Nat) : Nat := page * 0x1000 + 0x10
def INT_EN (page : Nat) : Nat := page * 0x1000 + 0x14
def INT_PEND (page : Nat) : Nat := page * 0x1000 + 0x18
def INT_CLR (page : Nat) : Nat := page * 0x1000 + 0x1c
def BLK_OWNER (page : Nat) : Nat := page * 0x1000 + 0x20
def BLK_FAULT (page : Nat) : Nat := page * 0x1000 + 0x24
-- SYS (R101, 03_registers_interrupts.md)
def SYS_FAULT_ADDR_LO : Nat := 0x100
def SYS_FAULT_ADDR_HI : Nat := 0x104
def SYS_FAULT_COUNT : Nat := 0x108
def SYS_FAULT_MAP_LO : Nat := 0x10c
def SYS_FAULT_MAP_HI : Nat := 0x110
-- INTC (R106, 03_registers_interrupts.md)
def INTC_ROUTE (i : Nat) : Nat := 0x3100 + 0x4 * i
def INTC_THRESH (i : Nat) : Nat := 0x3600 + 0x10 * i
def INTC_CLAIM (i : Nat) : Nat := 0x3604 + 0x10 * i
def INTC_COMPLETE (i : Nat) : Nat := 0x3608 + 0x10 * i
def INTC_SWI_SET : Nat := 0x3700
def INTC_LEVEL (i : Nat) : Nat := 0x3710 + 0x4 * i
-- RST (R121, 04_reset_lifecycle_memory.md)
def RST_CAUSE : Nat := 0x2100
def RST_CMD : Nat := 0x2104
def RST_LC_STAT : Nat := 0x2108
def RST_COLD_COUNT : Nat := 0x210c
def RST_WARM_COUNT : Nat := 0x2110
def RST_BOOT_STAT : Nat := 0x2114
def RST_BOOT_TIME : Nat := 0x2118
-- ECC (R141, 04_reset_lifecycle_memory.md)
def ECC_CE_TOTAL (n : Nat) : Nat := Pg.ECC n * 0x1000 + 0x100
def ECC_BUCKET (n : Nat) : Nat := Pg.ECC n * 0x1000 + 0x104
def ECC_BUCKET_CFG (n : Nat) : Nat := Pg.ECC n * 0x1000 + 0x108
def ECC_CE_ADDR_LO (n : Nat) : Nat := Pg.ECC n * 0x1000 + 0x10c
def ECC_CE_ADDR_HI (n : Nat) : Nat := Pg.ECC n * 0x1000 + 0x110
def ECC_CE_INFO (n : Nat) : Nat := Pg.ECC n * 0x1000 + 0x114
def ECC_UE_COUNT (n : Nat) : Nat := Pg.ECC n * 0x1000 + 0x118
def ECC_UE_ADDR_LO (n : Nat) : Nat := Pg.ECC n * 0x1000 + 0x11c
def ECC_UE_ADDR_HI (n : Nat) : Nat := Pg.ECC n * 0x1000 + 0x120
def ECC_UE_INFO (n : Nat) : Nat := Pg.ECC n * 0x1000 + 0x124
def ECC_SCRUB_PASS (n : Nat) : Nat := Pg.ECC n * 0x1000 + 0x128
def ECC_SCRUB_PERIOD (n : Nat) : Nat := Pg.ECC n * 0x1000 + 0x800
def ECC_TEST_FLIP_LO (n : Nat) : Nat := Pg.ECC n * 0x1000 + 0x804
def ECC_TEST_FLIP_HI (n : Nat) : Nat := Pg.ECC n * 0x1000 + 0x808
def ECC_TEST_CTL (n : Nat) : Nat := Pg.ECC n * 0x1000 + 0x80c
def ECC_TEST_ADDR_LO (n : Nat) : Nat := Pg.ECC n * 0x1000 + 0x810
def ECC_TEST_ADDR_HI (n : Nat) : Nat := Pg.ECC n * 0x1000 + 0x814
-- CAN (R175, 05_field_bus_controllers.md)
def CAN_MODE (n : Nat) : Nat := Pg.CAN n * 0x1000 + 0x100
def CAN_RATE (n : Nat) : Nat := Pg.CAN n * 0x1000 + 0x104
def CAN_STATE (n : Nat) : Nat := Pg.CAN n * 0x1000 + 0x108
def CAN_ERR_CNT (n : Nat) : Nat := Pg.CAN n * 0x1000 + 0x10c
def CAN_ERR_TYPE (n : Nat) : Nat := Pg.CAN n * 0x1000 + 0x110
def CAN_CMD (n : Nat) : Nat := Pg.CAN n * 0x1000 + 0x114
def CAN_RX_CFG (n : Nat) : Nat := Pg.CAN n * 0x1000 + 0x118
def CAN_RX_WR (n : Nat) : Nat := Pg.CAN n * 0x1000 + 0x11c
def CAN_RX_RD_FW (n : Nat) : Nat := Pg.CAN n * 0x1000 + 0x120
def CAN_RX_RD_IOS (n : Nat) : Nat := Pg.CAN n * 0x1000 + 0x124
def CAN_RX_WM (n : Nat) : Nat := Pg.CAN n * 0x1000 + 0x128
def CAN_RX_OVF (n : Nat) : Nat := Pg.CAN n * 0x1000 + 0x12c
def CAN_TXQ1_CFG (n : Nat) : Nat := Pg.CAN n * 0x1000 + 0x130
def CAN_TXQ1_WR (n : Nat) : Nat := Pg.CAN n * 0x1000 + 0x134
def CAN_TXQ1_RD (n : Nat) : Nat := Pg.CAN n * 0x1000 + 0x138
def CAN_TXQ2_CFG (n : Nat) : Nat := Pg.CAN n * 0x1000 + 0x13c
def CAN_TXQ2_WR (n : Nat) : Nat := Pg.CAN n * 0x1000 + 0x140
def CAN_TXQ2_RD (n : Nat) : Nat := Pg.CAN n * 0x1000 + 0x144
def CAN_TXQ0_WR (n : Nat) : Nat := Pg.CAN n * 0x1000 + 0x148
def CAN_TXQ0_RD (n : Nat) : Nat := Pg.CAN n * 0x1000 + 0x14c
def CAN_WAKE_CFG (n : Nat) : Nat := Pg.CAN n * 0x1000 + 0x150
def CAN_WAKE_ID (n : Nat) : Nat := Pg.CAN n * 0x1000 + 0x154
def CAN_WAKE_MASK (n : Nat) : Nat := Pg.CAN n * 0x1000 + 0x158
def CAN_WAKE_DATA (n : Nat) : Nat := Pg.CAN n * 0x1000 + 0x15c
def CAN_WAKE_TS_LO (n : Nat) : Nat := Pg.CAN n * 0x1000 + 0x160
def CAN_WAKE_TS_HI (n : Nat) : Nat := Pg.CAN n * 0x1000 + 0x164
def CAN_WAKE_COUNT (n : Nat) : Nat := Pg.CAN n * 0x1000 + 0x168
def CAN_RX_FRAMES (n : Nat) : Nat := Pg.CAN n * 0x1000 + 0x16c
def CAN_TX_FRAMES (n : Nat) : Nat := Pg.CAN n * 0x1000 + 0x170
def CAN_RXW (n : Nat) (i : Nat) : Nat := Pg.CAN n * 0x1000 + 0x200 + 0x4 * i
def CAN_BT_NOM (n : Nat) : Nat := Pg.CAN n * 0x1000 + 0x800
def CAN_BT_DATA (n : Nat) : Nat := Pg.CAN n * 0x1000 + 0x804
def CAN_TDC (n : Nat) : Nat := Pg.CAN n * 0x1000 + 0x808
-- FNET (R215, 06_mfp_discovery_scan.md)
def FNET_SYNC_CFG : Nat := 0x14100
def FNET_DISC_CFG : Nat := 0x14104
def FNET_START_TMO : Nat := 0x14108
def FNET_Q0_CFG : Nat := 0x1410c
def FNET_CYCLE_LO : Nat := 0x14110
def FNET_CYCLE_HI : Nat := 0x14114
def FNET_LOAD (i : Nat) : Nat := 0x14118 + 0x4 * i
def FNET_SYNC_CNT (i : Nat) : Nat := 0x14128 + 0x4 * i
def FNET_SYNC_ERR (i : Nat) : Nat := 0x14138 + 0x4 * i
-- IOS (R216, 06_mfp_discovery_scan.md)
def IOS_STN_SEL : Nat := 0x15100
def IOS_STN_STAT : Nat := 0x15104
def IOS_STN_SER_LO : Nat := 0x15108
def IOS_STN_SER_HI : Nat := 0x1510c
def IOS_STN_MAXOFF : Nat := 0x15110
def IOS_COUNTS : Nat := 0x15114
def IOS_START_MS : Nat := 0x15118
def IOS_EVT : Nat := 0x1511c
def IOS_DROP_LOST : Nat := 0x15120
def IOS_STALE_FRAME : Nat := 0x15124
def IOS_BAD_FRAME : Nat := 0x15128
def IOS_LATCH_MISS : Nat := 0x1512c
def IOS_LOST_MAP (i : Nat) : Nat := 0x15130 + 0x4 * i
def IOS_Q0_FULL : Nat := 0x15150
-- TASK (R252, 07_cyclic_execution.md)
def TASK_MONO_LO : Nat := 0x16100
def TASK_MONO_HI : Nat := 0x16104
def TASK_MT_OFF_LO : Nat := 0x16108
def TASK_MT_OFF_HI : Nat := 0x1610c
def TASK_DISPATCH0 : Nat := 0x16110
def TASK_DISPATCH1 : Nat := 0x16114
def TASK_COMMIT0 : Nat := 0x16118
def TASK_COMMIT1 : Nat := 0x1611c
def TASK_SW_TRIG : Nat := 0x16120
def TASK_RUN0 : Nat := 0x16124
def TASK_RUN1 : Nat := 0x16128
def TASK_OVR_TOTAL : Nat := 0x1612c
def TASK_NEXT_REL_LO : Nat := 0x16130
def TASK_NEXT_REL_HI : Nat := 0x16134
def TASK_TCFG (i : Nat) : Nat := 0x16140 + 0x20 * i
def TASK_PERIOD (i : Nat) : Nat := 0x16144 + 0x20 * i
def TASK_OFFSET (i : Nat) : Nat := 0x16148 + 0x20 * i
def TASK_LISTS (i : Nat) : Nat := 0x1614c + 0x20 * i
def TASK_BUDGET (i : Nat) : Nat := 0x16150 + 0x20 * i
def TASK_TSTAT (i : Nat) : Nat := 0x16154 + 0x20 * i
def TASK_OVR_CNT (i : Nat) : Nat := 0x16158 + 0x20 * i
def TASK_EXEC_MAX (i : Nat) : Nat := 0x1615c + 0x20 * i
-- LOOP (R312, 09_loop_engine.md)
def LOOP_EN (i : Nat) : Nat := 0x17100 + 0x4 * i
def LOOP_MISS (i : Nat) : Nat := 0x17140 + 0x4 * i
def LOOP_STALE (i : Nat) : Nat := 0x17180 + 0x4 * i
def LOOP_LANE_STAT : Nat := 0x171c0
def LOOP_MISS_TOTAL : Nat := 0x171c4
def LOOP_PARAM_ERR : Nat := 0x171c8
def LOOP_ENREF : Nat := 0x171cc
def LOOP_STAT_CLR : Nat := 0x171d0
def LOOP_WORST (i : Nat) : Nat := 0x171d4 + 0x4 * i
def LOOP_HOS (i : Nat) : Nat := 0x17800 + 0x4 * i
-- LIO (R315, 09_loop_engine.md)
def LIO_AIN (i : Nat) : Nat := 0x19100 + 0x4 * i
def LIO_AIN_TS_LO : Nat := 0x19120
def LIO_AIN_TS_HI : Nat := 0x19124
def LIO_AOUT (i : Nat) : Nat := 0x19128 + 0x4 * i
def LIO_DIO_DIR : Nat := 0x19138
def LIO_DIO_IN : Nat := 0x1913c
def LIO_DIO_OUT : Nat := 0x19140
def LIO_DIO_CHG_EN : Nat := 0x19144
-- TUNE (R334, 10_loop_tuning_feedback.md)
def TUNE_INJ_CFG (i : Nat) : Nat := 0x18100 + 0x20 * i
def TUNE_INJ_AMP (i : Nat) : Nat := 0x18104 + 0x20 * i
def TUNE_INJ_LEN (i : Nat) : Nat := 0x18108 + 0x20 * i
def TUNE_INJ_DELAY (i : Nat) : Nat := 0x1810c + 0x20 * i
def TUNE_INJ_INC0 (i : Nat) : Nat := 0x18110 + 0x20 * i
def TUNE_INJ_DINC (i : Nat) : Nat := 0x18114 + 0x20 * i
def TUNE_INJ_CMD (i : Nat) : Nat := 0x18118 + 0x20 * i
def TUNE_INJ_STAT (i : Nat) : Nat := 0x1811c + 0x20 * i
def TUNE_CAP_CFG (i : Nat) : Nat := 0x18180 + 0x20 * i
def TUNE_CAP_LEN (i : Nat) : Nat := 0x18184 + 0x20 * i
def TUNE_CAP_CMD (i : Nat) : Nat := 0x18188 + 0x20 * i
def TUNE_CAP_STAT (i : Nat) : Nat := 0x1818c + 0x20 * i
def TUNE_CAP_COUNT (i : Nat) : Nat := 0x18190 + 0x20 * i
def TUNE_CAP_T0_LO (i : Nat) : Nat := 0x18194 + 0x20 * i
def TUNE_CAP_T0_HI (i : Nat) : Nat := 0x18198 + 0x20 * i
def TUNE_CAP_NEXT (i : Nat) : Nat := 0x1819c + 0x20 * i
-- MTR (R376, 12_metering_front_end.md)
def MTR_MCLK_EN : Nat := 0x1a100
def MTR_MOD_EDGE : Nat := 0x1a104
def MTR_MOD_STAT : Nat := 0x1a108
def MTR_CLIP : Nat := 0x1a10c
def MTR_ZC_CFG : Nat := 0x1a110
def MTR_ZC_STAT : Nat := 0x1a114
def MTR_TSRC (i : Nat) : Nat := 0x1a118 + 0x4 * i
def MTR_TEMP_STAT : Nat := 0x1a128
def MTR_CAL_CRC : Nat := 0x1a12c
def MTR_CAL_ID : Nat := 0x1a130
def MTR_ENREF : Nat := 0x1a134
def MTR_CIRC_CFG (i : Nat) : Nat := 0x1a200 + 0x10 * i
def MTR_CIRC_PID (i : Nat) : Nat := 0x1a204 + 0x10 * i
def MTR_CIRC_CREEP (i : Nat) : Nat := 0x1a208 + 0x10 * i
def MTR_CIRC_STAT (i : Nat) : Nat := 0x1a20c + 0x10 * i
def MTR_CAL_SEL : Nat := 0x1a800
def MTR_CAL_DATA : Nat := 0x1a804
def MTR_CAL_CMD : Nat := 0x1a808
def MTR_CAL_STAT : Nat := 0x1a80c
def MTR_FILT_CFG : Nat := 0x1a810
-- NRG (R401, 13_energy_totals.md)
def NRG_TOT_SEL : Nat := 0x1b100
def NRG_TOT_LO : Nat := 0x1b104
def NRG_TOT_HI : Nat := 0x1b108
def NRG_TALLY : Nat := 0x1b10c
def NRG_TALLY_WRAP : Nat := 0x1b110
def NRG_DMD_CFG : Nat := 0x1b114
def NRG_SAVE_CFG : Nat := 0x1b118
def NRG_SAVE_STAT : Nat := 0x1b11c
def NRG_SAVE_TS_LO : Nat := 0x1b120
def NRG_SAVE_TS_HI : Nat := 0x1b124
def NRG_EXP_CMD : Nat := 0x1b128
def NRG_EXP_STAT : Nat := 0x1b12c
def NRG_CIRC_TCFG (i : Nat) : Nat := 0x1b200 + 0x4 * i
-- RTC (R431, 14_time.md)
def RTC_SEC : Nat := 0x7100
def RTC_MIN : Nat := 0x7104
def RTC_HOUR : Nat := 0x7108
def RTC_WDAY : Nat := 0x710c
def RTC_DAY : Nat := 0x7110
def RTC_MON : Nat := 0x7114
def RTC_YEAR_LO : Nat := 0x7118
def RTC_YEAR_HI : Nat := 0x711c
def RTC_SUB : Nat := 0x7120
def RTC_STG_SEC : Nat := 0x7140
def RTC_STG_MIN : Nat := 0x7144
def RTC_STG_HOUR : Nat := 0x7148
def RTC_STG_DAY : Nat := 0x714c
def RTC_STG_MON : Nat := 0x7150
def RTC_STG_YEAR_LO : Nat := 0x7154
def RTC_STG_YEAR_HI : Nat := 0x7158
def RTC_CMD : Nat := 0x7160
def RTC_STAT : Nat := 0x7164
def RTC_CD_LOAD : Nat := 0x7168
def RTC_CD_CTL : Nat := 0x716c
def RTC_CD_VAL : Nat := 0x7170
-- PTP (R433, 14_time.md)
def PTP_NOW_LO : Nat := 0x1c100
def PTP_NOW_HI : Nat := 0x1c104
def PTP_ACT : Nat := 0x1c108
def PTP_STEP_LIMIT : Nat := 0x1c10c
def PTP_STEP_CMD_LO : Nat := 0x1c110
def PTP_STEP_CMD_HI : Nat := 0x1c114
def PTP_STEP_AT_LO : Nat := 0x1c118
def PTP_STEP_AT_HI : Nat := 0x1c11c
def PTP_STEP_NS_LO : Nat := 0x1c120
def PTP_STEP_NS_HI : Nat := 0x1c124
def PTP_STEP_COUNT : Nat := 0x1c128
def PTP_UTC : Nat := 0x1c12c
def PTP_PPS_IN_LO : Nat := 0x1c130
def PTP_PPS_IN_HI : Nat := 0x1c134
def PTP_PPS_IN_COUNT : Nat := 0x1c138
def PTP_DCFG (i : Nat) : Nat := 0x1c140 + 0x40 * i
def PTP_DSTAT (i : Nat) : Nat := 0x1c144 + 0x40 * i
def PTP_MT_LO (i : Nat) : Nat := 0x1c148 + 0x40 * i
def PTP_MT_HI (i : Nat) : Nat := 0x1c14c + 0x40 * i
def PTP_MO_LO (i : Nat) : Nat := 0x1c150 + 0x40 * i
def PTP_MO_HI (i : Nat) : Nat := 0x1c154 + 0x40 * i
def PTP_OFF_LO (i : Nat) : Nat := 0x1c158 + 0x40 * i
def PTP_OFF_HI (i : Nat) : Nat := 0x1c15c + 0x40 * i
def PTP_FREQ (i : Nat) : Nat := 0x1c160 + 0x40 * i
def PTP_LOCK_NS (i : Nat) : Nat := 0x1c164 + 0x40 * i
def PTP_HOLD_S (i : Nat) : Nat := 0x1c168 + 0x40 * i
def PTP_PORT_ADJ (i : Nat) : Nat := 0x1c1c0 + 0x4 * i
def PTP_SCHED_PEND (i : Nat) : Nat := 0x1c1e0 + 0x4 * i
def PTP_SERVO : Nat := 0x1c800
-- SW (R458, 15_network_services.md)
def SW_MODE : Nat := 0x1d100
def SW_PORT_STATE : Nat := 0x1d104
def SW_AGE : Nat := 0x1d108
def SW_FDB_CNT : Nat := 0x1d10c
def SW_FDB_FLUSH : Nat := 0x1d110
def SW_STORM : Nat := 0x1d114
def SW_HSR_DUP : Nat := 0x1d118
def SW_HSR_UNIQ0 : Nat := 0x1d11c
def SW_HSR_UNIQ1 : Nat := 0x1d120
def SW_DROP : Nat := 0x1d124
def SW_VLAN_SEL : Nat := 0x1d128
def SW_VLAN_DATA : Nat := 0x1d12c
def SW_MAC_BASE_LO : Nat := 0x1d130
def SW_MAC_BASE_HI : Nat := 0x1d134
def SW_PVID (i : Nat) : Nat := 0x1d138 + 0x4 * i
-- MAC (R459, 15_network_services.md)
def MAC_MODE (n : Nat) : Nat := Pg.MAC n * 0x1000 + 0x100
def MAC_RX_FRAMES (n : Nat) : Nat := Pg.MAC n * 0x1000 + 0x104
def MAC_RX_ERR (n : Nat) : Nat := Pg.MAC n * 0x1000 + 0x108
def MAC_TX_FRAMES (n : Nat) : Nat := Pg.MAC n * 0x1000 + 0x10c
def MAC_TX_LATE (n : Nat) : Nat := Pg.MAC n * 0x1000 + 0x110
def MAC_TX_DROP_LATE (n : Nat) : Nat := Pg.MAC n * 0x1000 + 0x114
def MAC_LQ_CFG (n : Nat) : Nat := Pg.MAC n * 0x1000 + 0x118
def MAC_LQ_FILL (n : Nat) : Nat := Pg.MAC n * 0x1000 + 0x11c
-- MAC4 (R460, 15_network_services.md)
def MAC4_RX_BASE_LO : Nat := 0x22100
def MAC4_RX_BASE_HI : Nat := 0x22104
def MAC4_RX_SIZE : Nat := 0x22108
def MAC4_RX_WR : Nat := 0x2210c
def MAC4_RX_RD : Nat := 0x22110
def MAC4_TX_BASE_LO : Nat := 0x22114
def MAC4_TX_BASE_HI : Nat := 0x22118
def MAC4_TX_SIZE : Nat := 0x2211c
def MAC4_TX_WR : Nat := 0x22120
def MAC4_TX_RD : Nat := 0x22124
def MAC4_RX_WM : Nat := 0x22128
def MAC4_RX_OVF : Nat := 0x2212c
-- CMPT (R476, 16_tenant_compartments.md)
def CMPT_CUR2 : Nat := 0x26100
def CMPT_CUR3 : Nat := 0x26104
def CMPT_ENTRY2_LO : Nat := 0x26108
def CMPT_ENTRY2_HI : Nat := 0x2610c
def CMPT_ENTRY3_LO : Nat := 0x26110
def CMPT_ENTRY3_HI : Nat := 0x26114
def CMPT_SWITCHES : Nat := 0x26118
def CMPT_DENY_COUNT : Nat := 0x2611c
def CMPT_DENY_ADDR_LO : Nat := 0x26120
def CMPT_DENY_ADDR_HI : Nat := 0x26124
def CMPT_DENY_INFO : Nat := 0x26128
def CMPT_OWN_SEL : Nat := 0x2612c
def CMPT_OWN_DATA : Nat := 0x26130
-- BEL (R499, 17_redundancy.md)
def BEL_ROLE : Nat := 0x23100
def BEL_LANE : Nat := 0x23104
def BEL_LANE_ERR : Nat := 0x23108
def BEL_CMD : Nat := 0x2310c
def BEL_SWAP_CFG : Nat := 0x23110
def BEL_ALIVE_CFG : Nat := 0x23114
def BEL_ALIVE : Nat := 0x23118
def BEL_CKPT_CFG : Nat := 0x2311c
def BEL_COPY_PEAK : Nat := 0x23120
def BEL_HB_MISS : Nat := 0x23124
def BEL_LINK_DLY : Nat := 0x23128
def BEL_LAST_HO_LO : Nat := 0x2312c
def BEL_LAST_HO_HI : Nat := 0x23130
def BEL_HO_COUNT : Nat := 0x23134
def BEL_NEXT_SWAP_LO : Nat := 0x23138
def BEL_NEXT_SWAP_HI : Nat := 0x2313c
def BEL_RESYNC_LEFT : Nat := 0x23140
-- CAIRN (R519, 18_cairn_event_recorder.md)
def CAIRN_CMD : Nat := 0x24100
def CAIRN_CLEAR_TO_LO : Nat := 0x24104
def CAIRN_CLEAR_TO_HI : Nat := 0x24108
def CAIRN_HELD : Nat := 0x2410c
def CAIRN_NEXT_NUM_LO : Nat := 0x24110
def CAIRN_NEXT_NUM_HI : Nat := 0x24114
def CAIRN_DROP_FULL : Nat := 0x24118
def CAIRN_DROP_BUSY : Nat := 0x2411c
def CAIRN_OVERWRITTEN : Nat := 0x24120
def CAIRN_DROP_TS_LO : Nat := 0x24124
def CAIRN_DROP_TS_HI : Nat := 0x24128
def CAIRN_DROP_INFO : Nat := 0x2412c
def CAIRN_CFG : Nat := 0x24130
def CAIRN_SUM_CFG : Nat := 0x24134
-- ANC (R560, 19_update_trust.md)
def ANC_REQ (i : Nat) : Nat := 0x4100 + 0x20 * i
def ANC_ARG_0 (i : Nat) : Nat := 0x4104 + 0x20 * i
def ANC_ARG_1 (i : Nat) : Nat := 0x4108 + 0x20 * i
def ANC_ARG_2 (i : Nat) : Nat := 0x410c + 0x20 * i
def ANC_ARG_3 (i : Nat) : Nat := 0x4110 + 0x20 * i
def ANC_GO (i : Nat) : Nat := 0x4114 + 0x20 * i
def ANC_RSP (i : Nat) : Nat := 0x4118 + 0x20 * i
def ANC_RSP_1 (i : Nat) : Nat := 0x411c + 0x20 * i
def ANC_FW_VER : Nat := 0x4184
def ANC_SEC : Nat := 0x4188
def ANC_SERIAL_LO : Nat := 0x418c
def ANC_SERIAL_HI : Nat := 0x4190
def ANC_CHAL_LO : Nat := 0x4194
def ANC_CHAL_HI : Nat := 0x4198
def ANC_BUILD_LO : Nat := 0x419c
def ANC_BUILD_HI : Nat := 0x41a0
def ANC_BOOTREC : Nat := 0x41a4
-- UPD (R562, 19_update_trust.md)
def UPD_SUBMIT : Nat := 0x25100
def UPD_SLOT_STAT : Nat := 0x25104
def UPD_SLOT_ERR : Nat := 0x25108
def UPD_RX_BLOCKS : Nat := 0x2510c
def UPD_RX_REPEAT : Nat := 0x25110
def UPD_CRC_ERR : Nat := 0x25114
def UPD_ID : Nat := 0x25118
def UPD_STAGE : Nat := 0x2511c
def UPD_REASON : Nat := 0x25120
def UPD_LENGTH : Nat := 0x25124
def TASK_TRIG (i : Nat) : Nat := TASK_PERIOD i
def TASK_TRIG_ARG (i : Nat) : Nat := TASK_OFFSET i
end R

-- Fields of registers, and of the header registers BLK_STAT (`<page>_STAT_…`) and BLK_FAULT (`<page>_FAULT_…`).
namespace F
def HDR_TYPE (page : Nat) : Fld := ⟨R.BLK_ID page, 31, 16⟩
def HDR_EXPERT (page : Nat) : Fld := ⟨R.BLK_CTL page, 1, 1⟩
def HDR_ENABLE (page : Nat) : Fld := ⟨R.BLK_CTL page, 0, 0⟩
def HDR_COMP (page : Nat) : Fld := ⟨R.BLK_OWNER page, 5, 0⟩
def HDR_CMPT_DENY (page : Nat) : Fld := ⟨R.BLK_FAULT page, 4, 4⟩
def HDR_OWNER_WR (page : Nat) : Fld := ⟨R.BLK_FAULT page, 3, 3⟩
def HDR_WIDTH (page : Nat) : Fld := ⟨R.BLK_FAULT page, 2, 2⟩
def HDR_UNLOCK_SEQ (page : Nat) : Fld := ⟨R.BLK_FAULT page, 1, 1⟩
def HDR_LOCKED_WR (page : Nat) : Fld := ⟨R.BLK_FAULT page, 0, 0⟩
def CLK_STAT_ALL_OK : Fld := ⟨R.BLK_STAT (Pg.CLK), 0, 0⟩
def CLK_LOST_LOST : Fld := ⟨R.CLK_LOST, 10, 0⟩
def CLK_LOST_EVER_LOST : Fld := ⟨R.CLK_LOST_EVER, 10, 0⟩
def CLK_LAST_RESET_VALID : Fld := ⟨R.CLK_LAST_RESET, 4, 4⟩
def CLK_LAST_RESET_CLOCK : Fld := ⟨R.CLK_LAST_RESET, 3, 0⟩
def CLK_PLL_LOCK_LOCK : Fld := ⟨R.CLK_PLL_LOCK, 6, 0⟩
def CLK_MON_SEL_D : Fld := ⟨R.CLK_MON_SEL, 3, 0⟩
def TSENS_TEMP_VALID : Fld := ⟨R.TSENS_TEMP, 31, 31⟩
def TSENS_TEMP_DEG : Fld := ⟨R.TSENS_TEMP, 15, 0⟩
def TSENS_MAX_DEG : Fld := ⟨R.TSENS_MAX, 15, 0⟩
def TSENS_WARN_DEG : Fld := ⟨R.TSENS_WARN, 15, 0⟩
def PFW_STAT_ASSERTED : Fld := ⟨R.PFW_STAT, 0, 0⟩
def SYS_FAULT_CAPT : Fld := ⟨R.BLK_FAULT Pg.SYS, 31, 31⟩
def SYS_FAULT_MORE : Fld := ⟨R.BLK_FAULT Pg.SYS, 30, 30⟩
def SYS_FAULT_REQ : Fld := ⟨R.BLK_FAULT Pg.SYS, 29, 26⟩
def SYS_FAULT_WRITE : Fld := ⟨R.BLK_FAULT Pg.SYS, 25, 25⟩
def SYS_FAULT_KIND : Fld := ⟨R.BLK_FAULT Pg.SYS, 24, 22⟩
def SYS_STAT_READY : Fld := ⟨R.BLK_STAT Pg.SYS, 3, 3⟩
def SYS_STAT_DRAM_READY : Fld := ⟨R.BLK_STAT Pg.SYS, 2, 2⟩
def SYS_STAT_FORCE_ACT : Fld := ⟨R.BLK_STAT Pg.SYS, 1, 1⟩
def SYS_STAT_TIME_INVALID : Fld := ⟨R.BLK_STAT Pg.SYS, 0, 0⟩
def INTC_ROUTE_LOCK (i : Nat) : Fld := ⟨R.INTC_ROUTE i, 8, 8⟩
def INTC_ROUTE_PRIO (i : Nat) : Fld := ⟨R.INTC_ROUTE i, 6, 4⟩
def INTC_ROUTE_TARGET (i : Nat) : Fld := ⟨R.INTC_ROUTE i, 2, 0⟩
def INTC_THRESH_LEVEL (i : Nat) : Fld := ⟨R.INTC_THRESH i, 2, 0⟩
def INTC_CLAIM_VALID (i : Nat) : Fld := ⟨R.INTC_CLAIM i, 31, 31⟩
def INTC_CLAIM_SOURCE (i : Nat) : Fld := ⟨R.INTC_CLAIM i, 7, 0⟩
def INTC_COMPLETE_SOURCE (i : Nat) : Fld := ⟨R.INTC_COMPLETE i, 7, 0⟩
def RST_CAUSE_LIFECYCLE : Fld := ⟨R.RST_CAUSE, 9, 9⟩
def RST_CAUSE_ANCHOR : Fld := ⟨R.RST_CAUSE, 8, 8⟩
def RST_CAUSE_CMD_WARM : Fld := ⟨R.RST_CAUSE, 7, 7⟩
def RST_CAUSE_CMD_COLD : Fld := ⟨R.RST_CAUSE, 6, 6⟩
def RST_CAUSE_THERMAL : Fld := ⟨R.RST_CAUSE, 5, 5⟩
def RST_CAUSE_CLOCK_LOSS : Fld := ⟨R.RST_CAUSE, 4, 4⟩
def RST_CAUSE_OVER_V : Fld := ⟨R.RST_CAUSE, 3, 3⟩
def RST_CAUSE_UNDER_V : Fld := ⟨R.RST_CAUSE, 2, 2⟩
def RST_CAUSE_RESET_PIN : Fld := ⟨R.RST_CAUSE, 1, 1⟩
def RST_CAUSE_POWER_ON : Fld := ⟨R.RST_CAUSE, 0, 0⟩
def RST_CMD_KEY : Fld := ⟨R.RST_CMD, 31, 16⟩
def RST_CMD_DELAY : Fld := ⟨R.RST_CMD, 15, 8⟩
def RST_CMD_KIND : Fld := ⟨R.RST_CMD, 1, 0⟩
def RST_LC_STAT_SVC_LEFT : Fld := ⟨R.RST_LC_STAT, 15, 8⟩
def RST_LC_STAT_STATE : Fld := ⟨R.RST_LC_STAT, 2, 0⟩
def RST_BOOT_STAT_ECC_FAIL : Fld := ⟨R.RST_BOOT_STAT, 15, 8⟩
def RST_BOOT_STAT_SELFTEST_FAIL : Fld := ⟨R.RST_BOOT_STAT, 7, 7⟩
def RST_BOOT_STAT_LC_WIPE : Fld := ⟨R.RST_BOOT_STAT, 6, 6⟩
def RST_BOOT_STAT_FALLBACK : Fld := ⟨R.RST_BOOT_STAT, 5, 5⟩
def RST_BOOT_STAT_BANK : Fld := ⟨R.RST_BOOT_STAT, 4, 4⟩
def RST_BOOT_STAT_STAGE : Fld := ⟨R.RST_BOOT_STAT, 3, 0⟩
def ECC_BUCKET_LEVEL (n : Nat) : Fld := ⟨R.ECC_BUCKET n, 7, 0⟩
def ECC_BUCKET_CFG_LEAK_S (n : Nat) : Fld := ⟨R.ECC_BUCKET_CFG n, 31, 16⟩
def ECC_BUCKET_CFG_THRESH (n : Nat) : Fld := ⟨R.ECC_BUCKET_CFG n, 7, 0⟩
def ECC_CE_INFO_SCRUB (n : Nat) : Fld := ⟨R.ECC_CE_INFO n, 12, 12⟩
def ECC_CE_INFO_REQ (n : Nat) : Fld := ⟨R.ECC_CE_INFO n, 11, 8⟩
def ECC_CE_INFO_BIT (n : Nat) : Fld := ⟨R.ECC_CE_INFO n, 6, 0⟩
def ECC_UE_INFO_CAPT (n : Nat) : Fld := ⟨R.ECC_UE_INFO n, 31, 31⟩
def ECC_UE_INFO_MORE (n : Nat) : Fld := ⟨R.ECC_UE_INFO n, 30, 30⟩
def ECC_UE_INFO_SCRUB (n : Nat) : Fld := ⟨R.ECC_UE_INFO n, 12, 12⟩
def ECC_UE_INFO_REQ (n : Nat) : Fld := ⟨R.ECC_UE_INFO n, 11, 8⟩
def ECC_UE_INFO_WRITE (n : Nat) : Fld := ⟨R.ECC_UE_INFO n, 0, 0⟩
def ECC_SCRUB_PERIOD_SECONDS (n : Nat) : Fld := ⟨R.ECC_SCRUB_PERIOD n, 15, 0⟩
def ECC_TEST_CTL_ARM (n : Nat) : Fld := ⟨R.ECC_TEST_CTL n, 8, 8⟩
def ECC_TEST_CTL_CHECK_FLIP (n : Nat) : Fld := ⟨R.ECC_TEST_CTL n, 7, 0⟩
def CAN_STAT_RX_FULL (n : Nat) : Fld := ⟨R.BLK_STAT (Pg.CAN n), 2, 2⟩
def CAN_STAT_STANDBY_LISTEN (n : Nat) : Fld := ⟨R.BLK_STAT (Pg.CAN n), 1, 1⟩
def CAN_STAT_OPEN (n : Nat) : Fld := ⟨R.BLK_STAT (Pg.CAN n), 0, 0⟩
def CAN_FAULT_BAD_CMD (n : Nat) : Fld := ⟨R.BLK_FAULT (Pg.CAN n), 20, 20⟩
def CAN_FAULT_SLEEP_REFUSED (n : Nat) : Fld := ⟨R.BLK_FAULT (Pg.CAN n), 19, 19⟩
def CAN_FAULT_RING_PTR (n : Nat) : Fld := ⟨R.BLK_FAULT (Pg.CAN n), 18, 18⟩
def CAN_FAULT_BT_INVALID (n : Nat) : Fld := ⟨R.BLK_FAULT (Pg.CAN n), 17, 17⟩
def CAN_FAULT_BAD_WRITE (n : Nat) : Fld := ⟨R.BLK_FAULT (Pg.CAN n), 16, 16⟩
def CAN_MODE_REQ (n : Nat) : Fld := ⟨R.CAN_MODE n, 2, 0⟩
def CAN_RATE_DATA (n : Nat) : Fld := ⟨R.CAN_RATE n, 3, 2⟩
def CAN_RATE_NOM (n : Nat) : Fld := ⟨R.CAN_RATE n, 0, 0⟩
def CAN_STATE_LEC_DATA (n : Nat) : Fld := ⟨R.CAN_STATE n, 11, 11⟩
def CAN_STATE_LEC (n : Nat) : Fld := ⟨R.CAN_STATE n, 10, 8⟩
def CAN_STATE_LISTEN_ACT (n : Nat) : Fld := ⟨R.CAN_STATE n, 6, 6⟩
def CAN_STATE_WARN (n : Nat) : Fld := ⟨R.CAN_STATE n, 5, 5⟩
def CAN_STATE_STATE (n : Nat) : Fld := ⟨R.CAN_STATE n, 3, 0⟩
def CAN_ERR_CNT_REC (n : Nat) : Fld := ⟨R.CAN_ERR_CNT n, 23, 16⟩
def CAN_ERR_CNT_TEC (n : Nat) : Fld := ⟨R.CAN_ERR_CNT n, 8, 0⟩
def CAN_ERR_TYPE_ACK_BIT (n : Nat) : Fld := ⟨R.CAN_ERR_TYPE n, 31, 24⟩
def CAN_ERR_TYPE_CRC (n : Nat) : Fld := ⟨R.CAN_ERR_TYPE n, 23, 16⟩
def CAN_ERR_TYPE_FORM (n : Nat) : Fld := ⟨R.CAN_ERR_TYPE n, 15, 8⟩
def CAN_ERR_TYPE_STUFF (n : Nat) : Fld := ⟨R.CAN_ERR_TYPE n, 7, 0⟩
def CAN_CMD_ABORT_Q2 (n : Nat) : Fld := ⟨R.CAN_CMD n, 3, 3⟩
def CAN_CMD_ABORT_Q1 (n : Nat) : Fld := ⟨R.CAN_CMD n, 2, 2⟩
def CAN_CMD_RECOVER (n : Nat) : Fld := ⟨R.CAN_CMD n, 1, 1⟩
def CAN_CMD_POP (n : Nat) : Fld := ⟨R.CAN_CMD n, 0, 0⟩
def CAN_RX_CFG_FW_CONSUMER (n : Nat) : Fld := ⟨R.CAN_RX_CFG n, 0, 0⟩
def CAN_RX_WR_INDEX (n : Nat) : Fld := ⟨R.CAN_RX_WR n, 15, 0⟩
def CAN_RX_RD_FW_WIN_VALID (n : Nat) : Fld := ⟨R.CAN_RX_RD_FW n, 31, 31⟩
def CAN_RX_RD_FW_INDEX (n : Nat) : Fld := ⟨R.CAN_RX_RD_FW n, 15, 0⟩
def CAN_RX_RD_IOS_INDEX (n : Nat) : Fld := ⟨R.CAN_RX_RD_IOS n, 15, 0⟩
def CAN_RX_WM_TIMEOUT_US (n : Nat) : Fld := ⟨R.CAN_RX_WM n, 31, 16⟩
def CAN_RX_WM_LEVEL (n : Nat) : Fld := ⟨R.CAN_RX_WM n, 12, 0⟩
def CAN_TXQ1_CFG_MAX_LATE_US (n : Nat) : Fld := ⟨R.CAN_TXQ1_CFG n, 31, 16⟩
def CAN_TXQ2_CFG_MAX_LATE_US (n : Nat) : Fld := ⟨R.CAN_TXQ2_CFG n, 31, 16⟩
def CAN_TXQ1_CFG_DONE_INT (n : Nat) : Fld := ⟨R.CAN_TXQ1_CFG n, 1, 1⟩
def CAN_TXQ2_CFG_DONE_INT (n : Nat) : Fld := ⟨R.CAN_TXQ2_CFG n, 1, 1⟩
def CAN_TXQ1_CFG_EN (n : Nat) : Fld := ⟨R.CAN_TXQ1_CFG n, 0, 0⟩
def CAN_TXQ2_CFG_EN (n : Nat) : Fld := ⟨R.CAN_TXQ2_CFG n, 0, 0⟩
def CAN_TXQ1_WR_INDEX (n : Nat) : Fld := ⟨R.CAN_TXQ1_WR n, 15, 0⟩
def CAN_TXQ2_WR_INDEX (n : Nat) : Fld := ⟨R.CAN_TXQ2_WR n, 15, 0⟩
def CAN_TXQ1_RD_INDEX (n : Nat) : Fld := ⟨R.CAN_TXQ1_RD n, 15, 0⟩
def CAN_TXQ2_RD_INDEX (n : Nat) : Fld := ⟨R.CAN_TXQ2_RD n, 15, 0⟩
def CAN_TXQ0_WR_INDEX (n : Nat) : Fld := ⟨R.CAN_TXQ0_WR n, 15, 0⟩
def CAN_TXQ0_RD_INDEX (n : Nat) : Fld := ⟨R.CAN_TXQ0_RD n, 15, 0⟩
def CAN_WAKE_CFG_SEL (n : Nat) : Fld := ⟨R.CAN_WAKE_CFG n, 0, 0⟩
def CAN_WAKE_ID_ID (n : Nat) : Fld := ⟨R.CAN_WAKE_ID n, 28, 0⟩
def CAN_WAKE_MASK_MASK (n : Nat) : Fld := ⟨R.CAN_WAKE_MASK n, 28, 0⟩
def CAN_WAKE_DATA_DMASK (n : Nat) : Fld := ⟨R.CAN_WAKE_DATA n, 15, 8⟩
def CAN_WAKE_DATA_DATA (n : Nat) : Fld := ⟨R.CAN_WAKE_DATA n, 7, 0⟩
def CAN_BT_NOM_BRP (n : Nat) : Fld := ⟨R.CAN_BT_NOM n, 28, 24⟩
def CAN_BT_DATA_BRP (n : Nat) : Fld := ⟨R.CAN_BT_DATA n, 28, 24⟩
def CAN_BT_NOM_SJW (n : Nat) : Fld := ⟨R.CAN_BT_NOM n, 22, 16⟩
def CAN_BT_DATA_SJW (n : Nat) : Fld := ⟨R.CAN_BT_DATA n, 22, 16⟩
def CAN_BT_NOM_TSEG2 (n : Nat) : Fld := ⟨R.CAN_BT_NOM n, 14, 8⟩
def CAN_BT_DATA_TSEG2 (n : Nat) : Fld := ⟨R.CAN_BT_DATA n, 14, 8⟩
def CAN_BT_NOM_TSEG1 (n : Nat) : Fld := ⟨R.CAN_BT_NOM n, 7, 0⟩
def CAN_BT_DATA_TSEG1 (n : Nat) : Fld := ⟨R.CAN_BT_DATA n, 7, 0⟩
def CAN_TDC_MEAS (n : Nat) : Fld := ⟨R.CAN_TDC n, 22, 16⟩
def CAN_TDC_OFFSET (n : Nat) : Fld := ⟨R.CAN_TDC n, 6, 0⟩
def FNET_SYNC_CFG_LATE_US : Fld := ⟨R.FNET_SYNC_CFG, 23, 16⟩
def FNET_SYNC_CFG_CH_EN : Fld := ⟨R.FNET_SYNC_CFG, 11, 8⟩
def FNET_SYNC_CFG_LAUNCH_US : Fld := ⟨R.FNET_SYNC_CFG, 7, 0⟩
def FNET_DISC_CFG_PERIOD_S : Fld := ⟨R.FNET_DISC_CFG, 7, 0⟩
def FNET_START_TMO_MS : Fld := ⟨R.FNET_START_TMO, 15, 0⟩
def FNET_Q0_CFG_MAX_LATE_US : Fld := ⟨R.FNET_Q0_CFG, 31, 16⟩
def FNET_Q0_CFG_LEAD_US : Fld := ⟨R.FNET_Q0_CFG, 15, 0⟩
def FNET_CYCLE_HI_N_HI : Fld := ⟨R.FNET_CYCLE_HI, 15, 0⟩
def FNET_LOAD_LOAD (i : Nat) : Fld := ⟨R.FNET_LOAD i, 15, 0⟩
def FNET_SYNC_CNT_DROPPED (i : Nat) : Fld := ⟨R.FNET_SYNC_CNT i, 31, 16⟩
def FNET_SYNC_CNT_LATE (i : Nat) : Fld := ⟨R.FNET_SYNC_CNT i, 15, 0⟩
def IOS_STN_SEL_CH : Fld := ⟨R.IOS_STN_SEL, 9, 8⟩
def IOS_STN_SEL_ADDR : Fld := ⟨R.IOS_STN_SEL, 7, 0⟩
def IOS_STN_STAT_LOST_COUNT : Fld := ⟨R.IOS_STN_STAT, 31, 16⟩
def IOS_STN_STAT_MISSED : Fld := ⟨R.IOS_STN_STAT, 15, 8⟩
def IOS_STN_STAT_STATE : Fld := ⟨R.IOS_STN_STAT, 3, 0⟩
def IOS_COUNTS_PARKED : Fld := ⟨R.IOS_COUNTS, 31, 24⟩
def IOS_COUNTS_ABSENT : Fld := ⟨R.IOS_COUNTS, 23, 16⟩
def IOS_COUNTS_LOST : Fld := ⟨R.IOS_COUNTS, 15, 8⟩
def IOS_COUNTS_PRESENT : Fld := ⟨R.IOS_COUNTS, 7, 0⟩
def IOS_EVT_VALID : Fld := ⟨R.IOS_EVT, 31, 31⟩
def IOS_EVT_KIND : Fld := ⟨R.IOS_EVT, 30, 27⟩
def IOS_EVT_CH : Fld := ⟨R.IOS_EVT, 9, 8⟩
def IOS_EVT_ADDR : Fld := ⟨R.IOS_EVT, 7, 0⟩
def TASK_STAT_IDLE : Fld := ⟨R.BLK_STAT (Pg.TASK), 1, 1⟩
def TASK_STAT_RELEASE_OK : Fld := ⟨R.BLK_STAT (Pg.TASK), 0, 0⟩
def TASK_FAULT_LIST : Fld := ⟨R.BLK_FAULT (Pg.TASK), 18, 18⟩
def TASK_FAULT_BAD_COMMIT : Fld := ⟨R.BLK_FAULT (Pg.TASK), 17, 17⟩
def TASK_FAULT_BAD_WRITE : Fld := ⟨R.BLK_FAULT (Pg.TASK), 16, 16⟩
def TASK_DISPATCH0_VALID : Fld := ⟨R.TASK_DISPATCH0, 31, 31⟩
def TASK_DISPATCH1_VALID : Fld := ⟨R.TASK_DISPATCH1, 31, 31⟩
def TASK_DISPATCH0_TASK : Fld := ⟨R.TASK_DISPATCH0, 5, 0⟩
def TASK_DISPATCH1_TASK : Fld := ⟨R.TASK_DISPATCH1, 5, 0⟩
def TASK_COMMIT0_TASK : Fld := ⟨R.TASK_COMMIT0, 5, 0⟩
def TASK_COMMIT1_TASK : Fld := ⟨R.TASK_COMMIT1, 5, 0⟩
def TASK_RUN0_DEPTH : Fld := ⟨R.TASK_RUN0, 15, 8⟩
def TASK_RUN1_DEPTH : Fld := ⟨R.TASK_RUN1, 15, 8⟩
def TASK_RUN0_VALID : Fld := ⟨R.TASK_RUN0, 6, 6⟩
def TASK_RUN1_VALID : Fld := ⟨R.TASK_RUN1, 6, 6⟩
def TASK_RUN0_TASK : Fld := ⟨R.TASK_RUN0, 5, 0⟩
def TASK_RUN1_TASK : Fld := ⟨R.TASK_RUN1, 5, 0⟩
def TASK_TCFG_PRIO (i : Nat) : Fld := ⟨R.TASK_TCFG i, 15, 12⟩
def TASK_TCFG_CORE (i : Nat) : Fld := ⟨R.TASK_TCFG i, 8, 8⟩
def TASK_TCFG_EN (i : Nat) : Fld := ⟨R.TASK_TCFG i, 0, 0⟩
def TASK_PERIOD_MS (i : Nat) : Fld := ⟨R.TASK_PERIOD i, 13, 0⟩
def TASK_OFFSET_US (i : Nat) : Fld := ⟨R.TASK_OFFSET i, 23, 0⟩
def TASK_LISTS_N_OUT (i : Nat) : Fld := ⟨R.TASK_LISTS i, 26, 16⟩
def TASK_LISTS_N_IN (i : Nat) : Fld := ⟨R.TASK_LISTS i, 10, 0⟩
def TASK_TSTAT_STATE (i : Nat) : Fld := ⟨R.TASK_TSTAT i, 2, 0⟩
def LOOP_STAT_LANE_RUN : Fld := ⟨R.BLK_STAT (Pg.LOOP), 3, 0⟩
def LOOP_FAULT_BAD_WRITE : Fld := ⟨R.BLK_FAULT (Pg.LOOP), 16, 16⟩
def LOOP_LANE_STAT_CAUSE : Fld := ⟨R.LOOP_LANE_STAT, 11, 4⟩
def LOOP_LANE_STAT_FAILED : Fld := ⟨R.LOOP_LANE_STAT, 3, 0⟩
def LOOP_ENREF_VALID : Fld := ⟨R.LOOP_ENREF, 31, 31⟩
def LOOP_ENREF_REASON : Fld := ⟨R.LOOP_ENREF, 15, 12⟩
def LOOP_ENREF_SLOT : Fld := ⟨R.LOOP_ENREF, 8, 0⟩
def LOOP_STAT_CLR_ALL : Fld := ⟨R.LOOP_STAT_CLR, 31, 31⟩
def LOOP_STAT_CLR_SLOT : Fld := ⟨R.LOOP_STAT_CLR, 8, 0⟩
def LOOP_WORST_CYCLES (i : Nat) : Fld := ⟨R.LOOP_WORST i, 15, 0⟩
def LIO_AIN_CLIP (i : Nat) : Fld := ⟨R.LIO_AIN i, 16, 16⟩
def LIO_AIN_CODE (i : Nat) : Fld := ⟨R.LIO_AIN i, 15, 0⟩
def LIO_AOUT_SHORT (i : Nat) : Fld := ⟨R.LIO_AOUT i, 17, 17⟩
def LIO_AOUT_SRC_LOOP (i : Nat) : Fld := ⟨R.LIO_AOUT i, 16, 16⟩
def LIO_AOUT_CODE (i : Nat) : Fld := ⟨R.LIO_AOUT i, 15, 0⟩
def LIO_DIO_DIR_OUT : Fld := ⟨R.LIO_DIO_DIR, 15, 0⟩
def LIO_DIO_IN_LEVEL : Fld := ⟨R.LIO_DIO_IN, 15, 0⟩
def LIO_DIO_OUT_LEVEL : Fld := ⟨R.LIO_DIO_OUT, 15, 0⟩
def LIO_DIO_CHG_EN_EN : Fld := ⟨R.LIO_DIO_CHG_EN, 15, 0⟩
def TUNE_STAT_CAP_RUN : Fld := ⟨R.BLK_STAT (Pg.TUNE), 7, 4⟩
def TUNE_STAT_INJ_RUN : Fld := ⟨R.BLK_STAT (Pg.TUNE), 3, 0⟩
def TUNE_FAULT_BAD_CMD : Fld := ⟨R.BLK_FAULT (Pg.TUNE), 17, 17⟩
def TUNE_FAULT_BAD_WRITE : Fld := ⟨R.BLK_FAULT (Pg.TUNE), 16, 16⟩
def TUNE_INJ_CFG_HOLD_SMP (i : Nat) : Fld := ⟨R.TUNE_INJ_CFG i, 31, 16⟩
def TUNE_INJ_CFG_ORDER (i : Nat) : Fld := ⟨R.TUNE_INJ_CFG i, 15, 12⟩
def TUNE_INJ_CFG_SIG (i : Nat) : Fld := ⟨R.TUNE_INJ_CFG i, 11, 10⟩
def TUNE_INJ_CFG_POINT (i : Nat) : Fld := ⟨R.TUNE_INJ_CFG i, 9, 9⟩
def TUNE_INJ_CFG_SLOT (i : Nat) : Fld := ⟨R.TUNE_INJ_CFG i, 8, 0⟩
def TUNE_INJ_DELAY_DELAY (i : Nat) : Fld := ⟨R.TUNE_INJ_DELAY i, 15, 0⟩
def TUNE_INJ_CMD_STOP (i : Nat) : Fld := ⟨R.TUNE_INJ_CMD i, 1, 1⟩
def TUNE_INJ_CMD_START (i : Nat) : Fld := ⟨R.TUNE_INJ_CMD i, 0, 0⟩
def TUNE_INJ_STAT_K (i : Nat) : Fld := ⟨R.TUNE_INJ_STAT i, 31, 8⟩
def TUNE_INJ_STAT_REASON (i : Nat) : Fld := ⟨R.TUNE_INJ_STAT i, 7, 4⟩
def TUNE_INJ_STAT_STATE (i : Nat) : Fld := ⟨R.TUNE_INJ_STAT i, 1, 0⟩
def TUNE_CAP_CFG_DECIM (i : Nat) : Fld := ⟨R.TUNE_CAP_CFG i, 31, 16⟩
def TUNE_CAP_CFG_TRIG (i : Nat) : Fld := ⟨R.TUNE_CAP_CFG i, 14, 12⟩
def TUNE_CAP_CFG_MODE (i : Nat) : Fld := ⟨R.TUNE_CAP_CFG i, 11, 11⟩
def TUNE_CAP_CFG_SEL (i : Nat) : Fld := ⟨R.TUNE_CAP_CFG i, 10, 9⟩
def TUNE_CAP_CFG_SLOT (i : Nat) : Fld := ⟨R.TUNE_CAP_CFG i, 8, 0⟩
def TUNE_CAP_LEN_LEN (i : Nat) : Fld := ⟨R.TUNE_CAP_LEN i, 16, 0⟩
def TUNE_CAP_CMD_STOP (i : Nat) : Fld := ⟨R.TUNE_CAP_CMD i, 1, 1⟩
def TUNE_CAP_CMD_ARM (i : Nat) : Fld := ⟨R.TUNE_CAP_CMD i, 0, 0⟩
def TUNE_CAP_STAT_REASON (i : Nat) : Fld := ⟨R.TUNE_CAP_STAT i, 7, 4⟩
def TUNE_CAP_STAT_WRAPPED (i : Nat) : Fld := ⟨R.TUNE_CAP_STAT i, 2, 2⟩
def TUNE_CAP_STAT_STATE (i : Nat) : Fld := ⟨R.TUNE_CAP_STAT i, 1, 0⟩
def TUNE_CAP_NEXT_INDEX (i : Nat) : Fld := ⟨R.TUNE_CAP_NEXT i, 15, 0⟩
def MTR_STAT_STANDBY : Fld := ⟨R.BLK_STAT (Pg.MTR), 2, 2⟩
def MTR_STAT_MOD_CLK_LOST : Fld := ⟨R.BLK_STAT (Pg.MTR), 1, 1⟩
def MTR_STAT_RUN : Fld := ⟨R.BLK_STAT (Pg.MTR), 0, 0⟩
def MTR_FAULT_OWNER_WR : Fld := ⟨R.BLK_FAULT (Pg.MTR), 18, 18⟩
def MTR_FAULT_CAL_LOCKED : Fld := ⟨R.BLK_FAULT (Pg.MTR), 17, 17⟩
def MTR_FAULT_BAD_WRITE : Fld := ⟨R.BLK_FAULT (Pg.MTR), 16, 16⟩
def MTR_MCLK_EN_EN : Fld := ⟨R.MTR_MCLK_EN, 3, 0⟩
def MTR_MOD_EDGE_FALL : Fld := ⟨R.MTR_MOD_EDGE, 23, 0⟩
def MTR_MOD_STAT_FAULT : Fld := ⟨R.MTR_MOD_STAT, 23, 0⟩
def MTR_CLIP_CLIP : Fld := ⟨R.MTR_CLIP, 23, 0⟩
def MTR_ZC_CFG_TIMEOUT_MS : Fld := ⟨R.MTR_ZC_CFG, 23, 16⟩
def MTR_ZC_CFG_HYST_PM : Fld := ⟨R.MTR_ZC_CFG, 7, 0⟩
def MTR_ZC_STAT_SEQ_ERR : Fld := ⟨R.MTR_ZC_STAT, 17, 16⟩
def MTR_ZC_STAT_LOST : Fld := ⟨R.MTR_ZC_STAT, 13, 8⟩
def MTR_ZC_STAT_SEEN : Fld := ⟨R.MTR_ZC_STAT, 5, 0⟩
def MTR_TSRC_EN (i : Nat) : Fld := ⟨R.MTR_TSRC i, 16, 16⟩
def MTR_TSRC_PID (i : Nat) : Fld := ⟨R.MTR_TSRC i, 15, 0⟩
def MTR_TEMP_STAT_FALLBACK : Fld := ⟨R.MTR_TEMP_STAT, 3, 0⟩
def MTR_ENREF_VALID : Fld := ⟨R.MTR_ENREF, 31, 31⟩
def MTR_ENREF_REASON : Fld := ⟨R.MTR_ENREF, 11, 8⟩
def MTR_ENREF_CIRC : Fld := ⟨R.MTR_ENREF, 4, 0⟩
def MTR_CIRC_CFG_OWNER (i : Nat) : Fld := ⟨R.MTR_CIRC_CFG i, 30, 25⟩
def MTR_CIRC_CFG_INV (i : Nat) : Fld := ⟨R.MTR_CIRC_CFG i, 24, 22⟩
def MTR_CIRC_CFG_I2 (i : Nat) : Fld := ⟨R.MTR_CIRC_CFG i, 21, 17⟩
def MTR_CIRC_CFG_I1 (i : Nat) : Fld := ⟨R.MTR_CIRC_CFG i, 16, 12⟩
def MTR_CIRC_CFG_I0 (i : Nat) : Fld := ⟨R.MTR_CIRC_CFG i, 11, 7⟩
def MTR_CIRC_CFG_PH (i : Nat) : Fld := ⟨R.MTR_CIRC_CFG i, 6, 5⟩
def MTR_CIRC_CFG_REF (i : Nat) : Fld := ⟨R.MTR_CIRC_CFG i, 4, 4⟩
def MTR_CIRC_CFG_KIND (i : Nat) : Fld := ⟨R.MTR_CIRC_CFG i, 3, 2⟩
def MTR_CIRC_CFG_EN (i : Nat) : Fld := ⟨R.MTR_CIRC_CFG i, 0, 0⟩
def MTR_CIRC_PID_BASE (i : Nat) : Fld := ⟨R.MTR_CIRC_PID i, 15, 0⟩
def MTR_CIRC_STAT_SEQ (i : Nat) : Fld := ⟨R.MTR_CIRC_STAT i, 31, 24⟩
def MTR_CIRC_STAT_FREQ_OK (i : Nat) : Fld := ⟨R.MTR_CIRC_STAT i, 7, 7⟩
def MTR_CIRC_STAT_CREEP (i : Nat) : Fld := ⟨R.MTR_CIRC_STAT i, 6, 6⟩
def MTR_CIRC_STAT_SEQ_ERR (i : Nat) : Fld := ⟨R.MTR_CIRC_STAT i, 5, 5⟩
def MTR_CIRC_STAT_MOD_FAULT (i : Nat) : Fld := ⟨R.MTR_CIRC_STAT i, 4, 4⟩
def MTR_CIRC_STAT_CLIP (i : Nat) : Fld := ⟨R.MTR_CIRC_STAT i, 3, 3⟩
def MTR_CIRC_STAT_ALT_PHASE (i : Nat) : Fld := ⟨R.MTR_CIRC_STAT i, 2, 2⟩
def MTR_CIRC_STAT_TIMED (i : Nat) : Fld := ⟨R.MTR_CIRC_STAT i, 1, 1⟩
def MTR_CIRC_STAT_VALID (i : Nat) : Fld := ⟨R.MTR_CIRC_STAT i, 0, 0⟩
def MTR_CAL_SEL_WORD : Fld := ⟨R.MTR_CAL_SEL, 13, 8⟩
def MTR_CAL_SEL_CH : Fld := ⟨R.MTR_CAL_SEL, 4, 0⟩
def MTR_CAL_CMD_COMMIT : Fld := ⟨R.MTR_CAL_CMD, 1, 1⟩
def MTR_CAL_CMD_LOAD : Fld := ⟨R.MTR_CAL_CMD, 0, 0⟩
def MTR_CAL_STAT_CH : Fld := ⟨R.MTR_CAL_STAT, 12, 8⟩
def MTR_CAL_STAT_REASON : Fld := ⟨R.MTR_CAL_STAT, 1, 0⟩
def MTR_FILT_CFG_HPF_OFF : Fld := ⟨R.MTR_FILT_CFG, 0, 0⟩
def NRG_STAT_LOAD : Fld := ⟨R.BLK_STAT (Pg.NRG), 5, 4⟩
def NRG_STAT_SAVE_BUSY : Fld := ⟨R.BLK_STAT (Pg.NRG), 3, 3⟩
def NRG_STAT_UNSAVED : Fld := ⟨R.BLK_STAT (Pg.NRG), 2, 2⟩
def NRG_STAT_STANDBY : Fld := ⟨R.BLK_STAT (Pg.NRG), 1, 1⟩
def NRG_STAT_RUN : Fld := ⟨R.BLK_STAT (Pg.NRG), 0, 0⟩
def NRG_FAULT_EXP_REFUSED : Fld := ⟨R.BLK_FAULT (Pg.NRG), 17, 17⟩
def NRG_FAULT_BAD_WRITE : Fld := ⟨R.BLK_FAULT (Pg.NRG), 16, 16⟩
def NRG_TOT_SEL_ACC : Fld := ⟨R.NRG_TOT_SEL, 10, 8⟩
def NRG_TOT_SEL_CIRC : Fld := ⟨R.NRG_TOT_SEL, 4, 0⟩
def NRG_TALLY_WRAP_WRAP : Fld := ⟨R.NRG_TALLY_WRAP, 7, 0⟩
def NRG_DMD_CFG_ALIGN_S : Fld := ⟨R.NRG_DMD_CFG, 27, 16⟩
def NRG_DMD_CFG_LEN_MIN : Fld := ⟨R.NRG_DMD_CFG, 5, 0⟩
def NRG_SAVE_CFG_PERIOD_S : Fld := ⟨R.NRG_SAVE_CFG, 5, 0⟩
def NRG_SAVE_STAT_SEQ : Fld := ⟨R.NRG_SAVE_STAT, 31, 16⟩
def NRG_SAVE_STAT_SLOT : Fld := ⟨R.NRG_SAVE_STAT, 8, 8⟩
def NRG_SAVE_STAT_REASON : Fld := ⟨R.NRG_SAVE_STAT, 2, 0⟩
def NRG_EXP_CMD_CREATE : Fld := ⟨R.NRG_EXP_CMD, 0, 0⟩
def NRG_EXP_STAT_STATE : Fld := ⟨R.NRG_EXP_STAT, 1, 0⟩
def NRG_CIRC_TCFG_UNIT (i : Nat) : Fld := ⟨R.NRG_CIRC_TCFG i, 2, 0⟩
def RTC_STAT_RUN : Fld := ⟨R.BLK_STAT (Pg.RTC), 0, 0⟩
def RTC_FAULT_BAD_CMD : Fld := ⟨R.BLK_FAULT (Pg.RTC), 16, 16⟩
def RTC_STG_SEC_VALUE : Fld := ⟨R.RTC_STG_SEC, 7, 0⟩
def RTC_STG_MIN_VALUE : Fld := ⟨R.RTC_STG_MIN, 7, 0⟩
def RTC_STG_HOUR_VALUE : Fld := ⟨R.RTC_STG_HOUR, 7, 0⟩
def RTC_STG_DAY_VALUE : Fld := ⟨R.RTC_STG_DAY, 7, 0⟩
def RTC_STG_MON_VALUE : Fld := ⟨R.RTC_STG_MON, 7, 0⟩
def RTC_STG_YEAR_LO_VALUE : Fld := ⟨R.RTC_STG_YEAR_LO, 7, 0⟩
def RTC_STG_YEAR_HI_VALUE : Fld := ⟨R.RTC_STG_YEAR_HI, 7, 0⟩
def RTC_CMD_LOAD_SEC : Fld := ⟨R.RTC_CMD, 1, 1⟩
def RTC_CMD_LOAD : Fld := ⟨R.RTC_CMD, 0, 0⟩
def RTC_STAT_CD_EXPIRED : Fld := ⟨R.RTC_STAT, 7, 7⟩
def RTC_STAT_ROLL : Fld := ⟨R.RTC_STAT, 6, 6⟩
def RTC_STAT_BAD_DATE : Fld := ⟨R.RTC_STAT, 5, 5⟩
def RTC_STAT_LOST : Fld := ⟨R.RTC_STAT, 4, 4⟩
def RTC_STAT_CLK_LOST : Fld := ⟨R.RTC_STAT, 3, 3⟩
def RTC_STAT_PENDING : Fld := ⟨R.RTC_STAT, 2, 2⟩
def RTC_STAT_FROZEN : Fld := ⟨R.RTC_STAT, 1, 1⟩
def RTC_STAT_VALID : Fld := ⟨R.RTC_STAT, 0, 0⟩
def RTC_CD_LOAD_COUNT : Fld := ⟨R.RTC_CD_LOAD, 23, 0⟩
def RTC_CD_VAL_COUNT : Fld := ⟨R.RTC_CD_VAL, 23, 0⟩
def RTC_CD_CTL_RELOAD : Fld := ⟨R.RTC_CD_CTL, 3, 3⟩
def RTC_CD_CTL_WAKE : Fld := ⟨R.RTC_CD_CTL, 2, 2⟩
def RTC_CD_CTL_TICK : Fld := ⟨R.RTC_CD_CTL, 1, 1⟩
def RTC_CD_CTL_EN : Fld := ⟨R.RTC_CD_CTL, 0, 0⟩
def PTP_STAT_SLEWING : Fld := ⟨R.BLK_STAT (Pg.PTP), 2, 2⟩
def PTP_STAT_LOCKED : Fld := ⟨R.BLK_STAT (Pg.PTP), 1, 1⟩
def PTP_STAT_TIME_INVALID : Fld := ⟨R.BLK_STAT (Pg.PTP), 0, 0⟩
def PTP_FAULT_BAD_WRITE : Fld := ⟨R.BLK_FAULT (Pg.PTP), 19, 19⟩
def PTP_FAULT_STEP_REF : Fld := ⟨R.BLK_FAULT (Pg.PTP), 18, 18⟩
def PTP_FAULT_SWITCH_REF : Fld := ⟨R.BLK_FAULT (Pg.PTP), 17, 17⟩
def PTP_FAULT_BAD_SAMPLE : Fld := ⟨R.BLK_FAULT (Pg.PTP), 16, 16⟩
def PTP_ACT_SLEWING : Fld := ⟨R.PTP_ACT, 12, 12⟩
def PTP_ACT_CUR : Fld := ⟨R.PTP_ACT, 9, 8⟩
def PTP_ACT_AUTO : Fld := ⟨R.PTP_ACT, 4, 4⟩
def PTP_ACT_SEL : Fld := ⟨R.PTP_ACT, 1, 0⟩
def PTP_STEP_LIMIT_US : Fld := ⟨R.PTP_STEP_LIMIT, 23, 0⟩
def PTP_UTC_LEAP59 : Fld := ⟨R.PTP_UTC, 10, 10⟩
def PTP_UTC_LEAP61 : Fld := ⟨R.PTP_UTC, 9, 9⟩
def PTP_UTC_VALID : Fld := ⟨R.PTP_UTC, 8, 8⟩
def PTP_UTC_OFFSET : Fld := ⟨R.PTP_UTC, 7, 0⟩
def PTP_DCFG_EN (i : Nat) : Fld := ⟨R.PTP_DCFG i, 16, 16⟩
def PTP_DCFG_PORTS (i : Nat) : Fld := ⟨R.PTP_DCFG i, 12, 9⟩
def PTP_DCFG_PROFILE (i : Nat) : Fld := ⟨R.PTP_DCFG i, 8, 8⟩
def PTP_DCFG_DOMAIN (i : Nat) : Fld := ⟨R.PTP_DCFG i, 7, 0⟩
def PTP_DSTAT_GOOD_RUN (i : Nat) : Fld := ⟨R.PTP_DSTAT i, 15, 8⟩
def PTP_DSTAT_STATE (i : Nat) : Fld := ⟨R.PTP_DSTAT i, 1, 0⟩
def PTP_HOLD_S_S (i : Nat) : Fld := ⟨R.PTP_HOLD_S i, 7, 0⟩
def PTP_PORT_ADJ_EGR (i : Nat) : Fld := ⟨R.PTP_PORT_ADJ i, 31, 16⟩
def PTP_PORT_ADJ_INGR (i : Nat) : Fld := ⟨R.PTP_PORT_ADJ i, 15, 0⟩
def PTP_SERVO_SLEW_PPM : Fld := ⟨R.PTP_SERVO, 21, 16⟩
def PTP_SERVO_CORR_TC : Fld := ⟨R.PTP_SERVO, 15, 8⟩
def PTP_SERVO_KI_SH : Fld := ⟨R.PTP_SERVO, 7, 4⟩
def PTP_SERVO_KP_SH : Fld := ⟨R.PTP_SERVO, 3, 0⟩
def SW_STAT_HSR : Fld := ⟨R.BLK_STAT (Pg.SW), 4, 4⟩
def SW_STAT_LINK : Fld := ⟨R.BLK_STAT (Pg.SW), 3, 0⟩
def SW_FAULT_BAD_WRITE : Fld := ⟨R.BLK_FAULT (Pg.SW), 16, 16⟩
def SW_MODE_TC_EN : Fld := ⟨R.SW_MODE, 1, 1⟩
def SW_MODE_HSR : Fld := ⟨R.SW_MODE, 0, 0⟩
def SW_PORT_STATE_STATE : Fld := ⟨R.SW_PORT_STATE, 7, 0⟩
def SW_AGE_S : Fld := ⟨R.SW_AGE, 15, 0⟩
def SW_FDB_CNT_COUNT : Fld := ⟨R.SW_FDB_CNT, 13, 0⟩
def SW_FDB_FLUSH_ALL : Fld := ⟨R.SW_FDB_FLUSH, 31, 31⟩
def SW_FDB_FLUSH_PORTS : Fld := ⟨R.SW_FDB_FLUSH, 4, 0⟩
def SW_STORM_LIMIT : Fld := ⟨R.SW_STORM, 15, 0⟩
def SW_VLAN_SEL_VID : Fld := ⟨R.SW_VLAN_SEL, 11, 0⟩
def SW_VLAN_DATA_UNTAG : Fld := ⟨R.SW_VLAN_DATA, 12, 8⟩
def SW_VLAN_DATA_MEMBER : Fld := ⟨R.SW_VLAN_DATA, 4, 0⟩
def SW_PVID_PCP (i : Nat) : Fld := ⟨R.SW_PVID i, 15, 13⟩
def SW_PVID_VID (i : Nat) : Fld := ⟨R.SW_PVID i, 11, 0⟩
def MAC_STAT_SFP_TXFLT (n : Nat) : Fld := ⟨R.BLK_STAT (Pg.MAC n), 3, 3⟩
def MAC_STAT_SFP_LOS (n : Nat) : Fld := ⟨R.BLK_STAT (Pg.MAC n), 2, 2⟩
def MAC_STAT_SFP_PRES (n : Nat) : Fld := ⟨R.BLK_STAT (Pg.MAC n), 1, 1⟩
def MAC_STAT_LINK (n : Nat) : Fld := ⟨R.BLK_STAT (Pg.MAC n), 0, 0⟩
def MAC_MODE_AN (n : Nat) : Fld := ⟨R.MAC_MODE n, 4, 4⟩
def MAC_MODE_MODE (n : Nat) : Fld := ⟨R.MAC_MODE n, 1, 0⟩
def MAC_LQ_CFG_MAX_LATE_US (n : Nat) : Fld := ⟨R.MAC_LQ_CFG n, 15, 0⟩
def MAC_LQ_FILL_COUNT (n : Nat) : Fld := ⟨R.MAC_LQ_FILL n, 6, 0⟩
def MAC4_STAT_TX_RUN : Fld := ⟨R.BLK_STAT (Pg.MAC4), 1, 1⟩
def MAC4_STAT_RX_RUN : Fld := ⟨R.BLK_STAT (Pg.MAC4), 0, 0⟩
def MAC4_FAULT_BAD_WRITE : Fld := ⟨R.BLK_FAULT (Pg.MAC4), 16, 16⟩
def MAC4_RX_SIZE_ENTRIES : Fld := ⟨R.MAC4_RX_SIZE, 16, 0⟩
def MAC4_TX_SIZE_ENTRIES : Fld := ⟨R.MAC4_TX_SIZE, 16, 0⟩
def MAC4_RX_WR_INDEX : Fld := ⟨R.MAC4_RX_WR, 16, 0⟩
def MAC4_RX_RD_INDEX : Fld := ⟨R.MAC4_RX_RD, 16, 0⟩
def MAC4_TX_WR_INDEX : Fld := ⟨R.MAC4_TX_WR, 16, 0⟩
def MAC4_TX_RD_INDEX : Fld := ⟨R.MAC4_TX_RD, 16, 0⟩
def MAC4_RX_WM_LEVEL : Fld := ⟨R.MAC4_RX_WM, 16, 0⟩
def CMPT_STAT_LOADED : Fld := ⟨R.BLK_STAT (Pg.CMPT), 0, 0⟩
def CMPT_FAULT_ANCHOR_ONLY : Fld := ⟨R.BLK_FAULT (Pg.CMPT), 16, 16⟩
def CMPT_CUR2_HANDLE : Fld := ⟨R.CMPT_CUR2, 31, 16⟩
def CMPT_CUR3_HANDLE : Fld := ⟨R.CMPT_CUR3, 31, 16⟩
def CMPT_CUR2_SESSION : Fld := ⟨R.CMPT_CUR2, 8, 8⟩
def CMPT_CUR3_SESSION : Fld := ⟨R.CMPT_CUR3, 8, 8⟩
def CMPT_CUR2_COMP : Fld := ⟨R.CMPT_CUR2, 5, 0⟩
def CMPT_CUR3_COMP : Fld := ⟨R.CMPT_CUR3, 5, 0⟩
def CMPT_SWITCHES_AC3 : Fld := ⟨R.CMPT_SWITCHES, 31, 16⟩
def CMPT_SWITCHES_AC2 : Fld := ⟨R.CMPT_SWITCHES, 15, 0⟩
def CMPT_DENY_INFO_CAPT : Fld := ⟨R.CMPT_DENY_INFO, 31, 31⟩
def CMPT_DENY_INFO_MORE : Fld := ⟨R.CMPT_DENY_INFO, 30, 30⟩
def CMPT_DENY_INFO_CORE : Fld := ⟨R.CMPT_DENY_INFO, 29, 29⟩
def CMPT_DENY_INFO_WRITE : Fld := ⟨R.CMPT_DENY_INFO, 28, 28⟩
def CMPT_DENY_INFO_COMP : Fld := ⟨R.CMPT_DENY_INFO, 27, 22⟩
def CMPT_DENY_INFO_SESSION : Fld := ⟨R.CMPT_DENY_INFO, 21, 21⟩
def CMPT_DENY_INFO_REGION : Fld := ⟨R.CMPT_DENY_INFO, 19, 16⟩
def CMPT_DENY_INFO_INDEX : Fld := ⟨R.CMPT_DENY_INFO, 15, 0⟩
def CMPT_OWN_SEL_TABLE : Fld := ⟨R.CMPT_OWN_SEL, 18, 16⟩
def CMPT_OWN_SEL_INDEX : Fld := ⟨R.CMPT_OWN_SEL, 15, 0⟩
def CMPT_OWN_DATA_COMP : Fld := ⟨R.CMPT_OWN_DATA, 5, 0⟩
def BEL_STAT_SIDE : Fld := ⟨R.BLK_STAT (Pg.BEL), 4, 4⟩
def BEL_STAT_CKPT_RESTORED : Fld := ⟨R.BLK_STAT (Pg.BEL), 3, 3⟩
def BEL_STAT_SYNCED : Fld := ⟨R.BLK_STAT (Pg.BEL), 2, 2⟩
def BEL_STAT_PAIRED : Fld := ⟨R.BLK_STAT (Pg.BEL), 1, 1⟩
def BEL_STAT_STANDBY : Fld := ⟨R.BLK_STAT (Pg.BEL), 0, 0⟩
def BEL_FAULT_BAD_CMD : Fld := ⟨R.BLK_FAULT (Pg.BEL), 17, 17⟩
def BEL_FAULT_BAD_KEY : Fld := ⟨R.BLK_FAULT (Pg.BEL), 16, 16⟩
def BEL_ROLE_PARTNER_PFW : Fld := ⟨R.BEL_ROLE, 12, 12⟩
def BEL_ROLE_PARTNER_ROLE : Fld := ⟨R.BEL_ROLE, 9, 8⟩
def BEL_ROLE_PAIR : Fld := ⟨R.BEL_ROLE, 5, 4⟩
def BEL_ROLE_ROLE : Fld := ⟨R.BEL_ROLE, 2, 0⟩
def BEL_LANE_LOCK1 : Fld := ⟨R.BEL_LANE, 3, 3⟩
def BEL_LANE_LOCK0 : Fld := ⟨R.BEL_LANE, 2, 2⟩
def BEL_LANE_UP1 : Fld := ⟨R.BEL_LANE, 1, 1⟩
def BEL_LANE_UP0 : Fld := ⟨R.BEL_LANE, 0, 0⟩
def BEL_LANE_ERR_LANE1 : Fld := ⟨R.BEL_LANE_ERR, 31, 16⟩
def BEL_LANE_ERR_LANE0 : Fld := ⟨R.BEL_LANE_ERR, 15, 0⟩
def BEL_CMD_KEY : Fld := ⟨R.BEL_CMD, 31, 16⟩
def BEL_CMD_CANCEL : Fld := ⟨R.BEL_CMD, 2, 2⟩
def BEL_CMD_RELINQUISH : Fld := ⟨R.BEL_CMD, 1, 1⟩
def BEL_CMD_SWAP : Fld := ⟨R.BEL_CMD, 0, 0⟩
def BEL_SWAP_CFG_HOURS : Fld := ⟨R.BEL_SWAP_CFG, 7, 0⟩
def BEL_ALIVE_CFG_MS : Fld := ⟨R.BEL_ALIVE_CFG, 15, 0⟩
def BEL_CKPT_CFG_S : Fld := ⟨R.BEL_CKPT_CFG, 7, 0⟩
def BEL_LINK_DLY_NS : Fld := ⟨R.BEL_LINK_DLY, 15, 0⟩
def CAIRN_STAT_SUMMIT : Fld := ⟨R.BLK_STAT (Pg.CAIRN), 4, 4⟩
def CAIRN_STAT_INDEX_READY : Fld := ⟨R.BLK_STAT (Pg.CAIRN), 3, 3⟩
def CAIRN_STAT_FULL : Fld := ⟨R.BLK_STAT (Pg.CAIRN), 2, 2⟩
def CAIRN_STAT_MODE : Fld := ⟨R.BLK_STAT (Pg.CAIRN), 1, 0⟩
def CAIRN_FAULT_SUB_REFUSED : Fld := ⟨R.BLK_FAULT (Pg.CAIRN), 18, 18⟩
def CAIRN_FAULT_BAD_CMD : Fld := ⟨R.BLK_FAULT (Pg.CAIRN), 17, 17⟩
def CAIRN_FAULT_BAD_KEY : Fld := ⟨R.BLK_FAULT (Pg.CAIRN), 16, 16⟩
def CAIRN_CMD_KEY : Fld := ⟨R.CAIRN_CMD, 31, 16⟩
def CAIRN_CMD_OP : Fld := ⟨R.CAIRN_CMD, 2, 0⟩
def CAIRN_HELD_COUNT : Fld := ⟨R.CAIRN_HELD, 15, 0⟩
def CAIRN_DROP_INFO_MAX_SEV : Fld := ⟨R.CAIRN_DROP_INFO, 2, 0⟩
def CAIRN_CFG_NOTIFY_SEV : Fld := ⟨R.CAIRN_CFG, 18, 16⟩
def CAIRN_CFG_FILL_WM : Fld := ⟨R.CAIRN_CFG, 15, 0⟩
def CAIRN_SUM_CFG_INTERVAL_S : Fld := ⟨R.CAIRN_SUM_CFG, 15, 0⟩
def ANC_STAT_SESSIONS : Fld := ⟨R.BLK_STAT (Pg.ANC), 24, 16⟩
def ANC_STAT_STATE : Fld := ⟨R.BLK_STAT (Pg.ANC), 1, 0⟩
def ANC_FAULT_BUSY_WR : Fld := ⟨R.BLK_FAULT (Pg.ANC), 17, 17⟩
def ANC_FAULT_OTHER_BOX : Fld := ⟨R.BLK_FAULT (Pg.ANC), 16, 16⟩
def ANC_REQ_CODE (i : Nat) : Fld := ⟨R.ANC_REQ i, 7, 0⟩
def ANC_GO_GO (i : Nat) : Fld := ⟨R.ANC_GO i, 0, 0⟩
def ANC_RSP_DONE (i : Nat) : Fld := ⟨R.ANC_RSP i, 31, 31⟩
def ANC_RSP_BUSY (i : Nat) : Fld := ⟨R.ANC_RSP i, 30, 30⟩
def ANC_RSP_RESULT (i : Nat) : Fld := ⟨R.ANC_RSP i, 23, 16⟩
def ANC_RSP_VALUE (i : Nat) : Fld := ⟨R.ANC_RSP i, 15, 0⟩
def ANC_SEC_REVOKED : Fld := ⟨R.ANC_SEC, 21, 16⟩
def ANC_SEC_PROGRAMMED : Fld := ⟨R.ANC_SEC, 13, 8⟩
def ANC_SEC_COUNTER : Fld := ⟨R.ANC_SEC, 7, 0⟩
def ANC_BOOTREC_VALID_B : Fld := ⟨R.ANC_BOOTREC, 6, 6⟩
def ANC_BOOTREC_VALID_A : Fld := ⟨R.ANC_BOOTREC, 5, 5⟩
def ANC_BOOTREC_ROLLED : Fld := ⟨R.ANC_BOOTREC, 4, 4⟩
def ANC_BOOTREC_TRIAL_LEFT : Fld := ⟨R.ANC_BOOTREC, 3, 2⟩
def ANC_BOOTREC_TRIAL : Fld := ⟨R.ANC_BOOTREC, 1, 1⟩
def ANC_BOOTREC_BANK : Fld := ⟨R.ANC_BOOTREC, 0, 0⟩
def UPD_STAT_STATE : Fld := ⟨R.BLK_STAT (Pg.UPD), 2, 0⟩
def UPD_FAULT_SLOT_BUSY : Fld := ⟨R.BLK_FAULT (Pg.UPD), 16, 16⟩
def UPD_SUBMIT_SLOT : Fld := ⟨R.UPD_SUBMIT, 2, 0⟩
def UPD_SLOT_STAT_ERR : Fld := ⟨R.UPD_SLOT_STAT, 15, 8⟩
def UPD_SLOT_STAT_BUSY : Fld := ⟨R.UPD_SLOT_STAT, 7, 0⟩
def UPD_SLOT_ERR_SLOT : Fld := ⟨R.UPD_SLOT_ERR, 10, 8⟩
def UPD_SLOT_ERR_REASON : Fld := ⟨R.UPD_SLOT_ERR, 2, 0⟩
def UPD_STAGE_TOTAL : Fld := ⟨R.UPD_STAGE, 31, 16⟩
def UPD_STAGE_READY : Fld := ⟨R.UPD_STAGE, 15, 0⟩
def UPD_REASON_CODE : Fld := ⟨R.UPD_REASON, 3, 0⟩
def TASK_TRIG_KIND (i : Nat) : Fld := ⟨R.TASK_TRIG i, 2, 0⟩
-- bits that the text below or beside a table names
def INTC_FAULT_ROUTE_LOCKED : Fld := ⟨R.BLK_FAULT Pg.INTC, 16, 16⟩
def INTC_FAULT_BAD_COMPLETE : Fld := ⟨R.BLK_FAULT Pg.INTC, 17, 17⟩
def INTC_FAULT_ANCHOR_TARGET : Fld := ⟨R.BLK_FAULT Pg.INTC, 18, 18⟩
def RST_FAULT_BAD_KEY : Fld := ⟨R.BLK_FAULT Pg.RST, 16, 16⟩
def RST_FAULT_LATE_CMD : Fld := ⟨R.BLK_FAULT Pg.RST, 17, 17⟩
def ECC_FAULT_TEST_LOCKED (n : Nat) : Fld := ⟨R.BLK_FAULT (Pg.ECC n), 16, 16⟩
def ECC_STAT_SELFTEST_OK (n : Nat) : Fld := ⟨R.BLK_STAT (Pg.ECC n), 0, 0⟩
def ECC_STAT_SCRUB_LATE (n : Nat) : Fld := ⟨R.BLK_STAT (Pg.ECC n), 1, 1⟩
def FNET_STAT_RUN : Fld := ⟨R.BLK_STAT Pg.FNET, 3, 0⟩
def FNET_FAULT_BAD_WRITE : Fld := ⟨R.BLK_FAULT Pg.FNET, 16, 16⟩
def IOS_STAT_PHASE : Fld := ⟨R.BLK_STAT Pg.IOS, 2, 0⟩
def IOS_STAT_IMAGE_FULL : Fld := ⟨R.BLK_STAT Pg.IOS, 3, 3⟩
def IOS_STAT_TIMEOUT : Fld := ⟨R.BLK_STAT Pg.IOS, 4, 4⟩
def LIO_FAULT_BAD_WRITE : Fld := ⟨R.BLK_FAULT Pg.LIO, 16, 16⟩
def MAC_FAULT_BAD_WRITE (n : Nat) : Fld := ⟨R.BLK_FAULT (Pg.MAC n), 16, 16⟩
end F

-- Event bits of INT_RAW (R89, R104).
namespace Ev
def CLK_LOSS : Nat := 0
def CLK_RESTORE : Nat := 1
def CLK_PLL_UNLOCK : Nat := 2
def CAN_BUS_OFF : Nat := 0
def CAN_ERR_PASSIVE : Nat := 1
def CAN_RX_OVF : Nat := 2
def CAN_RX_WM : Nat := 3
def CAN_TX_DONE : Nat := 4
def CAN_TX_LATE : Nat := 5
def CAN_WAKE : Nat := 6
def CAN_MODE_DONE : Nat := 7
def TASK_REL_AC0 : Nat := 0
def TASK_REL_AC1 : Nat := 1
def TASK_OVR_AC0 : Nat := 2
def TASK_OVR_AC1 : Nat := 3
def TASK_BUDGET_AC0 : Nat := 4
def TASK_BUDGET_AC1 : Nat := 5
def TASK_STEP : Nat := 6
def TASK_RELEASE_OK : Nat := 7
def LOOP_MISS : Nat := 0
def LOOP_STALE : Nat := 1
def LOOP_PARAM_ERR : Nat := 2
def LOOP_ENABLE_REF : Nat := 3
def LOOP_LANE_FAULT : Nat := 4
def LOOP_REPHASE : Nat := 8
def TUNE_INJ_END : Nat := 0
def TUNE_CAP_END : Nat := 4
def MTR_CIRC_VALID : Nat := 0
def MTR_CIRC_INVALID : Nat := 1
def MTR_ZC_LOST : Nat := 2
def MTR_ZC_BACK : Nat := 3
def MTR_SEQ_ERR : Nat := 4
def MTR_CLIP : Nat := 5
def MTR_MOD_FAULT : Nat := 6
def MTR_TEMP_FALLBACK : Nat := 7
def MTR_CAL_CHG : Nat := 8
def MTR_WINDOW : Nat := 9
def MTR_ENABLE_REF : Nat := 10
def MTR_FREQ_RANGE : Nat := 11
def NRG_INTERVAL : Nat := 0
def NRG_REVERSED : Nat := 1
def NRG_SAVE_DONE : Nat := 2
def NRG_SAVE_FAIL : Nat := 3
def NRG_UNSAVED : Nat := 4
def NRG_EXPORT_DONE : Nat := 5
def NRG_TALLY_WRAP : Nat := 6
def RTC_SECOND : Nat := 0
def RTC_CD_EXPIRE : Nat := 1
def RTC_BAD_DATE : Nat := 2
def RTC_ROLL : Nat := 3
def RTC_TIME_LOST : Nat := 4
def PTP_LOCK0 : Nat := 0
def PTP_LOCK1 : Nat := 1
def PTP_SWITCH : Nat := 2
def PTP_STEP : Nat := 3
def PTP_HOLDOVER : Nat := 4
def PTP_SLEW_DONE : Nat := 5
def PTP_SCHED : Nat := 6
def PTP_PPS_IN : Nat := 7
def SW_LINK_CHG : Nat := 0
def SW_FDB_FULL : Nat := 1
def SW_HSR_FAULT : Nat := 2
def SW_STORM : Nat := 3
def MAC_LINK_CHG : Nat := 0
def MAC_RX_ERR : Nat := 1
def MAC_TX_LATE : Nat := 2
def MAC_SFP_CHG : Nat := 3
def MAC4_RX_WM : Nat := 0
def MAC4_TX_DONE : Nat := 1
def MAC4_RX_OVF : Nat := 2
def CMPT_DENY : Nat := 0
def CMPT_SESSION_END : Nat := 1
def CMPT_TABLE_CHG : Nat := 2
def BEL_PAIRED : Nat := 0
def BEL_PARTNER_LOST : Nat := 1
def BEL_SYNCED : Nat := 2
def BEL_RESYNC : Nat := 3
def BEL_LANE_CHG : Nat := 4
def BEL_FAILOVER : Nat := 5
def BEL_HANDOVER : Nat := 6
def BEL_DEMOTED : Nat := 7
def BEL_SWAP_REFUSED : Nat := 8
def BEL_COPY_OVF : Nat := 9
def BEL_DUAL_ACTIVE : Nat := 10
def BEL_CKPT_DONE : Nat := 11
def CAIRN_FULL : Nat := 0
def CAIRN_DROP : Nat := 1
def CAIRN_FILL : Nat := 2
def CAIRN_NOTIFY : Nat := 3
def ANC_RSP_AC : Nat := 0
def ANC_UPD : Nat := 4
def ANC_HOLD : Nat := 5
def ANC_LC : Nat := 6
def UPD_BLOCK_DONE : Nat := 0
def UPD_BLOCK_ERR : Nat := 1
def UPD_STATE : Nat := 2
def TSENS_WARN : Nat := 0
def PFW_FALL : Nat := 0
def PFW_RISE : Nat := 1
def SYS_FAULT : Nat := 0
def SYS_TIME_VALID : Nat := 1
def SYS_FORCE_CHG : Nat := 2
def SYS_DRAM_READY : Nat := 3
def RST_NOTICE : Nat := 0
def ECC_CE_THRESH : Nat := 0
def ECC_UE : Nat := 1
def FNET_SYNC_LATE : Nat := 0
def FNET_SYNC_DROP : Nat := 1
def FNET_DISC_DONE : Nat := 2
def FNET_START_TMO : Nat := 3
def LIO_CLIP : Nat := 0
def LIO_SHORT : Nat := 1
def LIO_DIO_CHG : Nat := 2
def IOS_LOST : Nat := 0
def IOS_REJOINED : Nat := 1
def IOS_JOINED : Nat := 2
def IOS_PARKED : Nat := 3
def IOS_DUPLICATE : Nat := 4
def IOS_MISWIRED : Nat := 5
def IOS_CFG_FAIL : Nat := 6
def IOS_IMAGE_FULL : Nat := 7
def IOS_EVT_OVF : Nat := 8
def IOS_LATCH_MISS : Nat := 9
def IOS_STALE_FRAME : Nat := 10
def IOS_BAD_FRAME : Nat := 11
def IOS_SLOT_LATE : Nat := 12
def IOS_Q0_FULL : Nat := 13
end Ev

end Sys2Proof
end

