-- ==== Sys2Proof/Machine/RegTable.lean ====
section
/-! DEFINITION. The register tables of spec/02 to spec/19 as data: for each register of a page its offsets, which of its bits a write
changes (RW, or RW for the anchor alone), which clear when written 1 (W1C) or when read (RC), its reset value, and the bits that a warm
reset and a cold reset keep (R114, R431, the "unchanged by warm reset" and "since cold reset" fields). Offsets that no row lists are RSV (R88). -/
namespace Sys2Proof.Machine

/-- One register, or an array of `count` registers `stride` bytes apart. -/
structure RegRow where
  off : Nat
  count : Nat
  stride : Nat
  /-- bits that a write by any permitted requester changes -/
  rw : Nat
  /-- bits that only the anchor's write changes -/
  anc : Nat
  w1c : Nat
  rc : Nat
  /-- a write-only register reads as 0 -/
  wo : Bool
  reset : Nat
  warmKeep : Nat
  coldKeep : Nat
deriving DecidableEq, Repr

/-- CLK: R42 of 01_architecture.md. -/
def rowsCLK : List RegRow := [
  ⟨0x100, 1, 0x4, 0, 0, 0, 0, false, 0, 0, 0⟩, /- LOST -/
  ⟨0x104, 1, 0x4, 0, 0, 0x7ff, 0, false, 0, 0x7ff, 0⟩, /- LOST_EVER -/
  ⟨0x108, 1, 0x4, 0, 0, 0, 0, false, 0, 0xffffffff, 0xffffffff⟩, /- LAST_RESET -/
  ⟨0x10c, 1, 0x4, 0, 0, 0, 0, false, 0x7f, 0, 0⟩, /- PLL_LOCK -/
  ⟨0x110, 1, 0x4, 0xf, 0, 0, 0, false, 0, 0, 0⟩, /- MON_SEL -/
  ⟨0x114, 1, 0x4, 0, 0, 0, 0, false, 0, 0, 0⟩ /- MON_PPM -/
  ]

/-- TSENS: R83 of 02_module_hardware.md. -/
def rowsTSENS : List RegRow := [
  ⟨0x100, 1, 0x4, 0, 0, 0, 0, false, 0, 0x80000000, 0⟩, /- TEMP -/
  ⟨0x104, 1, 0x4, 0, 0, 0, 0, false, 0x8000, 0xffff, 0⟩, /- MAX -/
  ⟨0x108, 1, 0x4, 0xffff, 0, 0, 0, false, 0x6e0, 0xffff, 0⟩ /- WARN -/
  ]

/-- PFW: R85 of 02_module_hardware.md. -/
def rowsPFW : List RegRow := [
  ⟨0x100, 1, 0x4, 0, 0, 0, 0, false, 0, 0, 0⟩, /- STAT -/
  ⟨0x104, 1, 0x4, 0, 0, 0, 0, false, 0, 0xffffffff, 0⟩, /- COUNT -/
  ⟨0x108, 1, 0x4, 0, 0, 0, 0, false, 0, 0, 0⟩, /- TS_LO -/
  ⟨0x10c, 1, 0x4, 0, 0, 0, 0, false, 0, 0, 0⟩ /- TS_HI -/
  ]

/-- SYS: R101 of 03_registers_interrupts.md. -/
def rowsSYS : List RegRow := [
  ⟨0x100, 1, 0x4, 0, 0, 0, 0, false, 0, 0, 0⟩, /- FAULT_ADDR_LO -/
  ⟨0x104, 1, 0x4, 0, 0, 0, 0, false, 0, 0, 0⟩, /- FAULT_ADDR_HI -/
  ⟨0x108, 1, 0x4, 0, 0, 0, 0, false, 0, 0xffffffff, 0⟩, /- FAULT_COUNT -/
  ⟨0x10c, 1, 0x4, 0, 0, 0, 0, false, 0, 0, 0⟩, /- FAULT_MAP_LO -/
  ⟨0x110, 1, 0x4, 0, 0, 0, 0, false, 0, 0, 0⟩ /- FAULT_MAP_HI -/
  ]

/-- INTC: R106 of 03_registers_interrupts.md. -/
def rowsINTC : List RegRow := [
  ⟨0x100, 256, 0x4, 0x77, 0x100, 0, 0, false, 0, 0, 0⟩, /- ROUTE -/
  ⟨0x600, 5, 0x10, 0x7, 0, 0, 0, false, 0, 0, 0⟩, /- THRESH -/
  ⟨0x604, 5, 0x10, 0, 0, 0, 0x800000ff, false, 0, 0, 0⟩, /- CLAIM -/
  ⟨0x608, 5, 0x10, 0, 0, 0, 0, true, 0, 0, 0⟩, /- COMPLETE -/
  ⟨0x700, 1, 0x4, 0, 0, 0, 0, true, 0, 0, 0⟩, /- SWI_SET -/
  ⟨0x710, 8, 0x4, 0, 0, 0, 0, false, 0, 0, 0⟩ /- LEVEL -/
  ]

/-- RST: R121 of 04_reset_lifecycle_memory.md. -/
def rowsRST : List RegRow := [
  ⟨0x100, 1, 0x4, 0, 0, 0, 0, false, 0, 0xffffffff, 0xffffffff⟩, /- CAUSE -/
  ⟨0x104, 1, 0x4, 0, 0, 0, 0, true, 0, 0, 0⟩, /- CMD -/
  ⟨0x108, 1, 0x4, 0, 0, 0, 0, false, 0, 0xffffffff, 0xffffffff⟩, /- LC_STAT -/
  ⟨0x10c, 1, 0x4, 0, 0, 0, 0, false, 0, 0xffffffff, 0xffffffff⟩, /- COLD_COUNT -/
  ⟨0x110, 1, 0x4, 0, 0, 0, 0, false, 0, 0xffffffff, 0xffffffff⟩, /- WARM_COUNT -/
  ⟨0x114, 1, 0x4, 0, 0, 0, 0, false, 0, 0, 0⟩, /- BOOT_STAT -/
  ⟨0x118, 1, 0x4, 0, 0, 0, 0, false, 0, 0, 0⟩ /- BOOT_TIME -/
  ]

/-- ECC: R141 of 04_reset_lifecycle_memory.md. -/
def rowsECC : List RegRow := [
  ⟨0x100, 1, 0x4, 0, 0, 0, 0, false, 0, 0, 0⟩, /- CE_TOTAL -/
  ⟨0x104, 1, 0x4, 0, 0, 0, 0, false, 0, 0, 0⟩, /- BUCKET -/
  ⟨0x108, 1, 0x4, 0xffff00ff, 0, 0, 0, false, 0x2580008, 0xffffffff, 0⟩, /- BUCKET_CFG -/
  ⟨0x10c, 1, 0x4, 0, 0, 0, 0, false, 0, 0, 0⟩, /- CE_ADDR_LO -/
  ⟨0x110, 1, 0x4, 0, 0, 0, 0, false, 0, 0, 0⟩, /- CE_ADDR_HI -/
  ⟨0x114, 1, 0x4, 0, 0, 0, 0, false, 0, 0, 0⟩, /- CE_INFO -/
  ⟨0x118, 1, 0x4, 0, 0, 0, 0, false, 0, 0, 0⟩, /- UE_COUNT -/
  ⟨0x11c, 1, 0x4, 0, 0, 0, 0, false, 0, 0, 0⟩, /- UE_ADDR_LO -/
  ⟨0x120, 1, 0x4, 0, 0, 0, 0, false, 0, 0, 0⟩, /- UE_ADDR_HI -/
  ⟨0x124, 1, 0x4, 0, 0, 0xc0000000, 0, false, 0, 0, 0⟩, /- UE_INFO -/
  ⟨0x128, 1, 0x4, 0, 0, 0, 0, false, 0, 0, 0⟩, /- SCRUB_PASS -/
  ⟨0x800, 1, 0x4, 0xffff, 0, 0, 0, false, 0xa, 0, 0⟩, /- SCRUB_PERIOD -/
  ⟨0x804, 1, 0x4, 0xffffffff, 0, 0, 0, false, 0, 0, 0⟩, /- TEST_FLIP_LO -/
  ⟨0x808, 1, 0x4, 0xffffffff, 0, 0, 0, false, 0, 0, 0⟩, /- TEST_FLIP_HI -/
  ⟨0x80c, 1, 0x4, 0x1ff, 0, 0, 0, false, 0, 0, 0⟩, /- TEST_CTL -/
  ⟨0x810, 1, 0x4, 0xffffffff, 0, 0, 0, false, 0, 0, 0⟩, /- TEST_ADDR_LO -/
  ⟨0x814, 1, 0x4, 0xffffffff, 0, 0, 0, false, 0, 0, 0⟩ /- TEST_ADDR_HI -/
  ]

/-- CAN: R175 of 05_field_bus_controllers.md. -/
def rowsCAN : List RegRow := [
  ⟨0x100, 1, 0x4, 0x7, 0, 0, 0, false, 0, 0, 0⟩, /- MODE -/
  ⟨0x104, 1, 0x4, 0xd, 0, 0, 0, false, 0x1, 0, 0⟩, /- RATE -/
  ⟨0x108, 1, 0x4, 0, 0, 0, 0, false, 0, 0, 0⟩, /- STATE -/
  ⟨0x10c, 1, 0x4, 0, 0, 0, 0, false, 0, 0, 0⟩, /- ERR_CNT -/
  ⟨0x110, 1, 0x4, 0, 0, 0, 0xffffffff, false, 0, 0, 0⟩, /- ERR_TYPE -/
  ⟨0x114, 1, 0x4, 0, 0, 0, 0, true, 0, 0, 0⟩, /- CMD -/
  ⟨0x118, 1, 0x4, 0x1, 0, 0, 0, false, 0, 0, 0⟩, /- RX_CFG -/
  ⟨0x11c, 1, 0x4, 0, 0, 0, 0, false, 0, 0, 0⟩, /- RX_WR -/
  ⟨0x120, 1, 0x4, 0xffff, 0, 0, 0, false, 0, 0, 0⟩, /- RX_RD_FW -/
  ⟨0x124, 1, 0x4, 0, 0, 0, 0, false, 0, 0, 0⟩, /- RX_RD_IOS -/
  ⟨0x128, 1, 0x4, 0xffff1fff, 0, 0, 0, false, 0x1, 0, 0⟩, /- RX_WM -/
  ⟨0x12c, 1, 0x4, 0, 0, 0, 0xffffffff, false, 0, 0, 0⟩, /- RX_OVF -/
  ⟨0x130, 1, 0x4, 0xffff0003, 0, 0, 0, false, 0, 0, 0⟩, /- TXQ1_CFG -/
  ⟨0x134, 1, 0x4, 0xffff, 0, 0, 0, false, 0, 0, 0⟩, /- TXQ1_WR -/
  ⟨0x138, 1, 0x4, 0, 0, 0, 0, false, 0, 0, 0⟩, /- TXQ1_RD -/
  ⟨0x13c, 1, 0x4, 0xffff0003, 0, 0, 0, false, 0, 0, 0⟩, /- TXQ2_CFG -/
  ⟨0x140, 1, 0x4, 0xffff, 0, 0, 0, false, 0, 0, 0⟩, /- TXQ2_WR -/
  ⟨0x144, 1, 0x4, 0, 0, 0, 0, false, 0, 0, 0⟩, /- TXQ2_RD -/
  ⟨0x148, 1, 0x4, 0, 0, 0, 0, false, 0, 0, 0⟩, /- TXQ0_WR -/
  ⟨0x14c, 1, 0x4, 0, 0, 0, 0, false, 0, 0, 0⟩, /- TXQ0_RD -/
  ⟨0x150, 1, 0x4, 0x1, 0, 0, 0, false, 0, 0, 0⟩, /- WAKE_CFG -/
  ⟨0x154, 1, 0x4, 0x1fffffff, 0, 0, 0, false, 0, 0, 0⟩, /- WAKE_ID -/
  ⟨0x158, 1, 0x4, 0x1fffffff, 0, 0, 0, false, 0, 0, 0⟩, /- WAKE_MASK -/
  ⟨0x15c, 1, 0x4, 0xffff, 0, 0, 0, false, 0, 0, 0⟩, /- WAKE_DATA -/
  ⟨0x160, 1, 0x4, 0, 0, 0, 0, false, 0, 0, 0⟩, /- WAKE_TS_LO -/
  ⟨0x164, 1, 0x4, 0, 0, 0, 0, false, 0, 0, 0⟩, /- WAKE_TS_HI -/
  ⟨0x168, 1, 0x4, 0, 0, 0, 0, false, 0, 0xffffffff, 0⟩, /- WAKE_COUNT -/
  ⟨0x16c, 1, 0x4, 0, 0, 0, 0, false, 0, 0, 0⟩, /- RX_FRAMES -/
  ⟨0x170, 1, 0x4, 0, 0, 0, 0, false, 0, 0, 0⟩, /- TX_FRAMES -/
  ⟨0x200, 20, 0x4, 0, 0, 0, 0, false, 0, 0, 0⟩, /- RXW -/
  ⟨0x800, 1, 0x4, 0x1f7f7fff, 0, 0, 0, false, 0, 0, 0⟩, /- BT_NOM -/
  ⟨0x804, 1, 0x4, 0x1f7f7fff, 0, 0, 0, false, 0, 0, 0⟩, /- BT_DATA -/
  ⟨0x808, 1, 0x4, 0x7f, 0, 0, 0, false, 0, 0, 0⟩ /- TDC -/
  ]

/-- FNET: R215 of 06_mfp_discovery_scan.md. -/
def rowsFNET : List RegRow := [
  ⟨0x100, 1, 0x4, 0xff0fff, 0, 0, 0, false, 0x320000, 0, 0⟩, /- SYNC_CFG -/
  ⟨0x104, 1, 0x4, 0xff, 0, 0, 0, false, 0x5, 0, 0⟩, /- DISC_CFG -/
  ⟨0x108, 1, 0x4, 0xffff, 0, 0, 0, false, 0x2710, 0, 0⟩, /- START_TMO -/
  ⟨0x10c, 1, 0x4, 0xffffffff, 0, 0, 0, false, 0x1f400c8, 0, 0⟩, /- Q0_CFG -/
  ⟨0x110, 1, 0x4, 0, 0, 0, 0, false, 0, 0, 0⟩, /- CYCLE_LO -/
  ⟨0x114, 1, 0x4, 0, 0, 0, 0, false, 0, 0, 0⟩, /- CYCLE_HI -/
  ⟨0x118, 4, 0x4, 0, 0, 0, 0, false, 0, 0, 0⟩, /- LOAD -/
  ⟨0x128, 4, 0x4, 0, 0, 0, 0xffffffff, false, 0, 0, 0⟩, /- SYNC_CNT -/
  ⟨0x138, 4, 0x4, 0, 0, 0, 0, false, 0, 0, 0⟩ /- SYNC_ERR -/
  ]

/-- IOS: R216 of 06_mfp_discovery_scan.md. -/
def rowsIOS : List RegRow := [
  ⟨0x100, 1, 0x4, 0x3ff, 0, 0, 0, false, 0x1, 0, 0⟩, /- STN_SEL -/
  ⟨0x104, 1, 0x4, 0, 0, 0, 0, false, 0, 0, 0⟩, /- STN_STAT -/
  ⟨0x108, 1, 0x4, 0, 0, 0, 0, false, 0, 0, 0⟩, /- STN_SER_LO -/
  ⟨0x10c, 1, 0x4, 0, 0, 0, 0, false, 0, 0, 0⟩, /- STN_SER_HI -/
  ⟨0x110, 1, 0x4, 0, 0, 0, 0, false, 0, 0, 0⟩, /- STN_MAXOFF -/
  ⟨0x114, 1, 0x4, 0, 0, 0, 0, false, 0, 0, 0⟩, /- COUNTS -/
  ⟨0x118, 1, 0x4, 0, 0, 0, 0, false, 0, 0, 0⟩, /- START_MS -/
  ⟨0x11c, 1, 0x4, 0, 0, 0, 0xf80003ff, false, 0, 0, 0⟩, /- EVT -/
  ⟨0x120, 1, 0x4, 0, 0, 0, 0xffffffff, false, 0, 0, 0⟩, /- DROP_LOST -/
  ⟨0x124, 1, 0x4, 0, 0, 0, 0xffffffff, false, 0, 0, 0⟩, /- STALE_FRAME -/
  ⟨0x128, 1, 0x4, 0, 0, 0, 0xffffffff, false, 0, 0, 0⟩, /- BAD_FRAME -/
  ⟨0x12c, 1, 0x4, 0, 0, 0, 0xffffffff, false, 0, 0, 0⟩, /- LATCH_MISS -/
  ⟨0x130, 8, 0x4, 0, 0, 0, 0, false, 0, 0, 0⟩, /- LOST_MAP -/
  ⟨0x150, 1, 0x4, 0, 0, 0, 0xffffffff, false, 0, 0, 0⟩ /- Q0_FULL -/
  ]

/-- TASK: R252 of 07_cyclic_execution.md. -/
def rowsTASK : List RegRow := [
  ⟨0x100, 1, 0x4, 0, 0, 0, 0, false, 0, 0, 0⟩, /- MONO_LO -/
  ⟨0x104, 1, 0x4, 0, 0, 0, 0, false, 0, 0, 0⟩, /- MONO_HI -/
  ⟨0x108, 1, 0x4, 0, 0, 0, 0, false, 0, 0, 0⟩, /- MT_OFF_LO -/
  ⟨0x10c, 1, 0x4, 0, 0, 0, 0, false, 0, 0, 0⟩, /- MT_OFF_HI -/
  ⟨0x110, 1, 0x4, 0, 0, 0, 0x8000003f, false, 0, 0, 0⟩, /- DISPATCH0 -/
  ⟨0x114, 1, 0x4, 0, 0, 0, 0x8000003f, false, 0, 0, 0⟩, /- DISPATCH1 -/
  ⟨0x118, 1, 0x4, 0, 0, 0, 0, true, 0, 0, 0⟩, /- COMMIT0 -/
  ⟨0x11c, 1, 0x4, 0, 0, 0, 0, true, 0, 0, 0⟩, /- COMMIT1 -/
  ⟨0x120, 1, 0x4, 0, 0, 0, 0, true, 0, 0, 0⟩, /- SW_TRIG -/
  ⟨0x124, 1, 0x4, 0, 0, 0, 0, false, 0, 0, 0⟩, /- RUN0 -/
  ⟨0x128, 1, 0x4, 0, 0, 0, 0, false, 0, 0, 0⟩, /- RUN1 -/
  ⟨0x12c, 1, 0x4, 0, 0, 0, 0, false, 0, 0, 0⟩, /- OVR_TOTAL -/
  ⟨0x130, 1, 0x4, 0, 0, 0, 0, false, 0xffffffff, 0, 0⟩, /- NEXT_REL_LO -/
  ⟨0x134, 1, 0x4, 0, 0, 0, 0, false, 0xffffffff, 0, 0⟩, /- NEXT_REL_HI -/
  ⟨0x140, 48, 0x20, 0xf101, 0, 0, 0, false, 0xf000, 0, 0⟩, /- TCFG -/
  ⟨0x144, 16, 0x20, 0x3fff, 0, 0, 0, false, 1, 0, 0⟩, /- PERIOD -/
  ⟨0x344, 32, 0x20, 7, 0, 0, 0, false, 0, 0, 0⟩, /- TRIG -/
  ⟨0x148, 16, 0x20, 0xffffff, 0, 0, 0, false, 0, 0, 0⟩, /- OFFSET -/
  ⟨0x348, 32, 0x20, 0xffffffff, 0, 0, 0, false, 0, 0, 0⟩, /- TRIG_ARG -/
  ⟨0x14c, 48, 0x20, 0x7ff07ff, 0, 0, 0, false, 0, 0, 0⟩, /- LISTS -/
  ⟨0x150, 48, 0x20, 0xffffffff, 0, 0, 0, false, 0, 0xffffffff, 0⟩, /- BUDGET -/
  ⟨0x154, 48, 0x20, 0, 0, 0, 0, false, 0, 0, 0⟩, /- TSTAT -/
  ⟨0x158, 48, 0x20, 0, 0, 0, 0, false, 0, 0, 0⟩, /- OVR_CNT -/
  ⟨0x15c, 48, 0x20, 0, 0, 0, 0xffffffff, false, 0, 0, 0⟩ /- EXEC_MAX -/
  ]

/-- LOOP: R312 of 09_loop_engine.md. -/
def rowsLOOP : List RegRow := [
  ⟨0x100, 16, 0x4, 0xffffffff, 0, 0, 0, false, 0, 0, 0⟩, /- EN -/
  ⟨0x140, 16, 0x4, 0, 0, 0xffffffff, 0, false, 0, 0, 0⟩, /- MISS -/
  ⟨0x180, 16, 0x4, 0, 0, 0, 0, false, 0, 0, 0⟩, /- STALE -/
  ⟨0x1c0, 1, 0x4, 0, 0, 0, 0, false, 0, 0, 0⟩, /- LANE_STAT -/
  ⟨0x1c4, 1, 0x4, 0, 0, 0, 0xffffffff, false, 0, 0, 0⟩, /- MISS_TOTAL -/
  ⟨0x1c8, 1, 0x4, 0, 0, 0, 0xffffffff, false, 0, 0, 0⟩, /- PARAM_ERR -/
  ⟨0x1cc, 1, 0x4, 0, 0, 0, 0x8000f1ff, false, 0, 0, 0⟩, /- ENREF -/
  ⟨0x1d0, 1, 0x4, 0, 0, 0, 0, true, 0, 0, 0⟩, /- STAT_CLR -/
  ⟨0x1d4, 4, 0x4, 0, 0, 0, 0xffff, false, 0, 0, 0⟩, /- WORST -/
  ⟨0x800, 16, 0x4, 0xffffffff, 0, 0, 0, false, 0, 0xffffffff, 0⟩ /- HOS -/
  ]

/-- LIO: R315 of 09_loop_engine.md. -/
def rowsLIO : List RegRow := [
  ⟨0x100, 8, 0x4, 0, 0, 0, 0, false, 0, 0, 0⟩, /- AIN -/
  ⟨0x120, 1, 0x4, 0, 0, 0, 0, false, 0, 0, 0⟩, /- AIN_TS_LO -/
  ⟨0x124, 1, 0x4, 0, 0, 0, 0, false, 0, 0, 0⟩, /- AIN_TS_HI -/
  ⟨0x128, 4, 0x4, 0, 0, 0, 0, false, 0, 0, 0⟩, /- AOUT -/
  ⟨0x138, 1, 0x4, 0xffff, 0, 0, 0, false, 0, 0, 0⟩, /- DIO_DIR -/
  ⟨0x13c, 1, 0x4, 0, 0, 0, 0, false, 0, 0, 0⟩, /- DIO_IN -/
  ⟨0x140, 1, 0x4, 0, 0, 0, 0, false, 0, 0, 0⟩, /- DIO_OUT -/
  ⟨0x144, 1, 0x4, 0xffff, 0, 0, 0, false, 0, 0, 0⟩ /- DIO_CHG_EN -/
  ]

/-- TUNE: R334 of 10_loop_tuning_feedback.md. -/
def rowsTUNE : List RegRow := [
  ⟨0x100, 4, 0x20, 0xffffffff, 0, 0, 0, false, 0, 0, 0⟩, /- INJ_CFG -/
  ⟨0x104, 4, 0x20, 0xffffffff, 0, 0, 0, false, 0, 0, 0⟩, /- INJ_AMP -/
  ⟨0x108, 4, 0x20, 0xffffffff, 0, 0, 0, false, 0, 0, 0⟩, /- INJ_LEN -/
  ⟨0x10c, 4, 0x20, 0xffff, 0, 0, 0, false, 0, 0, 0⟩, /- INJ_DELAY -/
  ⟨0x110, 4, 0x20, 0xffffffff, 0, 0, 0, false, 0, 0, 0⟩, /- INJ_INC0 -/
  ⟨0x114, 4, 0x20, 0xffffffff, 0, 0, 0, false, 0, 0, 0⟩, /- INJ_DINC -/
  ⟨0x118, 4, 0x20, 0, 0, 0, 0, true, 0, 0, 0⟩, /- INJ_CMD -/
  ⟨0x11c, 4, 0x20, 0, 0, 0, 0, false, 0, 0, 0⟩, /- INJ_STAT -/
  ⟨0x180, 4, 0x20, 0xffff7fff, 0, 0, 0, false, 0x10000, 0, 0⟩, /- CAP_CFG -/
  ⟨0x184, 4, 0x20, 0x1ffff, 0, 0, 0, false, 0x10000, 0, 0⟩, /- CAP_LEN -/
  ⟨0x188, 4, 0x20, 0, 0, 0, 0, true, 0, 0, 0⟩, /- CAP_CMD -/
  ⟨0x18c, 4, 0x20, 0, 0, 0, 0, false, 0, 0, 0⟩, /- CAP_STAT -/
  ⟨0x190, 4, 0x20, 0, 0, 0, 0, false, 0, 0, 0⟩, /- CAP_COUNT -/
  ⟨0x194, 4, 0x20, 0, 0, 0, 0, false, 0, 0, 0⟩, /- CAP_T0_LO -/
  ⟨0x198, 4, 0x20, 0, 0, 0, 0, false, 0, 0, 0⟩, /- CAP_T0_HI -/
  ⟨0x19c, 4, 0x20, 0, 0, 0, 0, false, 0, 0, 0⟩ /- CAP_NEXT -/
  ]

/-- MTR: R376 of 12_metering_front_end.md. -/
def rowsMTR : List RegRow := [
  ⟨0x100, 1, 0x4, 0xf, 0, 0, 0, false, 0, 0, 0⟩, /- MCLK_EN -/
  ⟨0x104, 1, 0x4, 0xffffff, 0, 0, 0, false, 0, 0, 0⟩, /- MOD_EDGE -/
  ⟨0x108, 1, 0x4, 0, 0, 0, 0, false, 0, 0, 0⟩, /- MOD_STAT -/
  ⟨0x10c, 1, 0x4, 0, 0, 0xffffff, 0, false, 0, 0, 0⟩, /- CLIP -/
  ⟨0x110, 1, 0x4, 0xff00ff, 0, 0, 0, false, 0x32000a, 0, 0⟩, /- ZC_CFG -/
  ⟨0x114, 1, 0x4, 0, 0, 0, 0, false, 0, 0, 0⟩, /- ZC_STAT -/
  ⟨0x118, 4, 0x4, 0x1ffff, 0, 0, 0, false, 0, 0, 0⟩, /- TSRC -/
  ⟨0x128, 1, 0x4, 0, 0, 0, 0, false, 0, 0, 0⟩, /- TEMP_STAT -/
  ⟨0x12c, 1, 0x4, 0, 0, 0, 0, false, 0, 0, 0⟩, /- CAL_CRC -/
  ⟨0x130, 1, 0x4, 0, 0, 0, 0, false, 0, 0, 0⟩, /- CAL_ID -/
  ⟨0x134, 1, 0x4, 0, 0, 0, 0x80000f1f, false, 0, 0, 0⟩, /- ENREF -/
  ⟨0x200, 18, 0x10, 0x1fffffd, 0x7e000000, 0, 0, false, 0, 0, 0⟩, /- CIRC_CFG -/
  ⟨0x204, 18, 0x10, 0xffff, 0, 0, 0, false, 0, 0, 0⟩, /- CIRC_PID -/
  ⟨0x208, 18, 0x10, 0xffffffff, 0, 0, 0, false, 0, 0, 0⟩, /- CIRC_CREEP -/
  ⟨0x20c, 18, 0x10, 0, 0, 0, 0, false, 0, 0, 0⟩, /- CIRC_STAT -/
  ⟨0x800, 1, 0x4, 0x3f1f, 0, 0, 0, false, 0, 0, 0⟩, /- CAL_SEL -/
  ⟨0x804, 1, 0x4, 0xffffffff, 0, 0, 0, false, 0, 0, 0⟩, /- CAL_DATA -/
  ⟨0x808, 1, 0x4, 0, 0, 0, 0, true, 0, 0, 0⟩, /- CAL_CMD -/
  ⟨0x80c, 1, 0x4, 0, 0, 0, 0, false, 0, 0, 0⟩, /- CAL_STAT -/
  ⟨0x810, 1, 0x4, 0x1, 0, 0, 0, false, 0, 0, 0⟩ /- FILT_CFG -/
  ]

/-- NRG: R401 of 13_energy_totals.md. -/
def rowsNRG : List RegRow := [
  ⟨0x100, 1, 0x4, 0x71f, 0, 0, 0, false, 0, 0, 0⟩, /- TOT_SEL -/
  ⟨0x104, 1, 0x4, 0, 0, 0, 0, false, 0, 0, 0⟩, /- TOT_LO -/
  ⟨0x108, 1, 0x4, 0, 0, 0, 0, false, 0, 0, 0⟩, /- TOT_HI -/
  ⟨0x10c, 1, 0x4, 0, 0, 0, 0, false, 0, 0, 0⟩, /- TALLY -/
  ⟨0x110, 1, 0x4, 0, 0, 0, 0, false, 0, 0, 0⟩, /- TALLY_WRAP -/
  ⟨0x114, 1, 0x4, 0xfff003f, 0, 0, 0, false, 0x25000f, 0x3f, 0⟩, /- DMD_CFG -/
  ⟨0x118, 1, 0x4, 0x3f, 0, 0, 0, false, 0x1, 0, 0⟩, /- SAVE_CFG -/
  ⟨0x11c, 1, 0x4, 0, 0, 0, 0, false, 0, 0, 0⟩, /- SAVE_STAT -/
  ⟨0x120, 1, 0x4, 0, 0, 0, 0, false, 0, 0, 0⟩, /- SAVE_TS_LO -/
  ⟨0x124, 1, 0x4, 0, 0, 0, 0, false, 0, 0, 0⟩, /- SAVE_TS_HI -/
  ⟨0x128, 1, 0x4, 0, 0, 0, 0, true, 0, 0, 0⟩, /- EXP_CMD -/
  ⟨0x12c, 1, 0x4, 0, 0, 0, 0, false, 0, 0, 0⟩, /- EXP_STAT -/
  ⟨0x200, 18, 0x4, 0x7, 0, 0, 0, false, 0x3, 0x7, 0⟩ /- CIRC_TCFG -/
  ]

/-- RTC: R431 of 14_time.md. -/
def rowsRTC : List RegRow := [
  ⟨0x100, 1, 0x4, 0, 0, 0, 0, false, 0, 0xffffffff, 0xffffffff⟩, /- SEC -/
  ⟨0x104, 1, 0x4, 0, 0, 0, 0, false, 0, 0xffffffff, 0xffffffff⟩, /- MIN -/
  ⟨0x108, 1, 0x4, 0, 0, 0, 0, false, 0, 0xffffffff, 0xffffffff⟩, /- HOUR -/
  ⟨0x10c, 1, 0x4, 0, 0, 0, 0, false, 0, 0xffffffff, 0xffffffff⟩, /- WDAY -/
  ⟨0x110, 1, 0x4, 0, 0, 0, 0, false, 0, 0xffffffff, 0xffffffff⟩, /- DAY -/
  ⟨0x114, 1, 0x4, 0, 0, 0, 0, false, 0, 0xffffffff, 0xffffffff⟩, /- MON -/
  ⟨0x118, 1, 0x4, 0, 0, 0, 0, false, 0, 0xffffffff, 0xffffffff⟩, /- YEAR_LO -/
  ⟨0x11c, 1, 0x4, 0, 0, 0, 0, false, 0, 0xffffffff, 0xffffffff⟩, /- YEAR_HI -/
  ⟨0x120, 1, 0x4, 0, 0, 0, 0, false, 0, 0xffffffff, 0xffffffff⟩, /- SUB -/
  ⟨0x140, 1, 0x4, 0xff, 0, 0, 0, false, 0, 0, 0⟩, /- STG_SEC -/
  ⟨0x144, 1, 0x4, 0xff, 0, 0, 0, false, 0, 0, 0⟩, /- STG_MIN -/
  ⟨0x148, 1, 0x4, 0xff, 0, 0, 0, false, 0, 0, 0⟩, /- STG_HOUR -/
  ⟨0x14c, 1, 0x4, 0xff, 0, 0, 0, false, 0, 0, 0⟩, /- STG_DAY -/
  ⟨0x150, 1, 0x4, 0xff, 0, 0, 0, false, 0, 0, 0⟩, /- STG_MON -/
  ⟨0x154, 1, 0x4, 0xff, 0, 0, 0, false, 0, 0, 0⟩, /- STG_YEAR_LO -/
  ⟨0x158, 1, 0x4, 0xff, 0, 0, 0, false, 0, 0, 0⟩, /- STG_YEAR_HI -/
  ⟨0x160, 1, 0x4, 0, 0, 0, 0, true, 0, 0, 0⟩, /- CMD -/
  ⟨0x164, 1, 0x4, 0, 0, 0xf0, 0, false, 0, 0xf9, 0xf9⟩, /- STAT -/
  ⟨0x168, 1, 0x4, 0xffffff, 0, 0, 0, false, 0, 0xffffffff, 0xffffffff⟩, /- CD_LOAD -/
  ⟨0x16c, 1, 0x4, 0xf, 0, 0, 0, false, 0, 0xffffffff, 0xffffffff⟩, /- CD_CTL -/
  ⟨0x170, 1, 0x4, 0, 0, 0, 0, false, 0, 0xffffffff, 0xffffffff⟩ /- CD_VAL -/
  ]

/-- PTP: R433 of 14_time.md. -/
def rowsPTP : List RegRow := [
  ⟨0x100, 1, 0x4, 0, 0, 0, 0, false, 0, 0, 0⟩, /- NOW_LO -/
  ⟨0x104, 1, 0x4, 0, 0, 0, 0, false, 0, 0, 0⟩, /- NOW_HI -/
  ⟨0x108, 1, 0x4, 0x13, 0, 0, 0, false, 0, 0, 0⟩, /- ACT -/
  ⟨0x10c, 1, 0x4, 0xffffff, 0, 0, 0, false, 0x2710, 0, 0⟩, /- STEP_LIMIT -/
  ⟨0x110, 1, 0x4, 0, 0, 0, 0, true, 0, 0, 0⟩, /- STEP_CMD_LO -/
  ⟨0x114, 1, 0x4, 0, 0, 0, 0, true, 0, 0, 0⟩, /- STEP_CMD_HI -/
  ⟨0x118, 1, 0x4, 0, 0, 0, 0, false, 0, 0, 0⟩, /- STEP_AT_LO -/
  ⟨0x11c, 1, 0x4, 0, 0, 0, 0, false, 0, 0, 0⟩, /- STEP_AT_HI -/
  ⟨0x120, 1, 0x4, 0, 0, 0, 0, false, 0, 0, 0⟩, /- STEP_NS_LO -/
  ⟨0x124, 1, 0x4, 0, 0, 0, 0, false, 0, 0, 0⟩, /- STEP_NS_HI -/
  ⟨0x128, 1, 0x4, 0, 0, 0, 0, false, 0, 0xffffffff, 0⟩, /- STEP_COUNT -/
  ⟨0x12c, 1, 0x4, 0x7ff, 0, 0, 0, false, 0x25, 0x7ff, 0⟩, /- UTC -/
  ⟨0x130, 1, 0x4, 0, 0, 0, 0, false, 0, 0, 0⟩, /- PPS_IN_LO -/
  ⟨0x134, 1, 0x4, 0, 0, 0, 0, false, 0, 0, 0⟩, /- PPS_IN_HI -/
  ⟨0x138, 1, 0x4, 0, 0, 0, 0, false, 0, 0, 0⟩, /- PPS_IN_COUNT -/
  ⟨0x140, 2, 0x40, 0x11fff, 0, 0, 0, false, 0, 0, 0⟩, /- DCFG -/
  ⟨0x144, 2, 0x40, 0, 0, 0, 0, false, 0, 0, 0⟩, /- DSTAT -/
  ⟨0x148, 2, 0x40, 0, 0, 0, 0, true, 0, 0, 0⟩, /- MT_LO -/
  ⟨0x14c, 2, 0x40, 0, 0, 0, 0, true, 0, 0, 0⟩, /- MT_HI -/
  ⟨0x150, 2, 0x40, 0, 0, 0, 0, true, 0, 0, 0⟩, /- MO_LO -/
  ⟨0x154, 2, 0x40, 0, 0, 0, 0, true, 0, 0, 0⟩, /- MO_HI -/
  ⟨0x158, 2, 0x40, 0, 0, 0, 0, false, 0, 0, 0⟩, /- OFF_LO -/
  ⟨0x15c, 2, 0x40, 0, 0, 0, 0, false, 0, 0, 0⟩, /- OFF_HI -/
  ⟨0x160, 2, 0x40, 0, 0, 0, 0, false, 0, 0, 0⟩, /- FREQ -/
  ⟨0x164, 2, 0x40, 0xffffffff, 0, 0, 0, false, 0x3e8, 0, 0⟩, /- LOCK_NS -/
  ⟨0x168, 2, 0x40, 0xff, 0, 0, 0, false, 0x8, 0, 0⟩, /- HOLD_S -/
  ⟨0x1c0, 4, 0x4, 0xffffffff, 0, 0, 0, false, 0, 0, 0⟩, /- PORT_ADJ -/
  ⟨0x1e0, 8, 0x4, 0, 0, 0xffffffff, 0, false, 0, 0, 0⟩, /- SCHED_PEND -/
  ⟨0x800, 1, 0x4, 0x3fffff, 0, 0, 0, false, 0x310242, 0, 0⟩ /- SERVO -/
  ]

/-- SW: R458 of 15_network_services.md. -/
def rowsSW : List RegRow := [
  ⟨0x100, 1, 0x4, 0x3, 0, 0, 0, false, 0, 0, 0⟩, /- MODE -/
  ⟨0x104, 1, 0x4, 0xff, 0, 0, 0, false, 0, 0, 0⟩, /- PORT_STATE -/
  ⟨0x108, 1, 0x4, 0xffff, 0, 0, 0, false, 0x12c, 0, 0⟩, /- AGE -/
  ⟨0x10c, 1, 0x4, 0, 0, 0, 0, false, 0, 0, 0⟩, /- FDB_CNT -/
  ⟨0x110, 1, 0x4, 0, 0, 0, 0, true, 0, 0, 0⟩, /- FDB_FLUSH -/
  ⟨0x114, 1, 0x4, 0xffff, 0, 0, 0, false, 0, 0, 0⟩, /- STORM -/
  ⟨0x118, 1, 0x4, 0, 0, 0, 0xffffffff, false, 0, 0, 0⟩, /- HSR_DUP -/
  ⟨0x11c, 1, 0x4, 0, 0, 0, 0xffffffff, false, 0, 0, 0⟩, /- HSR_UNIQ0 -/
  ⟨0x120, 1, 0x4, 0, 0, 0, 0xffffffff, false, 0, 0, 0⟩, /- HSR_UNIQ1 -/
  ⟨0x124, 1, 0x4, 0, 0, 0, 0xffffffff, false, 0, 0, 0⟩, /- DROP -/
  ⟨0x128, 1, 0x4, 0xfff, 0, 0, 0, false, 0x1, 0, 0⟩, /- VLAN_SEL -/
  ⟨0x12c, 1, 0x4, 0x1f1f, 0, 0, 0, false, 0x1f1f, 0, 0⟩, /- VLAN_DATA -/
  ⟨0x130, 1, 0x4, 0, 0, 0, 0, false, 0, 0xffffffff, 0xffffffff⟩, /- MAC_BASE_LO -/
  ⟨0x134, 1, 0x4, 0, 0, 0, 0, false, 0, 0xffffffff, 0xffffffff⟩, /- MAC_BASE_HI -/
  ⟨0x138, 5, 0x4, 0xefff, 0, 0, 0, false, 0x1, 0, 0⟩ /- PVID -/
  ]

/-- MAC: R459 of 15_network_services.md. -/
def rowsMAC : List RegRow := [
  ⟨0x100, 1, 0x4, 0x13, 0, 0, 0, false, 0x10, 0, 0⟩, /- MODE -/
  ⟨0x104, 1, 0x4, 0, 0, 0, 0, false, 0, 0, 0⟩, /- RX_FRAMES -/
  ⟨0x108, 1, 0x4, 0, 0, 0, 0xffffffff, false, 0, 0, 0⟩, /- RX_ERR -/
  ⟨0x10c, 1, 0x4, 0, 0, 0, 0, false, 0, 0, 0⟩, /- TX_FRAMES -/
  ⟨0x110, 1, 0x4, 0, 0, 0, 0xffffffff, false, 0, 0, 0⟩, /- TX_LATE -/
  ⟨0x114, 1, 0x4, 0, 0, 0, 0xffffffff, false, 0, 0, 0⟩, /- TX_DROP_LATE -/
  ⟨0x118, 1, 0x4, 0xffff, 0, 0, 0, false, 0x64, 0, 0⟩, /- LQ_CFG -/
  ⟨0x11c, 1, 0x4, 0, 0, 0, 0, false, 0, 0, 0⟩ /- LQ_FILL -/
  ]

/-- MAC4: R460 of 15_network_services.md. -/
def rowsMAC4 : List RegRow := [
  ⟨0x100, 1, 0x4, 0xffffffff, 0, 0, 0, false, 0, 0, 0⟩, /- RX_BASE_LO -/
  ⟨0x104, 1, 0x4, 0xffffffff, 0, 0, 0, false, 0, 0, 0⟩, /- RX_BASE_HI -/
  ⟨0x108, 1, 0x4, 0x1ffff, 0, 0, 0, false, 0x400, 0, 0⟩, /- RX_SIZE -/
  ⟨0x10c, 1, 0x4, 0, 0, 0, 0, false, 0, 0, 0⟩, /- RX_WR -/
  ⟨0x110, 1, 0x4, 0x1ffff, 0, 0, 0, false, 0, 0, 0⟩, /- RX_RD -/
  ⟨0x114, 1, 0x4, 0xffffffff, 0, 0, 0, false, 0, 0, 0⟩, /- TX_BASE_LO -/
  ⟨0x118, 1, 0x4, 0xffffffff, 0, 0, 0, false, 0, 0, 0⟩, /- TX_BASE_HI -/
  ⟨0x11c, 1, 0x4, 0x1ffff, 0, 0, 0, false, 0x400, 0, 0⟩, /- TX_SIZE -/
  ⟨0x120, 1, 0x4, 0x1ffff, 0, 0, 0, false, 0, 0, 0⟩, /- TX_WR -/
  ⟨0x124, 1, 0x4, 0, 0, 0, 0, false, 0, 0, 0⟩, /- TX_RD -/
  ⟨0x128, 1, 0x4, 0x1ffff, 0, 0, 0, false, 0x1, 0, 0⟩, /- RX_WM -/
  ⟨0x12c, 1, 0x4, 0, 0, 0, 0xffffffff, false, 0, 0, 0⟩ /- RX_OVF -/
  ]

/-- CMPT: R476 of 16_tenant_compartments.md. -/
def rowsCMPT : List RegRow := [
  ⟨0x100, 1, 0x4, 0, 0xffff013f, 0, 0, false, 0, 0, 0⟩, /- CUR2 -/
  ⟨0x104, 1, 0x4, 0, 0xffff013f, 0, 0, false, 0, 0, 0⟩, /- CUR3 -/
  ⟨0x108, 1, 0x4, 0, 0xffffffff, 0, 0, false, 0, 0, 0⟩, /- ENTRY2_LO -/
  ⟨0x10c, 1, 0x4, 0, 0xffffffff, 0, 0, false, 0, 0, 0⟩, /- ENTRY2_HI -/
  ⟨0x110, 1, 0x4, 0, 0xffffffff, 0, 0, false, 0, 0, 0⟩, /- ENTRY3_LO -/
  ⟨0x114, 1, 0x4, 0, 0xffffffff, 0, 0, false, 0, 0, 0⟩, /- ENTRY3_HI -/
  ⟨0x118, 1, 0x4, 0, 0, 0, 0, false, 0, 0, 0⟩, /- SWITCHES -/
  ⟨0x11c, 1, 0x4, 0, 0, 0, 0xffffffff, false, 0, 0, 0⟩, /- DENY_COUNT -/
  ⟨0x120, 1, 0x4, 0, 0, 0, 0, false, 0, 0, 0⟩, /- DENY_ADDR_LO -/
  ⟨0x124, 1, 0x4, 0, 0, 0, 0, false, 0, 0, 0⟩, /- DENY_ADDR_HI -/
  ⟨0x128, 1, 0x4, 0, 0, 0xc0000000, 0, false, 0, 0, 0⟩, /- DENY_INFO -/
  ⟨0x12c, 1, 0x4, 0x7ffff, 0, 0, 0, false, 0, 0, 0⟩, /- OWN_SEL -/
  ⟨0x130, 1, 0x4, 0, 0x3f, 0, 0, false, 0, 0, 0⟩ /- OWN_DATA -/
  ]

/-- BEL: R499 of 17_redundancy.md. -/
def rowsBEL : List RegRow := [
  ⟨0x100, 1, 0x4, 0, 0, 0, 0, false, 0, 0, 0⟩, /- ROLE -/
  ⟨0x104, 1, 0x4, 0, 0, 0, 0, false, 0, 0, 0⟩, /- LANE -/
  ⟨0x108, 1, 0x4, 0, 0, 0, 0xffffffff, false, 0, 0, 0⟩, /- LANE_ERR -/
  ⟨0x10c, 1, 0x4, 0, 0, 0, 0, true, 0, 0, 0⟩, /- CMD -/
  ⟨0x110, 1, 0x4, 0xff, 0, 0, 0, false, 0x18, 0xff, 0⟩, /- SWAP_CFG -/
  ⟨0x114, 1, 0x4, 0xffff, 0, 0, 0, false, 0, 0, 0⟩, /- ALIVE_CFG -/
  ⟨0x118, 1, 0x4, 0, 0, 0, 0, true, 0, 0, 0⟩, /- ALIVE -/
  ⟨0x11c, 1, 0x4, 0xff, 0, 0, 0, false, 0xa, 0, 0⟩, /- CKPT_CFG -/
  ⟨0x120, 1, 0x4, 0, 0, 0, 0xffffffff, false, 0, 0, 0⟩, /- COPY_PEAK -/
  ⟨0x124, 1, 0x4, 0, 0, 0, 0xffffffff, false, 0, 0, 0⟩, /- HB_MISS -/
  ⟨0x128, 1, 0x4, 0, 0, 0, 0, false, 0, 0, 0⟩, /- LINK_DLY -/
  ⟨0x12c, 1, 0x4, 0, 0, 0, 0, false, 0, 0, 0⟩, /- LAST_HO_LO -/
  ⟨0x130, 1, 0x4, 0, 0, 0, 0, false, 0, 0, 0⟩, /- LAST_HO_HI -/
  ⟨0x134, 1, 0x4, 0, 0, 0, 0, false, 0, 0xffffffff, 0⟩, /- HO_COUNT -/
  ⟨0x138, 1, 0x4, 0, 0, 0, 0, false, 0xffffffff, 0, 0⟩, /- NEXT_SWAP_LO -/
  ⟨0x13c, 1, 0x4, 0, 0, 0, 0, false, 0xffffffff, 0, 0⟩, /- NEXT_SWAP_HI -/
  ⟨0x140, 1, 0x4, 0, 0, 0, 0, false, 0, 0, 0⟩ /- RESYNC_LEFT -/
  ]

/-- CAIRN: R519 of 18_cairn_event_recorder.md. -/
def rowsCAIRN : List RegRow := [
  ⟨0x100, 1, 0x4, 0, 0, 0, 0, true, 0, 0, 0⟩, /- CMD -/
  ⟨0x104, 1, 0x4, 0xffffffff, 0, 0, 0, false, 0xffffffff, 0, 0⟩, /- CLEAR_TO_LO -/
  ⟨0x108, 1, 0x4, 0xffffffff, 0, 0, 0, false, 0xffffffff, 0, 0⟩, /- CLEAR_TO_HI -/
  ⟨0x10c, 1, 0x4, 0, 0, 0, 0, false, 0, 0, 0⟩, /- HELD -/
  ⟨0x110, 1, 0x4, 0, 0, 0, 0, false, 0, 0, 0⟩, /- NEXT_NUM_LO -/
  ⟨0x114, 1, 0x4, 0, 0, 0, 0, false, 0, 0, 0⟩, /- NEXT_NUM_HI -/
  ⟨0x118, 1, 0x4, 0, 0, 0, 0xffffffff, false, 0, 0xffffffff, 0xffffffff⟩, /- DROP_FULL -/
  ⟨0x11c, 1, 0x4, 0, 0, 0, 0xffffffff, false, 0, 0xffffffff, 0xffffffff⟩, /- DROP_BUSY -/
  ⟨0x120, 1, 0x4, 0, 0, 0, 0xffffffff, false, 0, 0xffffffff, 0xffffffff⟩, /- OVERWRITTEN -/
  ⟨0x124, 1, 0x4, 0, 0, 0, 0, false, 0, 0, 0⟩, /- DROP_TS_LO -/
  ⟨0x128, 1, 0x4, 0, 0, 0, 0, false, 0, 0, 0⟩, /- DROP_TS_HI -/
  ⟨0x12c, 1, 0x4, 0, 0, 0, 0, false, 0, 0, 0⟩, /- DROP_INFO -/
  ⟨0x130, 1, 0x4, 0x7ffff, 0, 0, 0, false, 0x6e666, 0xffffffff, 0⟩, /- CFG -/
  ⟨0x134, 1, 0x4, 0xffff, 0, 0, 0, false, 0x384, 0xffffffff, 0⟩ /- SUM_CFG -/
  ]

/-- ANC: R560 of 19_update_trust.md. -/
def rowsANC : List RegRow := [
  ⟨0x100, 4, 0x20, 0xff, 0, 0, 0, false, 0, 0, 0⟩, /- REQ -/
  ⟨0x104, 4, 0x20, 0xffffffff, 0, 0, 0, false, 0, 0, 0⟩, /- ARG_0 -/
  ⟨0x108, 4, 0x20, 0xffffffff, 0, 0, 0, false, 0, 0, 0⟩, /- ARG_1 -/
  ⟨0x10c, 4, 0x20, 0xffffffff, 0, 0, 0, false, 0, 0, 0⟩, /- ARG_2 -/
  ⟨0x110, 4, 0x20, 0xffffffff, 0, 0, 0, false, 0, 0, 0⟩, /- ARG_3 -/
  ⟨0x114, 4, 0x20, 0, 0, 0, 0, true, 0, 0, 0⟩, /- GO -/
  ⟨0x118, 4, 0x20, 0, 0, 0, 0, false, 0, 0, 0⟩, /- RSP -/
  ⟨0x11c, 4, 0x20, 0, 0, 0, 0, false, 0, 0, 0⟩, /- RSP_1 -/
  ⟨0x184, 1, 0x4, 0, 0, 0, 0, false, 0, 0xffffffff, 0xffffffff⟩, /- FW_VER -/
  ⟨0x188, 1, 0x4, 0, 0, 0, 0, false, 0, 0xffffffff, 0xffffffff⟩, /- SEC -/
  ⟨0x18c, 1, 0x4, 0, 0, 0, 0, false, 0, 0xffffffff, 0xffffffff⟩, /- SERIAL_LO -/
  ⟨0x190, 1, 0x4, 0, 0, 0, 0, false, 0, 0xffffffff, 0xffffffff⟩, /- SERIAL_HI -/
  ⟨0x194, 1, 0x4, 0, 0, 0, 0, false, 0, 0, 0⟩, /- CHAL_LO -/
  ⟨0x198, 1, 0x4, 0, 0, 0, 0, false, 0, 0, 0⟩, /- CHAL_HI -/
  ⟨0x19c, 1, 0x4, 0, 0, 0, 0, false, 0, 0xffffffff, 0xffffffff⟩, /- BUILD_LO -/
  ⟨0x1a0, 1, 0x4, 0, 0, 0, 0, false, 0, 0xffffffff, 0xffffffff⟩, /- BUILD_HI -/
  ⟨0x1a4, 1, 0x4, 0, 0, 0, 0, false, 0, 0xffffffff, 0xffffffff⟩ /- BOOTREC -/
  ]

/-- UPD: R562 of 19_update_trust.md. -/
def rowsUPD : List RegRow := [
  ⟨0x100, 1, 0x4, 0, 0, 0, 0, true, 0, 0, 0⟩, /- SUBMIT -/
  ⟨0x104, 1, 0x4, 0, 0, 0, 0, false, 0, 0, 0⟩, /- SLOT_STAT -/
  ⟨0x108, 1, 0x4, 0, 0, 0, 0, false, 0, 0, 0⟩, /- SLOT_ERR -/
  ⟨0x10c, 1, 0x4, 0, 0, 0, 0, false, 0, 0, 0⟩, /- RX_BLOCKS -/
  ⟨0x110, 1, 0x4, 0, 0, 0, 0xffffffff, false, 0, 0, 0⟩, /- RX_REPEAT -/
  ⟨0x114, 1, 0x4, 0, 0, 0, 0xffffffff, false, 0, 0, 0⟩, /- CRC_ERR -/
  ⟨0x118, 1, 0x4, 0, 0, 0, 0, false, 0, 0, 0⟩, /- ID -/
  ⟨0x11c, 1, 0x4, 0, 0, 0, 0, false, 0, 0, 0⟩, /- STAGE -/
  ⟨0x120, 1, 0x4, 0, 0, 0, 0, false, 0, 0, 0⟩, /- REASON -/
  ⟨0x124, 1, 0x4, 0, 0, 0, 0, false, 0, 0, 0⟩ /- LENGTH -/
  ]

/-- The rows of page `p` beyond the common header (R104). -/
def pageRows (p : Nat) : List RegRow :=
  if p = 0 then rowsSYS else
  if p = 1 then rowsCLK else
  if p = 2 then rowsRST else
  if p = 3 then rowsINTC else
  if p = 4 then rowsANC else
  if p = 5 then rowsTSENS else
  if p = 6 then rowsPFW else
  if p = 7 then rowsRTC else
  if 8 ≤ p ∧ p < 16 then rowsECC else
  if 16 ≤ p ∧ p < 20 then rowsCAN else
  if p = 20 then rowsFNET else
  if p = 21 then rowsIOS else
  if p = 22 then rowsTASK else
  if p = 23 then rowsLOOP else
  if p = 24 then rowsTUNE else
  if p = 25 then rowsLIO else
  if p = 26 then rowsMTR else
  if p = 27 then rowsNRG else
  if p = 28 then rowsPTP else
  if p = 29 then rowsSW else
  if 30 ≤ p ∧ p < 34 then rowsMAC else
  if p = 34 then rowsMAC4 else
  if p = 35 then rowsBEL else
  if p = 36 then rowsCAIRN else
  if p = 37 then rowsUPD else
  if p = 38 then rowsCMPT else
  []

end Sys2Proof.Machine
end

