-- ==== Sys2Proof/Machine/Tab.lean ====
section
/-! DEFINITION. Sparse tables: lists of key and value pairs in one canonical form, keys strictly rising and no entry equal to what
an unlisted key reads as. Memory, the register file and the tables of the blocks are all held in this form. -/
namespace Sys2Proof.Machine

abbrev Tab (α : Type) := List (Nat × α)

variable {α : Type}

/-- The entry of key `k`, if one is listed. -/
def tabFind : Tab α → Nat → Option α
  | [], _ => none
  | (j, v) :: t, k => if j = k then some v else tabFind t k

/-- What key `k` reads as, where an unlisted key reads as `d k`. -/
def tabGet (d : Nat → α) (t : Tab α) (k : Nat) : α := (tabFind t k).getD (d k)

/-- Remove key `k`. -/
def tabDel (t : Tab α) (k : Nat) : Tab α := t.filter (fun e => e.1 != k)

/-- Insert before the first larger key. -/
def tabIns (k : Nat) (v : α) : Tab α → Tab α
  | [] => [(k, v)]
  | e :: t => if k < e.1 then (k, v) :: e :: t else e :: tabIns k v t

/-- List `v` at key `k`, in place of any entry there. -/
def tabPut (t : Tab α) (k : Nat) (v : α) : Tab α := tabIns k v (tabDel t k)

/-- Store `v` at key `k`, keeping no entry equal to the default. -/
def tabSet [DecidableEq α] (d : Nat → α) (t : Tab α) (k : Nat) (v : α) : Tab α :=
  if v = d k then tabDel t k else tabPut t k v

/-- Keep the entries whose key satisfies `p`. -/
def tabKeep (p : Nat → Bool) (t : Tab α) : Tab α := t.filter (fun e => p e.1)

/-- Keys strictly rising. -/
def tabSorted : Tab α → Bool
  | [] => true
  | [_] => true
  | a :: b :: t => decide (a.1 < b.1) && tabSorted (b :: t)

/-- The canonical form. -/
def tabWf [DecidableEq α] (d : Nat → α) (t : Tab α) : Bool :=
  tabSorted t && t.all (fun e => decide (e.2 ≠ d e.1))

end Sys2Proof.Machine
end

