-- ==== Sys2Proof/Machine/RegFile.lean ====
section
/-! DEFINITION. What a register reads as after reset, and which of its bits a write changes: the page index of R104 and the rows of RegTable. -/
namespace Sys2Proof.Machine

/-- TYPE of page `p` (R104). -/
def pageType (p : Nat) : Nat :=
  if p < 8 then p + 1
  else if p < 16 then 0x10
  else if p < 20 then 0x20
  else if p = 20 then 0x21 else if p = 21 then 0x22
  else if p = 22 then 0x30 else if p = 23 then 0x31 else if p = 24 then 0x32 else if p = 25 then 0x33
  else if p = 26 then 0x40 else if p = 27 then 0x41
  else if p = 28 then 0x50
  else if p = 29 then 0x60
  else if p < 35 then 0x61
  else if p = 35 then 0x70 else if p = 36 then 0x80 else if p = 37 then 0x90 else if p = 38 then 0xA0 else 0

/-- INST of page `p` (R104). -/
def pageInst (p : Nat) : Nat :=
  if 8 ≤ p ∧ p < 16 then p - 8 else if 16 ≤ p ∧ p < 20 then p - 16 else if 30 ≤ p ∧ p < 35 then p - 30 else 0

/-- ENABLE is 1 and RO on these pages (R104). -/
def pageAlwaysOn (p : Nat) : Bool := decide (p < 16) || p == Pg.PTP || p == Pg.CAIRN || p == Pg.CMPT

/-- Pages whose BLK_OWNER.COMP is fixed at 0 (the chapters of CLK, RST, TASK, RTC, PTP and the others that say so). -/
def pageOwnerFixed (p : Nat) : Bool :=
  [Pg.CLK, Pg.RST, Pg.ANC, Pg.RTC, Pg.FNET, Pg.IOS, Pg.TASK, Pg.LOOP, Pg.TUNE, Pg.LIO, Pg.MTR, Pg.NRG, Pg.PTP, Pg.SW, 30, 31, 32, 33, 34,
    Pg.BEL, Pg.CAIRN, Pg.UPD, Pg.CMPT].contains p

/-- First interrupt source of page `p`, and how many sources it has (R104). -/
def pageSources (p : Nat) : Nat × Nat :=
  if p = 0 then (0, 8) else if p = 1 then (8, 4) else if p = 2 then (12, 4) else if p = 3 then (16, 16) else if p = 4 then (32, 8)
  else if p = 5 then (40, 1) else if p = 6 then (41, 2) else if p = 7 then (43, 5)
  else if p < 16 then (48 + 2 * (p - 8), 2)
  else if p < 20 then (64 + 8 * (p - 16), 8)
  else if p = 20 then (96, 4) else if p = 21 then (100, 16) else if p = 22 then (116, 32) else if p = 23 then (148, 12)
  else if p = 24 then (160, 8) else if p = 25 then (168, 4) else if p = 26 then (172, 12) else if p = 27 then (184, 8)
  else if p = 28 then (192, 8) else if p = 29 then (200, 4)
  else if p < 35 then (204 + 4 * (p - 30), 4)
  else if p = 35 then (224, 12) else if p = 36 then (236, 4) else if p = 37 then (240, 4) else if p = 38 then (244, 4) else (248, 0)

/-- The page whose range holds source `n`, and the event bit of the source. -/
def sourcePage (n : Nat) : Option (Nat × Nat) :=
  (List.range 39).findSome? (fun p => let (a, c) := pageSources p; if a ≤ n ∧ n < a + c then some (p, n - a) else none)

/-- The row of the register at offset `off` of page `p`, and its index in an array. -/
def rowOf (p off : Nat) : Option (RegRow × Nat) :=
  (pageRows p).findSome? (fun r =>
    if r.off ≤ off ∧ off < r.off + r.count * r.stride ∧ (off - r.off) % r.stride = 0 then some (r, (off - r.off) / r.stride) else none)

/-- Sources that leave reset routed to the anchor (R108). -/
def anchorSource (n : Nat) : Bool := decide ((58 ≤ n ∧ n ≤ 59) ∨ (240 ≤ n ∧ n ≤ 247))

/-- BLK_STAT bits that read 1 after reset: CLK.ALL_OK, TASK.IDLE, RTC.RUN. -/
def statReset (p : Nat) : Nat := if p = Pg.CLK then 1 else if p = Pg.TASK then 2 else if p = Pg.RTC then 1 else 0

/-- What the register at key `k` reads as after a cold reset (R89, R104 and the Reset columns). -/
def regReset (k : Nat) : Word :=
  let p := k / 0x1000
  let o := k % 0x1000
  if 39 ≤ p then 0
  else if o = 0 then BitVec.ofNat 32 (pageType p * 0x10000 + pageInst p * 0x100 + 1)
  else if o = 8 then (if pageAlwaysOn p then 1 else 0)
  else if o = 0xC then BitVec.ofNat 32 (statReset p)
  else if p = Pg.INTC ∧ 0x100 ≤ o ∧ o < 0x500 then (if o % 4 = 0 ∧ anchorSource ((o - 0x100) / 4) then 0x177 else 0)
  else if p = 15 ∧ o = 0x800 then 3600
  else if (p = 32 ∨ p = 33) ∧ o = 0x100 then 0x12
  else match rowOf p o with
    | some (r, _) => BitVec.ofNat 32 r.reset
    | none => 0

/-- The bits of the register at key `k` that firmware may write, and a value with only those. -/
def rwMask (k : Nat) : Word := match rowOf (k / 0x1000) (k % 0x1000) with | some (r, _) => BitVec.ofNat 32 r.rw | none => 0
def rwBits (k : Nat) (v : Word) : Word := v &&& rwMask k

/-- CAIRN.BLK_STAT.FULL lies in slot 0 of the log, so that every reset keeps it (R518). -/
def fullKeep (k : Nat) : Word := if k = Pg.CAIRN * 0x1000 + 0xC then 4 else 0

/-- Bits of the register at key `k` that a warm reset keeps (R114). -/
def regWarmKeep (k : Nat) : Word :=
  match rowOf (k / 0x1000) (k % 0x1000) with
  | some (r, _) => BitVec.ofNat 32 r.warmKeep
  | none => fullKeep k

/-- Bits of the register at key `k` that a cold reset keeps (R114, R121, R431, R503). -/
def regColdKeep (k : Nat) : Word :=
  match rowOf (k / 0x1000) (k % 0x1000) with
  | some (r, _) => BitVec.ofNat 32 r.coldKeep
  | none => fullKeep k

end Sys2Proof.Machine
end

