-- ==== Sys2Proof/Config.lean ====
section
/-! DEFINITION. What the spec leaves open or names without defining: every constant here is opaque, without a body, so that no proof can see a value of it. -/
namespace Sys2Proof

/-- The class number, inside its block's range (R501), of the record that a block writes for event bit `bit` of page `page`:
the spec gives the ranges of the classes and no number inside them. Log entry 6. -/
opaque Config.recordClass : (page bit : Nat) → Nat
/-- The severity of a record whose severity no rule states (R502: the source gives it). Log entry 6. -/
opaque Config.recordSeverity : (page bit : Nat) → Nat
/-- What the error-correcting code makes of a word with three or more flipped bits (R130 names a SECDED code and not the code):
0 it reads as valid, 1 it is taken for a single error of another bit, 2 it is uncorrectable. Log entry 7. -/
opaque Config.eccManyBits : BitVec 72 → Nat
/-- The bit that the code wrongly takes for the single error of such a word. Log entry 7. -/
opaque Config.eccWrongBit : BitVec 72 → Nat
/-- SHAKE256 with a 32-byte result (named in 19, not defined there). Log entry 8. -/
opaque Config.shake256 : List Byte → BitVec 256
/-- A signature made with the device key. Log entry 8. -/
opaque Config.deviceSignature : (seed : BitVec 768) → (message : List Byte) → List Byte
/-- The 64-byte device public key (R553). Log entry 8. -/
opaque Config.devicePublicKey : (seed : BitVec 768) → List Byte
/-- A value that the spec leaves open, fresh at each draw. Log entry 9. -/
opaque Config.freeValue : Nat → BitVec 64

/-- The taps of the metering FIR before the centre one, in units of 2^−24: R350 gives their count, their symmetry and the response, and no coefficient.
Log entry 60. -/
opaque Config.firTap : Nat → Int
/-- The coefficient of the 0.1 Hz low-pass of R354 in units of 2^−32. Log entry 60. -/
opaque Config.dcGain : Int
/-- Taps 0 to 6 of the phase interpolator for delay `d` (R354), in units of 2^−24. Log entry 60. -/
opaque Config.interpTap : (d : Int) → Nat → Int
/-- Cosine and sine of 2π·a/b in units of 2^−30, as the front end rounds them (R367, R369). Log entry 60. -/
opaque Config.trig : (a b : Nat) → Int × Int

/-- The bin of a point summary in which an F32 value that is not a number counts. Log entry 11. -/
opaque Config.nanBin : Word → Nat

end Sys2Proof
end

