-- ==== Sys2Proof/Machine/Types.lean ====
section
/-! DEFINITION. The parts of the machine's state, block by block. Every part is plain data. -/
namespace Sys2Proof.Machine

/-- What the latest access or read returned to its requester. -/
inductive Resp where
  /-- nothing was read or refused -/
  | none
  /-- the access completed; a load returns these bits -/
  | data (v : Word64)
  /-- the access completed; the bytes that a debug or console answer returns -/
  | bytes (b : List Byte)
  | loadFault
  | storeFault
  | fetchFault
  /-- the address-misaligned exception of R563 -/
  | misaligned
  /-- the requester's access was ignored -/
  | ignored
deriving DecidableEq, Repr

/-! ### Pins, supply and reset (02, 04) -/

/-- Where VIN stands (R67). -/
inductive Vin where
  | low | inRange | high
deriving DecidableEq, Repr

/-- Output pins hold their level; input pins are held as asserted or not (R15, R45, R47). -/
structure Pins where
  ready : Bool := false
  forceActN : Bool := true
  sysFaultN : Bool := true
  sleepN : Bool := true
  /-- monotonic time, in ns, at which PPS_OUT rose last; it stays high for 100 µs (R48) -/
  ppsRise : Option Nat := none
  resetAsserted : Bool := false
  pfwAsserted : Bool := false
  /-- BEL_SIDE tied to GND: side B (R49) -/
  sideB : Bool := false
  /-- CANn_STB_n of channel n (R58) -/
  canStbN : Vector Bool 4 := Vector.replicate 4 false
  /-- CANn_TXD is held high; false while the controller drives a frame of its own -/
  canTxd : Vector Bool 4 := Vector.replicate 4 true
  /-- SFPn_TXDIS of cage n -/
  sfpTxdis : Vector Bool 2 := Vector.replicate 2 true
  /-- the PHY of P2 and of P3 is powered (R47) -/
  phyOn : Vector Bool 2 := Vector.replicate 2 false
deriving DecidableEq, Repr

/-- Causes that hold the module in cold reset (R67, R564); CLOCK_LOSS follows `Supply.lostClk`. -/
structure Holds where
  vinLow : Bool := false
  overV : Bool := false
  resetPin : Bool := false
  thermal : Bool := false
deriving DecidableEq, Repr

structure Supply where
  vin : Vin := .inRange
  /-- VBAT is at or above 2.0 V (R69) -/
  vbatOk : Bool := true
  /-- the always-on domain is supplied from VIN (R69) -/
  aonFromVin : Bool := true
  holds : Holds := {}
  /-- clocks that the supervisor's monitor finds lost, in reset as well; indexed by the clock domain of the CLK page (R41, R42, R564) -/
  lostClk : Vector Bool 11 := Vector.replicate 11 false
  /-- PLLs whose lock detector reports no lock, in reset as well (R42, R71) -/
  pllOpen : Vector Bool 7 := Vector.replicate 7 false
  /-- the module is held in cold reset -/
  inReset : Bool := false
  /-- the module is asleep (R171) -/
  asleep : Bool := false
  /-- sleep has ended and READY has not risen yet: it waits for the waking channel to be open, or, after a wake by the countdown timer, for every enabled
  channel (R73, R170) -/
  waking : Option (Option Nat) := none
  /-- monotonic time, in ns, of the latest accepted PPS_IN edge -/
  ppsInMono : Option Nat := none
  /-- TSENS.INT_RAW.WARN may be set again (R84) -/
  tempArmed : Bool := true
deriving DecidableEq, Repr

/-- A reset requested and not yet taken (R122, R126). -/
structure PendReset where
  warm : Bool
  /-- the reset carries a lifecycle change -/
  lifecycle : Bool
  /-- CK_FAB cycle, counted from the latest reset, at which the save begins -/
  saveAt : Nat
  saving : Bool
deriving DecidableEq, Repr

/-- What the anchor tells on the diagnostic console (R120, R140). -/
inductive Report where
  /-- the checker of ECC instance `n` failed its self-test -/
  | eccFail (n : Nat)
  /-- an answer to a frame of the recovery protocol (R554) -/
  | answer (bytes : List Byte)
deriving DecidableEq, Repr

/-- The start-up of R116. The step completed last is RST.BOOT_STAT.STAGE. -/
structure Boot where
  sramWiping : Bool := true
  dramWiping : Bool := true
  /-- ECC instances whose self-test of this start-up is complete (R139) -/
  tested : List Nat := []
  /-- AC0 and AC1, and AC2 and AC3, have been released (R116, step 7) -/
  rtRun : Bool := false
  svcRun : Bool := false
  /-- the recovery state of R119 -/
  recovery : Bool := false
  pend : Option PendReset := none
  /-- where AC0 to AC3 started last (R116, R263, R469) -/
  entry : Vector Nat 4 := Vector.replicate 4 0
deriving DecidableEq, Repr

/-- One ECC instance beside its page (R135 to R138). -/
structure EccX where
  armed : Bool := true
  /-- leaks of the bucket so far, and scrubbing -/
  leaks : Nat := 0
  scrubPos : Nat := 0
  /-- CK_FAB cycle at which the scrub pass began -/
  passStart : Nat := 0
deriving DecidableEq, Repr

/-! ### The I/O image, tasks, forces and online change (07, 08) -/

/-- The one source of a point (R25). -/
inductive PSrc where
  | none
  | station (ch addr : Nat)
  | lio
  | task (t : Nat)
  | loop (k : Nat)
  | metering
deriving DecidableEq, Repr

/-- A point: its configuration, its stored word (R224, R225), and what a released force leaves (R273). -/
structure Point where
  src : PSrc := .none
  /-- TYPE code of R259 -/
  ptype : Nat := 4
  isOut : Bool := false
  /-- the LOG flag, LO and HI of R515 -/
  log : Bool := false
  lo : Int := 0
  hi : Int := 1
  value : Word := 0
  q : Nat := 2
  skew : Bool := false
  latchMiss : Bool := false
  init : Bool := false
  /-- monotonic time of the value, ns -/
  inst : Nat := 0
  /-- a source has written the point, or it is an output with its start value -/
  written : Bool := false
  aged : Bool := false
  /-- after a release on a task's point: the forced VALUE, Q and the monotonic time of SET_TIME, until the task's next publish -/
  held : Option (Word × Nat × Nat) := none
deriving DecidableEq, Repr

/-- The point word as readers see it, but for its age at the read (R224). -/
structure View where
  value : Word
  q : Nat
  skew : Bool := false
  latchMiss : Bool := false
  forced : Bool := false
  init : Bool := false
  eccErr : Bool := false
  /-- monotonic instant from which AGE counts; none: AGE reads saturated -/
  inst : Option Nat := none
deriving DecidableEq, Repr

/-- STATUS of a force entry (R270). -/
inductive FStatus where
  | free | active | refusedDup | refusedPid | releasedByChange | released
deriving DecidableEq, Repr

/-- An entry of the force table (R270); `setMono` is SET_TIME in monotonic time, from which AGE counts (R272). -/
structure Force where
  word0 : Word64 := 0
  status : FStatus := .free
  setTime : Nat := 0
  relTime : Nat := 0
  setMono : Nat := 0
  /-- what is in force while ACTIVE -/
  pid : Nat := 0
  value : Word := 0
  q : Nat := 0
deriving DecidableEq, Repr

/-- A trigger on its way to TASK (R240, R241). -/
structure Trig where
  kind : Nat
  source : Nat
  detail : Word
  skipped : Bool
  time : Nat
  /-- monotonic time at which it reached TASK -/
  mono : Nat
  /-- the tasks that it releases, judged as it occurred (R242) -/
  tasks : List Nat
deriving DecidableEq, Repr

/-- Task states, coded as TSTATt.STATE (R252). -/
inductive TState where
  | disabled | waiting | latching | released | running | committing
deriving DecidableEq, Repr

/-- One task beside its registers and its area (R227 to R248). -/
structure Task where
  st : TState := .disabled
  /-- words latched at the latch cycle, still to be copied -/
  snap : List Word64 := []
  relTime : Nat := 0
  relMono : Nat := 0
  latchMono : Nat := 0
  latchTime : Nat := 0
  trig : Option Trig := none
  cycle : Nat := 0
  skipped : Nat := 0
  first : Bool := false
  stepped : Bool := false
  backStep : Bool := false
  execPrev : Nat := 0
  /-- the last release instant that was released, in module time (R246) -/
  lastRel : Nat := 0
  /-- the last release instant that has fallen due since the latest backward step -/
  dueAt : Nat := 0
  /-- SKIPPED, FIRST, STEPPED and BACK_STEP of the header of the release under way: a withdrawn release gives them back -/
  relSkipped : Nat := 0
  relFirst : Bool := false
  relStepped : Bool := false
  relBack : Bool := false
  /-- no release before this monotonic time (R248) -/
  notBefore : Nat := 0
  /-- release instants before this monotonic time are counted in SKIPPED (R253, R171) -/
  holdUntil : Nat := 0
  /-- CK_FAB cycle of the release (R221) -/
  relCyc : Nat := 0
  /-- CK_FAB cycles of the latest publish and of the latest EN write of 1 (R249) -/
  pubAt : Option Nat := none
  enAt : Option Nat := none
  /-- output buffer entries marked as written (R232) -/
  written : List Nat := []
  /-- OVR_CNT and CYCLE are cleared at the publish (R248) -/
  clearAtPub : Bool := false
  /-- triggers that a switch in progress has held (R264) -/
  heldTrigs : Nat := 0
  /-- BUDGET of the instance, and whether its warning has been given -/
  budget : Nat := 0
  budgetHit : Bool := false
deriving DecidableEq, Repr

/-- States of an online change (R261). -/
inductive OState where
  | idle | armed | switching | copied
deriving DecidableEq, Repr

structure Ochg where
  /-- tasks installed anew by the switch in progress (R264) -/
  installed : List Nat := []
  /-- the CK_FAB cycle in which TASK tests for a quiescent gap (R262) -/
  testAt : Option Nat := none
  /-- the 64-byte program header of the package armed, the listed bytes of its signature block and of its bank as armed (R550, R551) -/
  header : List Byte := []
  block : List Host.Cell := []
  bank : List Host.Cell := []
  /-- releases and triggers are held: a switch, a handover or an update hold (R263, R489, R541) -/
  held : Bool := false
  st : OState := .idle
  /-- core whose mailbox asked -/
  core : Nat := 0
  changeId : Word := 0
  /-- monotonic time at which the 10 s limit is reached -/
  limit : Nat := 0
  /-- module time of cycle g -/
  gapTime : Nat := 0
  carried : Nat := 0
  trigSkip : Nat := 0
  fRel : Nat := 0
  /-- program bank B is active (R254) -/
  bankB : Bool := false
  /-- force table stores held between g and the end of step 5 (R277): entry and word, oldest first -/
  heldStores : List (Nat × Word64) := []
  /-- the answer of R266 -/
  answer : List Byte := []
  /-- the package of this change id waits for its flash record (R267) -/
  recordDue : Bool := false
deriving DecidableEq, Repr

/-! ### Cairn event recorder (18) -/

/-- A record: the header fields, TIME and the payload of R500. -/
structure Rec where
  num : Nat := 0
  cls : Nat := 0
  sev : Nat := 0
  comp : Nat := 0
  fw : Bool := false
  summary : Bool := false
  test : Bool := false
  time : Nat := 0
  payload : List Byte := []
deriving DecidableEq, Repr

/-- A reader context (R509). -/
structure Ctx where
  win : Option Rec := none
  num : Nat := 0
  cursor : Nat := 0
  /-- RESULT of STAT -/
  result : Nat := 0
  filter : Word64 := 0
  sub : Tab Byte := []
  /-- a search in progress: its OP, the compartment in force at its grant (none: the anchor), and the last record number stored by then -/
  busy : Option (Nat × Option Nat × Nat) := none
deriving DecidableEq, Repr

/-- The summary of one logged point in the interval in progress (R515). -/
structure Summary where
  nEvt : Nat := 0
  nBad : Nat := 0
  min : Word := 0
  max : Word := 0
  tMin : Nat := 0
  tMax : Nat := 0
  bins : Vector Nat 16 := Vector.replicate 16 0
deriving DecidableEq, Repr

structure Cairn where
  /-- slots 1 to 65,535 in the MRAM log -/
  slots : Tab Rec := []
  /-- slots known to hold a record, in record-number order, are the index; it is rebuilt after reset -/
  clearMark : Nat := 0
  nextNum : Nat := 1
  queue : List Rec := []
  /-- the CK_FAB cycle of the latest acceptance and of the latest storage, and the first number of each in that cycle (R511, R517) -/
  accCyc : Nat := 0
  accFrom : Nat := 1
  stoCyc : Nat := 0
  stoFrom : Nat := 1
  /-- drops under R504 since the queue was last empty: count, first and last module time, highest severity -/
  lost : Option (Nat × Nat × Nat × Nat) := none
  /-- a record has been dropped since FULL was last set (R507) -/
  dropSeen : Bool := false
  ctx : Vector Ctx 5 := Vector.replicate 5 {}
  /-- summaries by PID, the opening instant of the interval, its nominal end, and its flags (R515, R516) -/
  sums : Tab Summary := []
  sumOpen : Nat := 0
  sumEnd : Nat := 0
  sumStepped : Bool := false
  sumPartial : Bool := false
deriving DecidableEq, Repr

/-! ### Field buses (05) -/

/-- An attempt on the bus: queue, and module time of its SOF at CANn_TXD. -/
structure TxAtt where
  queue : Nat
  sof : Nat
  /-- the queue's WR at an abort that named this descriptor (R164) -/
  abortTo : Option Nat := none
deriving DecidableEq, Repr

/-- A channel beside its page (R148 to R170). -/
structure CanX where
  /-- entries stored, modulo 256 (SEQ of R153) -/
  seq : Nat := 0
  /-- the run of frames discarded since the latest stored entry: number, and module time of the first (R158) -/
  lost : Option (Nat × Nat) := none
  tx : Option TxAtt := none
  /-- an attempt of the head of Q0, Q1, Q2 has started (R163) -/
  tried : Vector Bool 3 := Vector.replicate 3 false
  /-- MODE.REQ before the SLEEP write (R166), and the state held before the request (R148) -/
  reqBefore : Nat := 0
  stateBefore : Nat := 0
  /-- the mode in effect: MODE.REQ as adopted at the latest bus idle (R149) -/
  mode : Nat := 0
  /-- the mode before it, and the module time of the change: a frame whose SOF came before runs under the mode before (R149) -/
  modeOld : Nat := 0
  modeAt : Nat := 0
  /-- no frame starts before this CK_FAB cycle, after a handover (R151) -/
  notBefore : Nat := 0
  /-- CK_FAB cycle from which the watermark timeout runs (R159) -/
  wmFrom : Nat := 0
  /-- the timeout of the oldest unread entry has been told -/
  wmDone : Bool := false
  /-- result of the checks of BT_NOM and BT_DATA at enable: the expert timing is in use (R147) -/
  btNomOk : Bool := false
  btDataOk : Bool := false
  /-- ENABLE was cleared while a frame of its own was in progress -/
  closing : Bool := false
  /-- module time at which ENABLE was cleared: a frame then being received is completed and stored (R148) -/
  closeAt : Option Nat := none
  /-- the secondary sample point of the last BRS frame sent, in CK_CAN cycles after the bit's start (R146) -/
  ssp : Nat := 0
deriving DecidableEq, Repr

/-! ### MFP, discovery and the I/O scan (06) -/

/-- Station states, coded as STN_STAT.STATE (R216). -/
inductive SState where
  | absent | assigned | configuring | ready | present | lost | rejoining | cfgFail
deriving DecidableEq, Repr

/-- Where the configuration exchange of R204 stands. -/
inductive Exch where
  | none | check | commit | initWait
deriving DecidableEq, Repr

/-- An INIT value kept until the station is PRESENT (R209): record number of the point, value, quality, monotonic instant, SKEW, LATCH_MISS. -/
structure InitVal where
  index : Nat
  value : Nat
  q : Nat
  inst : Nat
  skew : Bool
  miss : Bool
deriving DecidableEq, Repr

/-- A table station (R198 to R212, and staging of 19). -/
structure Stn where
  serial : BitVec 48 := 0
  image : List Byte := []
  pids : List Nat := []
  stdOffset : Nat := 0
  /-- TYPE, CAPS and firmware version of the latest ANNOUNCE (R198) -/
  stype : Nat := 0
  caps : Nat := 0
  fwVer : Nat := 0
  st : SState := .absent
  exch : Exch := .none
  attempts : Nat := 0
  outTries : Nat := 0
  missed : Nat := 0
  lostCount : Nat := 0
  maxOff : Nat := 0
  everPresent : Bool := false
  /-- a HELLO has been received since the configuration was loaded (R206) -/
  greeted : Bool := false
  /-- STD cycles, not yet judged, in which a valid STD_IN was stamped (R209, R214) -/
  seenStd : List Nat := []
  /-- first STD cycle that is judged -/
  stdFrom : Nat := 0
  /-- NONCEs of the HELLOs received (R201) -/
  nonces : List Nat := []
  /-- INIT values kept until PRESENT, and the GROUPs of the INIT_REPORT received -/
  inits : List InitVal := []
  groups : List Nat := []
  /-- records whose point has been written since the channel opened, and FAST inputs written from a SYNC of cycle N_s or later (R207) -/
  got : List Nat := []
  gotFast : List Nat := []
  /-- the frame that the running wait counts from has left, and the monotonic time at which the wait ends -/
  sent : Bool := true
  waitEnd : Nat := 0
  /-- a duplicate serial has been answered: the address stays unused until a new configuration (R201) -/
  unused : Bool := false
deriving DecidableEq, Repr

/-- A frame for Q0: channel, the address it is for (0: none), and the descriptor's words and data. -/
structure Q0Frame where
  ch : Nat
  addr : Nat
  launch : Nat
  word8 : Word
  word12 : Word
  data : List Byte
deriving DecidableEq, Repr

structure OutSlot where
  cls : Nat
  addr : Nat
  group : Nat
  slotUs : Nat
  /-- cycle of the period for which the frame was built last -/
  last : Option Nat := none
deriving DecidableEq, Repr

/-- FNET and IOS beside their pages. -/
structure Mfp where
  stations : Tab Stn := []
  /-- output frames of channel n -/
  outs : Vector (List OutSlot) 4 := Vector.replicate 4 []
  /-- SYNC of cycle N of channel n: T_S in module time, and SKEW (R182, R186) -/
  syncs : Vector (Tab (Nat × Bool)) 4 := Vector.replicate 4 []
  prevSkew : Vector Bool 4 := Vector.replicate 4 false
  /-- next cycle for which SYNC is queued; SYNC is running -/
  nextCycle : Nat := 0
  /-- whole second for which TIME goes next -/
  timeNext : Nat := 0
  /-- monotonic time of the latest DISC_OPEN of channel n; none before the first -/
  discAt : Vector (Option Nat) 4 := Vector.replicate 4 none
  /-- the first SYNC of channel n has started since it opened -/
  synced : Vector Bool 4 := Vector.replicate 4 false
  /-- UNPARK has been sent on channel n since the configuration was loaded (R202) -/
  unparked : Vector Bool 4 := Vector.replicate 4 false
  startCycle : Option Nat := none
  /-- serials for which an event of R201 has been raised -/
  raised : List (Nat × Nat) := []
  parked : Nat := 0
  events : List Word := []
  waiting : List Q0Frame := []
  helloAll : Bool := false
  /-- the configuration has a station table -/
  hasTable : Bool := false
  /-- START_MS has been set in this start-up (R216) -/
  startNoted : Bool := false
  /-- START_TMO has expired while IOS was disabled: steps 1 and 2 of R208 wait for its enable (R218) -/
  tmoDue : Bool := false
  /-- STD cycle being watched: its number N / 50 (R209) -/
  stdCycle : Nat := 0
deriving DecidableEq, Repr

/-! ### The loop engine, local I/O and TUNE (09, 10) -/

/-- A loop slot beside its block (R286 to R323). -/
structure LoopX where
  /-- the sample instant taken and not yet evaluated, in module time; its CK_FAB cycle and monotonic time -/
  due : Option Nat := none
  dueCyc : Nat := 0
  dueMono : Nat := 0
  /-- ns by which module time had passed the instant in its sample cycle -/
  dueLag : Nat := 0
  /-- image words of a fixed-phase slot as latched at the sample cycle, by descriptor: 0 PV, 1 SP, 2 FF -/
  snap : List (Nat × Word64) := []
  /-- the evaluation that comes is the first after a step (R290) -/
  rephased : Bool := false
  /-- a fixed-phase output to be published: its CK_FAB cycle, value and Q -/
  out : Option (Nat × Int × Nat) := none
  /-- the latest instant taken in module time, and its monotonic time -/
  lastInst : Nat := 0
  lastMono : Option Nat := none
  /-- no instant before this monotonic time (R290, R307, R314) -/
  notBefore : Nat := 0
  /-- a step has happened since the latest instant -/
  stepped : Bool := false
  /-- the next evaluation is a first evaluation, or one that reseeds (R320) -/
  first : Bool := false
  reseed : Bool := false
  /-- a held instant has set UPREV since the enable (R321) -/
  heldSeen : Bool := false
  /-- the first evaluation since the enable is complete (R323) -/
  evaluated : Bool := false
  /-- output that the slot wrote to its inner loops last, and Q of its latest publish (R299, R316) -/
  u : Int := 0
  q : Nat := 0
deriving DecidableEq, Repr

/-- LIO beside its page (R301, R568). -/
structure Lio where
  /-- conversions held at the latest hold instant, and whether each was limited -/
  held : List (Int × Bool) := List.replicate 8 (0, false)
  heldAt : Nat := 0
  heldMono : Nat := 0
  /-- CK_FAB cycle at which its results become available -/
  readyAt : Option Nat := none
  /-- monotonic hold instant of the results in AINn -/
  resMono : Nat := 0
  /-- no hold before this monotonic time -/
  notBefore : Nat := 0
deriving DecidableEq, Repr

/-- An injection unit beside its registers (R324 to R327). -/
structure InjX where
  amp : Int := 0
  lfsr : Nat := 0
  phase : Nat := 0
  inc : Nat := 0
  k : Nat := 0
  notBefore : Nat := 0
deriving DecidableEq, Repr

/-- A capture unit beside its registers (R328 to R330). -/
structure CapX where
  /-- published instants of the slot since the start, modulo DECIM -/
  skip : Nat := 0
  notBefore : Nat := 0
  /-- the injection unit of TRIG has accepted a START since the ARM -/
  triggered : Bool := false
deriving DecidableEq, Repr

/-! ### Metering (12, 13) -/

/-- A voltage channel (R361, R363). -/
structure VCh where
  /-- monotonic time of the latest accepted crossing -/
  last : Option Nat := none
  lost : Bool := false
  /-- accepted crossings since the channel was ZC_LOST -/
  sinceBack : Nat := 2
  /-- y has fallen below −H since the latest accepted crossing (R361) -/
  armed : Bool := false
  /-- date and y of the latest sample -/
  prev : Option (Nat × Int) := none
deriving DecidableEq, Repr

/-- A line cycle that has closed and whose record is to be written (R363, R368). -/
structure Closed where
  tStart : Nat
  tEnd : Nat
  /-- monotonic time of the closing instant -/
  mono : Nat
  dur : Nat
  /-- frequency was valid at the closing (R363) -/
  freqOk : Bool
  timed : Bool
  first : Bool
  calChg : Bool
  alt : Bool
  seqErr : Bool
deriving DecidableEq, Repr

/-- Values of a cycle in the window in progress, by phase (R367, R369). -/
structure CycVal where
  n : Nat
  dur : Nat
  mono : Nat
  freqOk : Bool
  flags : Nat
  /-- P, Q and S of the circuit -/
  total : Int × Int × Int
  v : List Int
  i : List Int
  p : List Int
  q : List Int
  s : List Int
  /-- by phase, the calibrated samples of voltage and current with their dates -/
  smp : List (List (Nat × Int) × List (Nat × Int)) := []
deriving DecidableEq, Repr

/-- A record handed on to NRG (R368). -/
structure CycRec where
  circ : Nat
  tEnd : Nat
  dur : Nat
  flags : Nat
  p : Int
  q : Int
deriving DecidableEq, Repr

/-- A circuit of the metering front end (R358 to R371). -/
structure MtrC where
  /-- a crossing has been accepted since the enable or the loss of VALID -/
  crossed : Bool := false
  /-- opening instant of the cycle in progress: module time, monotonic time -/
  openT : Nat := 0
  openMono : Nat := 0
  /-- phase that the circuit crosses on -/
  phase : Nat := 0
  /-- T_h of R363 -/
  lastDur : Nat := 20000000
  calChg : Bool := false
  /-- CK_FAB cycle of the latest commit (R374) -/
  calCyc : Nat := 0
  seq : Nat := 0
  closed : List Closed := []
  win : List CycVal := []
  /-- T_END of the latest record handed on -/
  tLast : Nat := 0
  /-- records written on standby whose T_END lies after that of the last copied record (R373) -/
  kept : List CycRec := []
deriving DecidableEq, Repr

structure Mtr where
  circs : Tab MtrC := []
  vch : Vector VCh 6 := Vector.replicate 6 {}
  /-- for reference A and B: an L1 crossing has come and no L2 or L3 crossing since (R364) -/
  afterL1 : Vector Bool 2 := Vector.replicate 2 false
  /-- CK_FAB cycle of the latest run of identical bits of a channel in MOD_FAULT -/
  faultAt : Tab Nat := []
  /-- CK_FAB cycle of the latest temperature update -/
  tempAt : Nat := 0
  /-- g and d of R354 of each channel from a monotonic time on, newest first, as far back as buffered samples reach (R363) -/
  cals : List (Nat × List (Int × Int)) := []
  /-- (TG, TP) of each channel -/
  corr : List (Int × Int) := List.replicate 24 (0, 0)
  /-- temperatures of the sources 0 to 4 at the latest update, in 1/16 °C -/
  temps : List Int := []
  /-- bytes of the staging copy -/
  stage : Tab Byte := []
  /-- records on their way to NRG, oldest first -/
  handed : List CycRec := []
deriving DecidableEq, Repr

/-- What a demand interval has received (R390). -/
structure Bucket where
  e : Vector Nat 6 := Vector.replicate 6 0
  n : Nat := 0
  flags : Nat := 0
  pMax : Option Int := none
  pMin : Option Int := none
deriving DecidableEq, Repr

/-- A circuit of the energy accumulators (R379 to R395). -/
structure NrgC where
  total : Vector Nat 6 := Vector.replicate 6 0
  res : Vector Nat 6 := Vector.replicate 6 0
  tLast : Nat := 0
  cycles : Nat := 0
  /-- intervals closed, modulo 2^32, and SEQ of the latest closed record -/
  seq : Nat := 0
  dmdSeq : Nat := 0
  /-- an interval is in progress -/
  running : Bool := false
  nomStart : Nat := 0
  nomEnd : Nat := 0
  /-- monotonic time of the opening, and the duration carried over from before a power loss -/
  openMono : Nat := 0
  durBase : Nat := 0
  cur : Bucket := {}
  ahead : Bucket := {}
  /-- FLAGS that the next interval opened carries (R395) -/
  carry : Nat := 0
deriving DecidableEq, Repr

/-- A save in progress (R392): its slot, its 4,672 bytes, and whether its write has failed once. -/
structure Save where
  reason : Nat
  slot : Nat
  bytes : List Byte
  retried : Bool
  /-- CK_FAB cycle of the snapshot -/
  cyc : Nat := 0
deriving DecidableEq, Repr

structure Nrg where
  circs : Tab NrgC := []
  loaded : Bool := false
  saving : Option Save := none
  /-- a cause that waits for it -/
  pending : Option Nat := none
  /-- SEQ of the latest save, and the slot it used -/
  seq : Nat := 0
  slot : Nat := 1
  /-- monotonic time of the latest periodic save -/
  lastSave : Nat := 0
  /-- circuits to which a record has been added in CK_FAB cycle `addAt`, as they were before: a read of that cycle tells these (R399) -/
  before : Tab NrgC := []
  addAt : Nat := 0
  /-- ENABLE was cleared, and integration stops when the save is complete (R402) -/
  stopping : Bool := false
deriving DecidableEq, Repr

/-! ### The Belay link (17) -/

/-- A heartbeat as it arrived (R483): the monotonic time of its arrival, and the module time and monotonic time that it carries. -/
structure HbIn where
  at_ : Nat
  mt : Nat
  mono : Nat
  tinv : Bool
deriving DecidableEq, Repr

/-- A heartbeat as it was sent: the module time and monotonic time of its first symbol, the receive instant of the last one, TIME_INVALID. -/
structure HbOut where
  mt : Nat
  mono : Nat
  lastRx : Option Nat
  tinv : Bool
deriving DecidableEq, Repr

/-- A checkpoint save in progress (R495). -/
structure Ckpt where
  slot : Nat
  bytes : List Byte
deriving DecidableEq, Repr

/-- What the latest BG unit told of the tables that it carries when they change (R484). -/
structure BgSeen where
  /-- module time and monotonic time of its boundary -/
  at_ : Option Nat := none
  mono : Nat := 0
  forces : Tab Force := []
  /-- the points of metering as told -/
  points : Tab Point := []
  /-- bytes of the schedule table -/
  sched : List Host.Cell := []
  regs : List Word := []
  commandOwners : Tab Nat := []
  circs : Tab NrgC := []
  stations : List (Nat × Nat) := []
  /-- loop slots whose parameter words have been stored to since -/
  slots : List Nat := []
deriving DecidableEq, Repr

/-- BEL beside its page. -/
structure Bel where
  /-- the copy unit formed last (R484) -/
  out : Option CopyUnit := none
  seq : Nat := 0
  /-- offsets of the lines of the active program bank written since the previous unit -/
  dirty : List Nat := []
  /-- bytes of units formed in the aligned 1 ms interval of module time in progress (R485) -/
  load : Nat := 0
  seen : BgSeen := {}
  /-- header, signature block and bank of the package armed on the pair, and the one whose switch the next unit carries (R268) -/
  pkg : Option (List Byte × List Host.Cell × List Host.Cell) := none
  pkgDue : Option (List Byte × List Host.Cell × List Host.Cell) := none
  /-- sequence number of the next unit to be applied; none before the first of a RESYNC -/
  expect : Option Nat := none
  /-- the latest identity message of a partner (R478), and the one sent last -/
  partner : Option IdMsg := none
  idOut : Option IdMsg := none
  idAt : Nat := 0
  /-- the role has been taken (R478), and the monotonic time of the latest change of role -/
  decided : Bool := false
  roleAt : Nat := 0
  /-- digests of the configuration image and of the active program package -/
  imgDigest : BitVec 256 := 0
  progDigest : BitVec 256 := 0
  /-- monotonic time from which lane n has kept its lock without a bad frame (R482) -/
  lockAt : Vector Nat 2 := Vector.replicate 2 0
  /-- module time at which the second of both lanes lost its lock -/
  lossAt : Nat := 0
  hbOut : Option HbOut := none
  hbIn : Option HbIn := none
  /-- the instant from which the next heartbeat is due 50 µs later, and the consecutive misses (R490) -/
  due : Nat := 0
  miss : Nat := 0
  /-- the latest foreign SYNC: monotonic time and module time of its storing (R478 to R480) -/
  foreign : Option (Nat × Nat) := none
  /-- a foreign SYNC was stored while a promotion was in progress: R480 decides when it is complete (R497) -/
  dual : Bool := false
  /-- a promotion is decided (R491): true after a fail-over, false in a planned handover -/
  promote : Option Bool := none
  /-- a planned handover looks for its gap until this monotonic time (R489) -/
  swap : Option Nat := none
  /-- monotonic time from which SWAP_CFG.HOURS count, and of the next attempt after a refusal (R493) -/
  swapFrom : Nat := 0
  retryAt : Option Nat := none
  /-- the partner reads the same BEL_SIDE level, and this has been recorded (R49) -/
  conflict : Bool := false
  /-- this module has demoted itself in a planned handover (R489, step 2) -/
  handing : Bool := false
  /-- monotonic time of the latest DOWN sent -/
  downAt : Option Nat := none
  aliveAt : Nat := 0
  /-- PTP.ACT.SEL of the last copy unit (R483) -/
  sel : Nat := 0
  /-- the shadow of the persist ranges by bank offset, and the checkpoint saves (R494, R495) -/
  shadow : List Host.Cell := []
  saving : Option Ckpt := none
  ckptSeq : Nat := 0
  ckptSlot : Nat := 1
  ckptAt : Nat := 0
  /-- REASON of a cause that waits for the save in progress -/
  ckptPend : Option Nat := none
deriving DecidableEq, Repr

/-! ### Real-time clock and network time (14) -/

/-- The RTC beside its page; instants on CK_AON are held as CK_FAB cycles counted from the latest reset, and may be negative. -/
structure Rtc where
  /-- start of the second in progress -/
  secStart : Int := 0
  /-- the instant from which RTC_CD_VAL counts down -/
  cdFrom : Int := 0
  /-- the instant at which CK_AON was lost -/
  stopAt : Option Int := none
  /-- shadows of the nine time registers, and the CK_FAB cycle of the freezing read (R405) -/
  shadow : List Nat := List.replicate 9 0
  frozenAt : Nat := 0
  /-- CK_FAB cycle of the latest roll of the second, and the time registers before it: a read of that cycle takes these (R429) -/
  before : Option (Nat × List Nat) := none
  /-- CK_FAB cycle in which an expiry has reloaded the countdown last (R429) -/
  reloadAt : Option Nat := none
  /-- an accepted LOAD: the CK_FAB cycle of its CK_AON edge, and the staged fields -/
  load : Option (Nat × List Nat) := none
  /-- an accepted LOAD_SEC: its whole second of module time, and the staged fields -/
  loadSec : Option (Nat × List Nat) := none
deriving DecidableEq, Repr

/-- A domain of the PTP time unit (R413, R414). OFF is in units of 2.5 × 10^-12 ns, FREQ in units of 10^-12. -/
structure Dom where
  off : Int := 0
  freq : Int := 0
  /-- the next accepted sample is the first -/
  first : Bool := true
  /-- t_s of the previous accepted sample, and the monotonic time from which HOLD_S runs -/
  lastTs : Nat := 0
  lastMono : Nat := 0
  /-- consecutive samples with abs(e) above 4 × LOCK_NS, and with OFF above STEP_LIMIT -/
  bad : Nat := 0
  beyond : Nat := 0
deriving DecidableEq, Repr

/-- A step that has been decided (R419): STEP_AT, the amount, and whether it clears TIME_INVALID (R420). -/
structure PStep where
  at_ : Nat
  amount : Int
  clears : Bool
  /-- the alignment of a standby module: the amount follows from the latest heartbeat as the step is applied, and monotonic time is loaded (R483) -/
  align : Bool := false
deriving DecidableEq, Repr

/-- The PTP time unit beside its page. -/
structure Ptp where
  doms : Vector Dom 2 := Vector.replicate 2 {}
  /-- FREQ of the last active domain (R415) -/
  lastFreq : Int := 0
  /-- OFF has been above CORR_TC × SLEW_PPM since the latest SLEW_DONE -/
  slewing : Bool := false
  /-- SEL was written from none, and no sample of the active domain has been accepted since (R418) -/
  fromNone : Bool := false
  /-- steps decided and not yet applied, oldest first -/
  steps : List PStep := []
  /-- a SEL write that waits for them (R429) -/
  selWait : Option Nat := none
  /-- module time just after the latest step -/
  lastStep : Nat := 0
deriving DecidableEq, Repr

/-! ### Switch and MACs (15) -/

/-- A frame in a launch queue (R445): the index of its descriptor, and its arrival order. -/
structure LqEnt where
  launch : Nat
  idx : Nat
  dropLate : Bool
  /-- the frame leaves on both ring ports -/
  both : Bool
  pcp : Nat
  frame : EthFrame
deriving DecidableEq, Repr

/-- A frame that waits in a queue of an egress port (R438). -/
structure EgEnt where
  /-- queue 0 to 7 -/
  queue : Nat
  frame : EthFrame
  /-- monotonic time at which it came, and what it takes from there to the pin of a free port, in ns (R437) -/
  at_ : Nat
  transit : Nat
  /-- ingress stamp, for a frame that the transparent clock corrects (R442) -/
  ingress : Option Nat := none
  /-- transmit descriptor that it retires -/
  idx : Option Nat := none
  tsReq : Bool := false
  /-- several ports send it -/
  many : Bool := false
deriving DecidableEq, Repr

/-- The first copy of an HSR frame (R441): port, monotonic time, and whether the other copy has come. -/
structure HsrEnt where
  src : Nat
  seq : Nat
  port : Nat
  at_ : Nat
  matched : Bool
deriving DecidableEq, Repr

structure Net where
  /-- learned addresses: key = VID × 2^48 + address; port, and monotonic time of the latest traffic -/
  fdb : Tab (Nat × Nat) := []
  /-- VLAN_DATA of each VID -/
  vlans : Tab Word := []
  /-- monotonic times of the broadcast and multicast frames that each port has admitted within 1 ms -/
  storm : Vector (List Nat) 5 := Vector.replicate 5 []
  lq : Vector (List LqEnt) 4 := Vector.replicate 4 []
  /-- frames that wait at P0 to P3, in order of arrival, and the monotonic time at which the port has sent the frame on the wire -/
  eg : Vector (List EgEnt) 4 := Vector.replicate 4 []
  busy : Vector Nat 4 := Vector.replicate 4 0
  hsr : List HsrEnt := []
  hsrSeq : Nat := 0
  /-- monotonic times at which HSR_UNIQ0 and HSR_UNIQ1 grew -/
  uniq : Vector (List Nat) 2 := Vector.replicate 2 []
  /-- index of the next transmit descriptor to take, and those retired beyond TX_RD -/
  txNext : Nat := 0
  txDone : List Nat := []
  /-- the frame that each of P0 to P3 put on the wire last -/
  out : Vector (Option EthFrame) 4 := Vector.replicate 4 none
deriving DecidableEq, Repr

/-! ### Tenant sessions (16) -/

/-- A live session (R467): its compartment, its idle time and the instant from which that runs, in ns of monotonic time. -/
structure Session where
  comp : Nat
  idle : Nat
  lastUse : Nat
deriving DecidableEq, Repr

/-- CMPT and the anchor's sessions beside their pages. -/
structure Cmpt where
  /-- live sessions by handle -/
  sessions : Tab Session := []
  /-- scratch windows that the wipe engine is clearing (R470) -/
  wiping : List Nat := []
  /-- x0 to x31 (keys 0 to 31), f0 to f31 (32 to 63) and fcsr (64) of AC2 and of AC3 as they resumed last (R469); an unlisted register holds 0 -/
  core : Vector (Tab Word64) 2 := Vector.replicate 2 []
deriving DecidableEq, Repr

/-! ### Trust boundary and update (19) -/

/-- OTP fuses (R124, R520, R523, R549, R553). -/
structure Otp where
  prov : Bool := false
  comm : Bool := false
  decom : Bool := false
  /-- service fuses burned, of 128 -/
  service : Nat := 0
  /-- digests of the six key slots; 0 is not programmed -/
  slots : Vector (BitVec 256) 6 := Vector.replicate 6 0
  revoked : Vector Bool 6 := Vector.replicate 6 false
  /-- the 96-byte device seed -/
  seed : BitVec 768 := 0
  /-- anti-rollback fuses burned, of 255 -/
  counter : Nat := 0
  serial : BitVec 48 := 1
deriving DecidableEq, Repr

/-- The boot record (R547). -/
structure BootRec where
  seq : Nat := 0
  activeB : Bool := false
  trial : Bool := false
  trialLeft : Nat := 0
  valid : Vector Bool 2 := Vector.replicate 2 false
  build : Vector (BitVec 64) 2 := Vector.replicate 2 0
deriving DecidableEq, Repr

/-- A program record in flash (R546, R551): its header, and its signature block and the bank, by offset. -/
structure ProgRec where
  valid : Bool := false
  seq : Nat := 0
  header : List Byte := []
  block : List Host.Cell := []
  bank : List Host.Cell := []
deriving DecidableEq, Repr

/-- Flash (R546): image banks by container offset, boot record and program records. -/
structure Flash where
  banks : Vector (List Host.Cell) 2 := Vector.replicate 2 []
  boot : BootRec := {}
  progs : Vector ProgRec 4 := Vector.replicate 4 {}
  /-- the TAI−UTC offset stored for R38, kept in MRAM's configuration region -/
  utc : Option Nat := none
deriving DecidableEq, Repr

/-- Where the staging of a station stands (R537, R538, R543). -/
inductive SPhase where
  | waiting | begun | data | ended | ready | activated
deriving DecidableEq, Repr

/-- A station to be staged (R538): its image's offset in the container and length, the next offset to send, the frames sent of it, the monotonic
time of the latest, and the station's LOST count when its staging began. -/
structure Staging where
  ch : Nat
  addr : Nat
  stype : Nat
  version : Nat
  part : Nat
  length : Nat
  phase : SPhase := .waiting
  offset : Nat := 0
  tries : Nat := 0
  sentAt : Nat := 0
  lost : Nat := 0
deriving DecidableEq, Repr

/-- UPD and the anchor's part of an update beside their pages (R533 to R549). -/
structure Upd where
  /-- offsets of the blocks taken since UPD_BEGIN -/
  taken : List Nat := []
  /-- core whose UPD_VERIFY is being served, and core whose UPD_ACTIVATE is -/
  verifying : Option Nat := none
  activating : Option Nat := none
  stations : List Staging := []
  /-- monotonic time of the latest FW_DATA of each channel -/
  sentAt : Vector Nat 4 := Vector.replicate 4 0
  /-- the partner's answer: none yet, or its reason with 0 for READY -/
  partner : Option Nat := none
  /-- monotonic time of the 10 s limit of the gap search -/
  limit : Nat := 0
  /-- the Bivouac hold is on -/
  hold : Bool := false
  /-- the latest step of R541 that is complete -/
  step : Nat := 0
  /-- monotonic time from which the 3,600 s of the automatic confirmation run -/
  trialFrom : Nat := 0
  /-- cycle N_a of the latest ACTIVATE (R543) -/
  activateCycle : Nat := 0
  /-- a pair is being switched: on its active module the steps of R544 done, on its standby module 2 -/
  pairStep : Nat := 0
  /-- tasks whose settings the switch of a standby module has changed: they start at its promotion (R545) -/
  fresh : List Nat := []
deriving DecidableEq, Repr

/-- The anchor beside its pages (19, 16). -/
structure Trust where
  otp : Otp := {}
  /-- DWIN.INDEX, the part of DRAM that the anchor's window shows (R522) -/
  dwin : BitVec 7 := 0
  /-- the challenge, and the monotonic time at which it becomes void (R552) -/
  chal : Option (BitVec 64 × Nat) := none
  /-- BUILD_ID and SEC_VER of the running manifest -/
  build : BitVec 64 := 0
  secVer : Nat := 0
  /-- digest of the latest export record (R397), and whether it has been acknowledged -/
  exportDigest : Option (BitVec 256) := none
  energyWritten : Bool := false
  /-- length of the recovery container that the console is sending, and the offsets of its blocks taken (R554) -/
  consoleLen : Option Nat := none
  consoleTaken : List Nat := []
deriving DecidableEq, Repr

end Sys2Proof.Machine
end

