-- ==== Sys2Proof/Machine/State.lean ====
section
/-! DEFINITION. The state of the module, the reasons a step can stop, and the state right after reset. -/
namespace Sys2Proof.Machine

/-- Faults of the model. An access fault of a core is no fault here: it is the answer to the access, in a next state. -/
inductive Fault where
  /-- Raised by no command: every command of this block has an effect in every state. Safe. -/
  | never
deriving DecidableEq, Repr

/-- Refusals of the model. -/
inductive Refusal where
  /-- A command that has no meaning yet. Safe. -/
  | notModelled (mnemonic : String)
deriving DecidableEq, Repr

/-- The module: everything the spec gives it, and the queue of the commands that are waiting. -/
structure State where
  /-- commands waiting, first in, first out -/
  pending : List Instr := []
  /-- what the latest access returned to its requester -/
  resp : Resp := .none
  /-- the register file of the 39 pages: key = page × 0x1000 + offset; an unlisted key reads as its reset value -/
  regs : Tab Word := []
  /-- high words of 64-bit quantities whose low word's read latches the high register (R9): by the key of the low word -/
  hiWords : Tab Word := []
  /-- SRAM, MRAM and DRAM bytes; an unlisted address reads 0 (R129) -/
  mem : List Host.Cell := []
  /-- flipped bits of the stored 72-bit words (R130), by the address of the word -/
  ecc : Tab (BitVec 72) := []
  /-- module time: ns with a 32-bit binary fraction (R35) -/
  mt : BitVec 96 := 0
  /-- monotonic time, likewise (R243) -/
  mono : BitVec 96 := 0
  /-- CK_FAB cycles since the latest reset -/
  cyc : Nat := 0
  /-- CK_FAB cycles from the latest cold reset release to the latest reset (R279) -/
  cycCold : Nat := 0
  /-- MODEL's own: how many free values have been drawn -/
  draws : Nat := 0
  pins : Pins := {}
  sup : Supply := {}
  boot : Boot := {}
  /-- unlock sequences armed: page, and the requester and cycle of the arming write (R95) -/
  unlock : Tab (Req × Nat) := []
  /-- claims of INTC: source and target (R107) -/
  claims : Tab Nat := []
  eccx : Vector EccX 8 := Vector.replicate 8 {}
  points : Tab Point := []
  forces : Tab Force := []
  /-- the points that changed in CK_FAB cycle `priorAt`, as their readers saw them before (R28) -/
  prior : Tab View := []
  priorAt : Nat := 0
  /-- the slot block words stored to in CK_FAB cycle `blkAt`, as a read cycle of that cycle sees them (R305) -/
  blkPrior : Tab Word64 := []
  blkAt : Nat := 0
  /-- 64-bit words of MRAM, by address, that the device cannot correct (R131) -/
  mramBad : List Nat := []
  /-- what the anchor has told on the console since the latest reset, oldest first -/
  console : List Report := []
  /-- the configured points of AIN0-7, AOUT0-3 and DIO0-15 (R25, R301, R303) -/
  lioPids : Tab Nat := []
  tasks : Tab Task := []
  /-- RUNNING or COMMITTING tasks of AC0 and of AC1, the most recently dispatched first (R235) -/
  running : Vector (List Nat) 2 := Vector.replicate 2 []
  /-- the first instant of module time that the latest step, if a forward one, has not crossed (R246) -/
  instMin : Nat := 0
  /-- triggers on their way to TASK, oldest first (R240) -/
  trigs : List Trig := []
  ochg : Ochg := {}
  cairn : Cairn := {}
  can : Vector CanX 4 := Vector.replicate 4 {}
  mfp : Mfp := {}
  loops : Tab LoopX := []
  /-- first CK_FAB cycle at which lane l may start a window -/
  laneFree : Vector Nat 4 := Vector.replicate 4 0
  lio : Lio := {}
  inj : Vector InjX 4 := Vector.replicate 4 {}
  cap : Vector CapX 4 := Vector.replicate 4 {}
  mtr : Mtr := {}
  nrg : Nrg := {}
  /-- departure of the increment from 2.5 ns, in units of 10^-12: R_MT (R35, R415) -/
  rate : Int := 0
  rtc : Rtc := {}
  ptp : Ptp := {}
  net : Net := {}
  /-- owner tables of CMPT: points, loop slots, command slots, record classes (R463) -/
  ownPoints : Tab Nat := []
  ownSlots : Tab Nat := []
  ownCommands : Tab Nat := []
  ownClasses : Tab Nat := []
  /-- CMPT beside its page: second of the rate window of AC2 and of AC3, records written in it, and refusals not recorded singly (R466) -/
  denyRate : Vector (Nat × Nat × Nat) 2 := Vector.replicate 2 (0, 0, 0)
  cmpt : Cmpt := {}
  bel : Bel := {}
  trust : Trust := {}
  flash : Flash := {}
  upd : Upd := {}
  /-- tier that the configuration image in force declares: 0 Base, 1 Col, 2 Summit (R4); none before the first image -/
  tier : Option Nat := none
deriving DecidableEq, Repr

/-- Registers whose value after the cold reset of POWER_ON the tables do not give as a constant (log entry 2). -/
def resetRegs : Tab Word := [
  (0x00C, 1),          -- SYS.BLK_STAT: TIME_INVALID (R38, R103)
  (0x2100, 1),         -- RST.CAUSE: POWER_ON
  (0x2108, 0x8000),    -- RST.LC_STAT: SVC_LEFT 128, BLANK (R124)
  (0x2114, 1),         -- RST.BOOT_STAT: step 1 of R116 is complete
  (0x710C, 6), (0x7110, 1), (0x7114, 1), (0x711C, 0x20)  -- RTC: 2000-01-01, WDAY 6
  ]

/-- The module right after the cold reset of POWER_ON is released (R71, R564): the start-up of R116 is about to begin. -/
def State.reset : State := { regs := resetRegs }

end Sys2Proof.Machine
end

