-- ==== Sys2Proof/Machine/Ops.lean ====
section
/-! DEFINITION. The named operations over registers, fields, events, memory and time, which every meaning is written with. -/
namespace Sys2Proof.Machine

/-! ### Registers and fields -/

/-- Read a register without the side effects of a bus read. -/
def State.rd (s : State) (k : Nat) : Word := tabGet regReset s.regs k

/-- Set a register, keeping the register file in canonical form. -/
def State.wr (s : State) (k : Nat) (v : Word) : State := { s with regs := tabSet regReset s.regs k v }

/-- Write the bits of a register that firmware may write; the others stay (R11, R14). -/
def State.wrRw (s : State) (k : Nat) (v : Word) : State := s.wr k ((s.rd k &&& ~~~rwMask k) ||| (v &&& rwMask k))

/-- Number of values of a field. -/
def fieldSize (f : Fld) : Nat := 2 ^ (f.hi + 1 - f.lo)

/-- The bits of a field in a register value. -/
def fieldOf (f : Fld) (v : Word) : Nat := v.toNat / 2 ^ f.lo % fieldSize f

/-- A register value with one field replaced. -/
def fieldPut (f : Fld) (v : Word) (x : Nat) : Word :=
  BitVec.ofNat 32 (v.toNat - fieldOf f v * 2 ^ f.lo + x % fieldSize f * 2 ^ f.lo)

def State.fget (s : State) (f : Fld) : Nat := fieldOf f (s.rd f.key)

def State.fput (s : State) (f : Fld) (x : Nat) : State := s.wr f.key (fieldPut f (s.rd f.key) x)

/-- A one-bit field reads 1. -/
def State.fset (s : State) (f : Fld) : Bool := s.fget f == 1

def boolNat (b : Bool) : Nat := if b then 1 else 0

/-- Bit `i` of a register. -/
def State.bit (s : State) (k i : Nat) : Bool := (s.rd k).getLsbD i

/-- Set or clear bit `i` of a register. -/
def State.setBit (s : State) (k i : Nat) (b : Bool) : State := s.fput ⟨k, i, i⟩ (boolNat b)

/-- Add `n` to a field, saturating at its greatest value. -/
def State.addSat (s : State) (f : Fld) (n : Nat) : State := s.fput f (min (s.fget f + n) (fieldSize f - 1))

/-- Add `n` to a 32-bit counter, saturating at 0xFFFF_FFFF. -/
def State.countSat (s : State) (k : Nat) (n : Nat) : State := s.addSat ⟨k, 31, 0⟩ n

/-- Add `n` to a 32-bit counter that wraps modulo 2^32. -/
def State.countWrap (s : State) (k : Nat) (n : Nat) : State := s.wr k (s.rd k + BitVec.ofNat 32 n)

/-- Put a 64-bit quantity into a pair of registers of which the low word's read latches the high one (R9). -/
def State.put64 (s : State) (lo : Nat) (v : Nat) : State :=
  { s.wr lo (BitVec.ofNat 32 v) with hiWords := tabSet (fun _ => 0) s.hiWords lo (BitVec.ofNat 32 (v / 2 ^ 32)) }

/-- The 64-bit quantity put there. -/
def State.get64 (s : State) (lo : Nat) : Nat :=
  (s.rd lo).toNat + (tabGet (fun _ => (0 : Word)) s.hiWords lo).toNat * 2 ^ 32

/-- Two registers that are not latched, low word first. -/
def State.pair (s : State) (lo hi : Nat) : Nat := (s.rd lo).toNat + (s.rd hi).toNat * 2 ^ 32

def State.setPair (s : State) (lo hi : Nat) (v : Nat) : State :=
  (s.wr lo (BitVec.ofNat 32 v)).wr hi (BitVec.ofNat 32 (v / 2 ^ 32))

/-! ### Events -/

/-- The block of page `p` runs: ENABLE is 1. -/
def State.enabled (s : State) (p : Nat) : Bool := s.fset (F.HDR_ENABLE p)

/-- Event `k` of page `p`: a block whose ENABLE is cleared raises none (R91). -/
def State.raise (s : State) (p k : Nat) : State :=
  if s.enabled p then s.setBit (R.INT_RAW p) k true else s

/-- Set a fault flag that a chapter names. -/
def State.flag (s : State) (f : Fld) : State := s.fput f 1

/-- A rise of an event bit that is set even while the block's ENABLE is 0, because the event is the enable itself or its refusal. -/
def State.raiseAlways (s : State) (p k : Nat) : State := s.setBit (R.INT_RAW p) k true

/-! ### Time (R35, R243) -/

/-- The increment of one CK_FAB cycle in units of 2^-32 ns: 2.5 ns times one plus the rate of the servo (R35). -/
def State.inc (s : State) : Nat := (10737418240 * (1000000000000 + s.rate)).toNat / 1000000000000

/-- Module time, in ns. -/
def State.now (s : State) : Nat := s.mt.toNat / 2 ^ 32 % 2 ^ 64

/-- SYS.STAT.TIME_INVALID (R38). -/
def State.timeInvalid (s : State) : Bool := s.fset F.SYS_STAT_TIME_INVALID

/-- Monotonic time, in ns. -/
def State.monoNow (s : State) : Nat := s.mono.toNat / 2 ^ 32 % 2 ^ 64

/-! ### The servo of module time (R414, R415) -/

/-- The active domain. -/
def State.actDom (s : State) : Option Nat := match s.fget F.PTP_ACT_CUR with | 1 => some 0 | 2 => some 1 | _ => none
def State.dom (s : State) (d : Nat) : Dom := s.ptp.doms.toList.getD d {}
/-- STATE of domain `d`: 0 IDLE, 1 ACQUIRING, 2 LOCKED, 3 HOLDOVER. -/
def State.domState (s : State) (d : Nat) : Nat := s.fget (F.PTP_DSTAT_STATE d)

/-- A standby module in RESYNC or SYNCED takes its time from the active module (R483). -/
def State.steered (s : State) : Bool := s.fget F.BEL_ROLE_ROLE == 2 && decide (2 ≤ s.fget F.BEL_ROLE_PAIR)

/-- SLEW_PPM and CORR_TC as taken (R434). -/
def State.slewPpm (s : State) : Nat := let v := s.fget F.PTP_SERVO_SLEW_PPM; if v = 0 then 1 else min v 49
def State.corrTc (s : State) : Nat := max 1 (s.fget F.PTP_SERVO_CORR_TC)

/-- OFF / CORR_TC in units of 10^-12, before its limit. -/
def State.corrOf (s : State) (d : Nat) : Int := ((s.dom d).off * 25).tdiv (s.corrTc * 10000000000 : Nat)

/-- CORR: zero but for an active domain in ACQUIRING or LOCKED. -/
def State.corr (s : State) : Int :=
  match s.actDom with
  | none => 0
  | some d =>
    if s.steered || !(s.domState d == 1 || s.domState d == 2) then 0
    else let m : Int := (s.slewPpm * 1000000 : Nat); max (-m) (min m (s.corrOf d))

/-- R_MT of this cycle (R415). R38 has the master run at the nominal increment until a domain is locked, where R415 applies FREQ and CORR in ACQUIRING
already; R415 is followed. DEDUCED, log entry 42. -/
def State.servoRate (s : State) : Int :=
  if s.steered then s.rate
  else match s.actDom with
    | none => s.ptp.lastFreq
    | some d => if s.domState d = 0 then s.ptp.lastFreq else (s.dom d).freq + s.corr

/-- `n` CK_FAB cycles pass at the present rate: OFF of each enabled domain grows by FREQ − R_MT a cycle. -/
def State.jump (s : State) (n : Nat) : State :=
  { s with
    mt := s.mt + BitVec.ofNat 96 (s.inc * n), mono := s.mono + BitVec.ofNat 96 (s.inc * n), cyc := s.cyc + n
    ptp := { s.ptp with doms := Vector.ofFn (fun i => let d := s.dom i; if s.domState i = 0 then d else { d with off := d.off + n * (d.freq - s.rate) }) } }

/-- The rate follows the servo. -/
def State.servo (s : State) : State :=
  let sat := match s.actDom with | some d => decide ((s.slewPpm * 1000000 : Nat) < (s.corrOf d).natAbs) && s.corr != 0 | none => false
  { s with rate := s.servoRate, ptp := { s.ptp with slewing := s.ptp.slewing || sat } }

/-- Module time as the follower counter of clock domain `d` reads it: within one cycle of the domain plus 2.5 ns of the master, and which value in that
range is a free value (R36; log entry 43). -/
def followSpan (d : Nat) : Nat := match d with | 4 => 15 | 5 => 51 | 6 => 8 | 7 => 10 | 8 => 8 | _ => 0

def State.followerAt (s : State) (d t : Nat) : Nat × State :=
  let v := (Config.freeValue s.draws).toNat % (2 * followSpan d + 1)
  (t + v - followSpan d, { s with draws := s.draws + 1 })

def State.follower (s : State) (d : Nat) : Nat × State := s.followerAt d s.now

/-- The rate stays as it is. -/
def State.steady (s : State) : Bool := s.corr == 0

/-- `n` CK_FAB cycles pass, the servo acting in each. -/
def State.tickN : Nat → State → State
  | 0, s => s
  | n + 1, s => if s.steady then s.jump (n + 1) else State.tickN n (s.jump 1).servo

/-- `n` CK_FAB cycles pass. -/
def State.tick (s : State) (n : Nat) : State := State.tickN n s

/-- The earliest instant of module time that has not passed before this CK_FAB cycle: an instant is taken in the cycle in which module time first
reaches it, and none that a forward step crossed (R246). -/
def State.instFrom (s : State) : Nat := max s.instMin (if s.mt.toNat < s.inc then 0 else (s.mt.toNat - s.inc) / 2 ^ 32 % 2 ^ 64 + 1)

/-- CK_FAB cycles until a counter of ns at `a` (with its fraction) reaches `t` ns. -/
def State.cyclesTo (s : State) (a : Nat) (t : Nat) : Nat :=
  if t * 2 ^ 32 ≤ a ∨ s.inc = 0 then 0 else (t * 2 ^ 32 - a + s.inc - 1) / s.inc

/-- CK_FAB cycles within which a counter of ns at `a` reaches `t` at every permitted rate. -/
def cyclesBound (a t : Nat) : Nat := (t * 2 ^ 32 - a) / 10000000000 + 1

/-- Cycles pass until the counter `f` reaches `t` ns. -/
def State.reachN (f : State → Nat) (t : Nat) : Nat → State → State
  | 0, s => s
  | n + 1, s =>
    if t * 2 ^ 32 ≤ f s then s
    else if s.steady then s.jump (s.cyclesTo (f s) t)
    else State.reachN f t n (s.jump 1).servo

/-- Module time reaches the instant `t`, if it lies ahead (log entry 4). -/
def State.reach (s : State) (t : Nat) : State := State.reachN (fun s => s.mt.toNat) t (cyclesBound s.mt.toNat t) s

/-- Monotonic time reaches `t`, if it lies ahead. -/
def State.reachMono (s : State) (t : Nat) : State := State.reachN (fun s => s.mono.toNat) t (cyclesBound s.mono.toNat t) s

/-- The CK_FAB cycle `c` since reset comes, if it lies ahead. -/
def State.reachCyc (s : State) (c : Nat) : State := s.tick (c - s.cyc)

/-- CK_FAB cycles of `n` microseconds, milliseconds and seconds. -/
def cycUs (n : Nat) : Nat := 400 * n
def cycMs (n : Nat) : Nat := 400000 * n
def cycS (n : Nat) : Nat := 400000000 * n

/-! ### Memory -/

/-- One byte; an unlisted address reads 0 (R129). -/
def State.byte (s : State) (a : Nat) : Byte := tabGet (fun _ => 0) s.mem a

/-- Store one byte, keeping the canonical form. -/
def State.setByte (s : State) (a : Nat) (v : Byte) : State := { s with mem := tabSet (fun _ => (0 : Byte)) s.mem a v }

/-- `n` bytes from address `a` on. -/
def State.bytesAt (s : State) (a : Nat) : Nat → List Byte
  | 0 => []
  | n + 1 => s.byte a :: s.bytesAt (a + 1) n

/-- Store bytes from address `a` on. -/
def State.setBytes (s : State) (a : Nat) : List Byte → State
  | [] => s
  | b :: l => (s.setByte a b).setBytes (a + 1) l

/-- The number that little-endian bytes spell (R9). -/
def leNat : List Byte → Nat
  | [] => 0
  | b :: l => b.toNat + 256 * leNat l

/-- The `n` little-endian bytes of a number. -/
def natLe : Nat → Nat → List Byte
  | 0, _ => []
  | n + 1, v => BitVec.ofNat 8 v :: natLe n (v / 256)

/-- The little-endian number of `n` bytes at address `a`. -/
def State.le (s : State) (a n : Nat) : Nat := leNat (s.bytesAt a n)

def State.setLe (s : State) (a n v : Nat) : State := s.setBytes a (natLe n v)

/-- Clear every byte at an address that satisfies `p`. -/
def State.wipe (s : State) (p : Nat → Bool) : State :=
  { s with mem := tabKeep (fun a => !p a) s.mem, ecc := tabKeep (fun a => !p a) s.ecc, mramBad := s.mramBad.filter (fun a => !p a) }

/-- Byte `i` of a list, 0 beyond its end. -/
def byteOf (l : List Byte) (i : Nat) : Nat := (l.getD i 0).toNat

/-- Little-endian field of `n` bytes at byte `i` of a list. -/
def leOf (l : List Byte) (i n : Nat) : Nat := leNat ((l.drop i).take n)

/-- `n` bytes of a list, padded with zeros. -/
def padTo (n : Nat) (l : List Byte) : List Byte := (l ++ List.replicate (n - l.length) 0).take n

/-! ### Signed numbers -/

/-- A 32-bit pattern read as two's complement. -/
def sgn32 (v : Word) : Int := v.toInt
def sgn16 (v : Nat) : Int := (BitVec.ofNat 16 v).toInt
/-- The 32-bit pattern of a number. -/
def word32 (i : Int) : Word := BitVec.ofInt 32 i
def clampI (lo hi x : Int) : Int := if x < lo then lo else if hi < x then hi else x
def clampN (lo hi x : Nat) : Nat := if x < lo then lo else if hi < x then hi else x

/-- A step falls due no later than now: what comes of the same cycle waits for it (R249, R497). -/
def State.stepDue (s : State) : Bool := s.ptp.steps.any (fun p => decide (p.at_ ≤ s.now))

/-- What comes at the instant `t` of module time: not before a step that falls due by then has been applied (R399, R429, R517). -/
def State.atInstant (s : State) (t : Nat) (f : State → State) : State := let s' := s.reach t; if s'.stepDue then s else f s'

/-! ### Free values -/

/-- Draw a free value (log entry 9). -/
def State.draw (s : State) : BitVec 64 × State := (Config.freeValue s.draws, { s with draws := s.draws + 1 })

/-! ### Faults of the fabric (R99 to R102) -/

/-- The code of a requester (R100). -/
def reqCode : Req → Nat
  | .ac0 => 0 | .ac1 => 1 | .ac2 => 2 | .ac3 => 3 | .anchor => 4 | .loop => 5 | .ios => 6 | .mtr => 7
  | .bel => 8 | .task => 9 | .switch => 10 | .upd => 11 | .can => 12 | .debug => 13

/-- A fault that SYS captures and counts (R102). -/
def State.sysFault (s : State) (req : Req) (write : Bool) (kind addr : Nat) : State :=
  let s := s.countSat R.SYS_FAULT_COUNT 1
  if s.fset F.SYS_FAULT_CAPT then s.fput F.SYS_FAULT_MORE 1
  else
    let s := s.setPair R.SYS_FAULT_ADDR_LO R.SYS_FAULT_ADDR_HI addr
    let s := ((s.fput F.SYS_FAULT_CAPT 1).fput F.SYS_FAULT_REQ (reqCode req)).fput F.SYS_FAULT_WRITE (boolNat write)
    (s.fput F.SYS_FAULT_KIND kind).raise Pg.SYS Ev.SYS_FAULT

/-- The physical address of offset `off` of page `p` (R88). -/
def pageAddr (p off : Nat) : Nat := 0x40000000 + p * 0x1000 + off

/-! ### Compartments (R16, R462) -/

/-- The session compartment in force for a core of the service side: none in BASE. AC0 and AC1 run in compartment 0. -/
def State.session (s : State) (req : Req) : Option Nat :=
  match req with
  | .ac2 => if s.fset F.CMPT_CUR2_SESSION then some (s.fget F.CMPT_CUR2_COMP) else none
  | .ac3 => if s.fset F.CMPT_CUR3_SESSION then some (s.fget F.CMPT_CUR3_COMP) else none
  | _ => some 0

/-- The compartment of a requester; BASE counts as compartment 0 for register pages (R93, CURc.COMP is 0 while SESSION = 0). -/
def State.compOf (s : State) (req : Req) : Nat := (s.session req).getD 0

/-! ### Records of the Cairn event recorder (R500 to R504) -/

/-- First class and number of classes of the block of page `p` (R501). -/
def classRange (p : Nat) : Nat × Nat :=
  if p = Pg.ANC ∨ p = Pg.UPD then (0x240, 0x40)
  else if p = Pg.RTC ∨ p = Pg.PTP then (0x140, 0x40)
  else if p < 16 then (0, 0x40)
  else if p < 22 then (0x40, 0x40)
  else if p = Pg.TASK then (0x80, 0x40)
  else if p < 26 then (0xC0, 0x40)
  else if p < 28 then (0x100, 0x40)
  else if p < 35 then (0x180, 0x40)
  else if p = Pg.BEL then (0x200, 0x40)
  else if p = Pg.CMPT then (0x1C0, 0x40)
  else if p = Pg.CAIRN then (0x280, 0x40)
  else (0x240, 0x40)

/-- The class of a record that the block of page `p` writes for event `bit` (log entry 6). -/
def recClass (p bit : Nat) : Nat := (classRange p).1 + Config.recordClass p bit % (classRange p).2

/-- Its severity, where no rule states one (log entry 6). -/
def recSev (p bit : Nat) : Nat := Config.recordSeverity p bit % 8

def queueSize : Nat := 1024

/-- A record is submitted: numbered and accepted, or dropped when the intake queue is full (R504). -/
def State.submit (s : State) (r : Rec) : State :=
  if s.cairn.queue.length < queueSize then
    let r := { r with num := s.cairn.nextNum }
    let first := if s.cairn.accCyc = s.cyc then s.cairn.accFrom else s.cairn.nextNum
    { s with cairn := { s.cairn with queue := s.cairn.queue ++ [r], nextNum := s.cairn.nextNum + 1, accCyc := s.cyc, accFrom := first } }
  else
    let l := match s.cairn.lost with
      | none => (1, s.now, s.now, r.sev)
      | some (n, a, _, m) => (n + 1, a, s.now, max m r.sev)
    let s := { s with cairn := { s.cairn with lost := some l } }
    (s.countSat R.CAIRN_DROP_BUSY 1).raise Pg.CAIRN Ev.CAIRN_DROP

/-- A record about event `bit` of page `p`: bytes 0-1 page, 2-3 bit, then the fields of the chapter (R501). `bit` is 0xFFFF for no bit. -/
def State.noteAs (s : State) (cls sev comp p bit : Nat) (fields : List Byte) : State :=
  s.submit { cls := cls, sev := sev, comp := comp, time := s.now, payload := natLe 2 p ++ natLe 2 bit ++ fields }

/-- Such a record with the class and severity that no rule states, owned by the owner of its class (R462). -/
def State.note (s : State) (p bit : Nat) (fields : List Byte) : State :=
  s.noteAs (recClass p bit) (recSev p bit) (tabGet (fun _ => 0) s.ownClasses (recClass p bit)) p bit fields

/-- Such a record about an object that has an owner (R462). -/
def State.noteOf (s : State) (comp p bit : Nat) (fields : List Byte) : State :=
  s.noteAs (recClass p bit) (recSev p bit) comp p bit fields

/-- A record of severity WARNING (R502). -/
def State.warn (s : State) (p bit : Nat) (fields : List Byte) : State :=
  s.noteAs (recClass p bit) 3 (tabGet (fun _ => 0) s.ownClasses (recClass p bit)) p bit fields

/-- The bit number that R501 gives a BLK_FAULT bit, and no bit. -/
def faultBit (k : Nat) : Nat := 0x100 + k
def noBit : Nat := 0xFFFF

end Sys2Proof.Machine
end

