-- ==== Sys2Proof/Machine/Pages.lean ====
section
/-! DEFINITION. Access to the register pages (03): who reaches a page, what a refused access leaves, the unlock sequence of the expert area,
and the interrupt controller. -/
namespace Sys2Proof.Machine

/-! ### Who reaches a page (R93, R464, R466) -/

/-- In compartment 0, or the anchor or an engine; BASE is no compartment (R461). -/
def State.comp0 (s : State) (req : Req) : Bool := s.session req == some 0

/-- Offset `off` of the INTC page is one of the three registers of target `t` (R93). -/
def ownTargetReg (t off : Nat) : Bool := 0x600 + 0x10 * t ≤ off && off < 0x60C + 0x10 * t

/-- Pages that a core in BASE reaches (R464). -/
def basePage (p : Nat) : Bool := p == Pg.ANC || p == Pg.RTC || p == Pg.PTP || (29 ≤ p && p ≤ 34)

/-- Page `p` at `off` is open to a service core, by its session. -/
def State.svcPage (s : State) (ses : Option Nat) (target p off : Nat) : Bool :=
  (p == Pg.INTC && ownTargetReg target off) ||
    match ses with
    | none => basePage p
    | some 0 => true
    | some n => p == Pg.ANC || s.fget (F.HDR_COMP p) == n

/-- The pages that an engine's chapters name: those of its own block, and for the Belay link controller those of the registers that it copies (R484). -/
def enginePages : Req → List Nat
  | .loop => [Pg.LOOP, Pg.TUNE, Pg.LIO]
  | .ios => [16, 17, 18, 19, Pg.FNET, Pg.IOS]
  | .mtr => [Pg.MTR, Pg.NRG]
  | .bel => [Pg.BEL, Pg.TASK, Pg.LOOP, Pg.PTP]
  | .task => [Pg.TASK, Pg.PTP]
  | .switch => [Pg.SW, 30, 31, 32, 33, 34]
  | .upd => [Pg.UPD]
  | .can => [16, 17, 18, 19]
  | _ => []

/-- R93: the requester reaches the page. The debug port has the grants of both sides (log entry 38); which pages the chapters name for an engine is
log entry 44. -/
def State.pageGrant (s : State) (req : Req) (p off : Nat) : Bool :=
  match req with
  | .ac0 => true
  | .ac1 => true
  | .anchor => true
  | .debug => true
  | .ac2 => s.svcPage (s.session .ac2) 2 p off
  | .ac3 => s.svcPage (s.session .ac3) 3 p off
  | engine => (enginePages engine).contains p

/-- 0 for AC2, 1 for AC3; none for a requester that CMPT does not check. -/
def svcCore (req : Req) : Option Nat :=
  match req with
  | .ac2 => some 0
  | .ac3 => some 1
  | _ => none

/-- A record of refusals of service core `c`, owned by compartment 0 (R466). -/
def State.denyNote (s : State) (fields : List Byte) : State :=
  s.noteAs (recClass Pg.CMPT 0) (recSev Pg.CMPT 0) 0 Pg.CMPT Ev.CMPT_DENY fields

/-- A second of the monotonic time is over in which refusals of core `c` went unrecorded: one record says how many (R466). The seconds are whole ones of that
time (DESIGN CHOICE, log entry 65). -/
def State.denySum (s : State) (c : Nat) : State :=
  let (sec, n, miss) := s.denyRate.toList.getD c (0, 0, 0)
  if miss = 0 ∨ s.monoNow / 1000000000 = sec then s
  else ({ s with denyRate := s.denyRate.setIfInBounds c (sec, n, 0) }).denyNote (BitVec.ofNat 8 c :: natLe 4 miss)

/-- The anchor's records of refusals: 64 in a second for each core, beyond which it counts those not recorded singly (R466). -/
def State.denyRecord (s : State) (c : Nat) : State :=
  let s := s.denySum c
  let (sec, n, miss) := s.denyRate.toList.getD c (0, 0, 0)
  let now := s.monoNow / 1000000000
  if now ≠ sec then ({ s with denyRate := s.denyRate.setIfInBounds c (now, 1, 0) }).denyNote [BitVec.ofNat 8 c]
  else if n < 64 then ({ s with denyRate := s.denyRate.setIfInBounds c (sec, n + 1, miss) }).denyNote [BitVec.ofNat 8 c]
  else { s with denyRate := s.denyRate.setIfInBounds c (sec, n, miss + 1) }

/-- CMPT refuses an access of a service core (R466): count, capture, event and record. -/
def State.cmptDeny (s : State) (req : Req) (write : Bool) (region index addr : Nat) : State :=
  match svcCore req with
  | none => s
  | some c =>
    let s := s.countSat R.CMPT_DENY_COUNT 1
    let s :=
      if s.fset F.CMPT_DENY_INFO_CAPT then s.fput F.CMPT_DENY_INFO_MORE 1
      else
        let s := s.setPair R.CMPT_DENY_ADDR_LO R.CMPT_DENY_ADDR_HI addr
        let s := ((s.fput F.CMPT_DENY_INFO_CAPT 1).fput F.CMPT_DENY_INFO_CORE c).fput F.CMPT_DENY_INFO_WRITE (boolNat write)
        let s := (s.fput F.CMPT_DENY_INFO_COMP ((s.session req).getD 0)).fput F.CMPT_DENY_INFO_SESSION (boolNat (s.session req).isSome)
        (s.fput F.CMPT_DENY_INFO_REGION region).fput F.CMPT_DENY_INFO_INDEX index
    (s.raise Pg.CMPT Ev.CMPT_DENY).denyRecord c

/-- An access to a page that R93 refuses: bit 4 of the page, KIND 3, CMPT, and the access fault to the requester. -/
def State.pageRefuse (s : State) (req : Req) (p off : Nat) (write : Bool) : State :=
  let s := (s.flag (F.HDR_CMPT_DENY p)).sysFault req write 3 (pageAddr p off)
  { s.cmptDeny req write 0 p (pageAddr p off) with resp := if write then .storeFault else .loadFault }

/-- A write by `req` to offset `off` of page `p`: refused under R93, or performed by `f` and complete. -/
def State.onPage (s : State) (req : Req) (p off : Nat) (f : State → State) : State :=
  if s.pageGrant req p off then { f s with resp := .data 0 } else s.pageRefuse req p off true

/-- A memory access that is not granted: KIND 0 and the access fault (R22). -/
def State.memFault (s : State) (req : Req) (write : Bool) (addr : Nat) : State :=
  { s.sysFault req write 0 addr with resp := if write then .storeFault else .loadFault }

/-- A memory access that CMPT refuses (R466). -/
def State.memDeny (s : State) (req : Req) (write : Bool) (region index addr : Nat) : State :=
  (s.memFault req write addr).cmptDeny req write region index addr

/-- A memory access that is refused: of a service core outside compartment 0, or to a region that R464 lists, by CMPT, which records it (R466); any other by
the fabric alone (R22). Region 8 is everything that R464 does not list. -/
def State.memRefuse (s : State) (req : Req) (write : Bool) (region index addr : Nat) : State :=
  if (svcCore req).isSome && (!s.comp0 req || region != 8) then s.memDeny req write region index addr else s.memFault req write addr

/-- The module is not held in cold reset, so commands reach it. -/
def State.live (s : State) : Bool := !s.sup.inReset

/-- A command that does nothing while the module is held in cold reset. -/
def State.whenLive (s : State) (f : State → State) : Host.Outcome State Fault Refusal :=
  .next (if s.live then f s else s)

/-- A command of a core or of a block that sleep clock-gates (R171): it does nothing in cold reset or in sleep. -/
def State.whenAwake (s : State) (f : State → State) : Host.Outcome State Fault Refusal :=
  .next (if s.live && !s.sup.asleep then f s else s)

/-- Tasks and loops wait for READY after a sleep (R171). -/
def State.resting (s : State) : Bool := s.sup.asleep || s.sup.waking.isSome

/-- A command of the loop engine, which stands until READY has risen after a sleep. -/
def State.whenReady (s : State) (f : State → State) : Host.Outcome State Fault Refusal :=
  .next (if s.live && !s.resting then f s else s)

/-- A register write of its own row, under `whenAwake` and R93. -/
def State.regCmd (s : State) (req : Req) (key : Nat) (f : State → State) : Host.Outcome State Fault Refusal :=
  s.whenAwake (fun s => s.onPage req (key / 0x1000) (key % 0x1000) f)

/-- A register read of its own row, under `whenAwake` and R93: the value read goes to the requester. -/
def State.regReadCmd (s : State) (req : Req) (key : Nat) (f : State → State × Word) : Host.Outcome State Fault Refusal :=
  s.whenAwake (fun s =>
    if s.pageGrant req (key / 0x1000) (key % 0x1000) then
      let (s, v) := f s
      { s with resp := .data (v.zeroExtend 64) }
    else s.pageRefuse req (key / 0x1000) (key % 0x1000) false)

/-! ### BLK_CTL (R95 to R98) -/

def keyArm : Nat := 0x5A3C
def keyUnlock : Nat := 0x3CA5

/-- A write of BLK_CTL that sets UNLOCK_SEQ: a fault of KIND 5. -/
def State.unlockFault (s : State) (req : Req) (p : Nat) : State :=
  (s.flag (F.HDR_UNLOCK_SEQ p)).sysFault req true 5 (pageAddr p 8)

/-- The write completes the sequence of R95: armed by the same requester in compartment 0 at most 256 cycles before, EXPERT written 1. -/
def State.unlocks (s : State) (req : Req) (p : Nat) (expert : Bool) : Bool :=
  match tabFind s.unlock p with
  | some (r, c) => r == req && s.comp0 req && expert && decide (s.cyc ≤ c + 256)
  | none => false

/-- EXPERT becomes 1; a change from 0 is recorded with the page and the requester (R98). -/
def State.setExpert (s : State) (req : Req) (p : Nat) : State :=
  let s' := s.fput (F.HDR_EXPERT p) 1
  if s.fset (F.HDR_EXPERT p) then s' else s'.note p noBit (natLe 2 p ++ [BitVec.ofNat 8 (reqCode req)])

/-- The table of R96 but for ENABLE: what a write of BLK_CTL with this KEY and EXPERT does to EXPERT, the arming and UNLOCK_SEQ. -/
def State.blkCtlKey (s : State) (req : Req) (p key : Nat) (expert : Bool) : State :=
  let disarmed : State := { s with unlock := tabDel s.unlock p }
  if key = 0 then
    if expert = false then disarmed.fput (F.HDR_EXPERT p) 0
    else if s.fset (F.HDR_EXPERT p) then disarmed
    else disarmed.unlockFault req p
  else if key = keyArm then
    if s.comp0 req then { s with unlock := tabPut s.unlock p (req, s.cyc) }
    else disarmed.unlockFault req p
  else if key = keyUnlock then
    if s.unlocks req p expert then disarmed.setExpert req p else disarmed.unlockFault req p
  else disarmed.unlockFault req p

/-- The KEY lets the write change ENABLE (R96: any other value makes the whole write ignored). -/
def keyActs (key : Nat) : Bool := key == 0 || key == keyArm || key == keyUnlock

/-- A write to the expert area while EXPERT = 0 is a locked write (R98): a fault of KIND 4. -/
def State.lockedWrite (s : State) (req : Req) (p off : Nat) : State :=
  (s.flag (F.HDR_LOCKED_WR p)).sysFault req true 4 (pageAddr p off)

/-- A store narrower than 32 bits to a page: ignored, a fault of KIND 2 (R92). -/
def State.narrowWrite (s : State) (req : Req) (p off : Nat) : State :=
  (s.flag (F.HDR_WIDTH p)).sysFault req true 2 (pageAddr p off)

/-- INT_CLR: each bit written 1 clears that bit of INT_RAW (R89). -/
def State.intClear (s : State) (p : Nat) (v : Word) : State := s.wr (R.INT_RAW p) (s.rd (R.INT_RAW p) &&& ~~~v)

/-- BLK_OWNER: written by the anchor, where COMP is not fixed; another requester sets OWNER_WR, a fault of KIND 6. -/
def State.ownerWrite (s : State) (req : Req) (p : Nat) (v : Word) : State :=
  if req = .anchor then
    if pageOwnerFixed p then s else s.wr (R.BLK_OWNER p) (v &&& 0x3F)
  else (s.flag (F.HDR_OWNER_WR p)).sysFault req true 6 (pageAddr p 0x20)

/-! ### The interrupt controller (R106 to R112) -/

/-- The level of source `n`: its page's INT_PEND bit. -/
def State.level (s : State) (n : Nat) : Bool :=
  match sourcePage n with
  | some (p, k) => s.bit (R.INT_RAW p) k && s.bit (R.INT_EN p) k
  | none => false

/-- The TARGET code of target `t` (R106). -/
def targetCode (t : Nat) : Nat := if t = 4 then 7 else t + 1

/-- Source `n` is claimable by target `t` (R107). -/
def State.claimable (s : State) (t n : Nat) : Bool :=
  s.level n && s.fget (F.INTC_ROUTE_TARGET n) == targetCode t &&
    decide (s.fget (F.INTC_THRESH_LEVEL t) < s.fget (F.INTC_ROUTE_PRIO n)) && (tabFind s.claims n).isNone

/-- The claimable source of highest PRIO, the lowest number among equals. -/
def State.bestSource (s : State) (t : Nat) : Option Nat :=
  (List.range 248).foldl (fun best n =>
    if s.claimable t n then
      match best with
      | none => some n
      | some m => if s.fget (F.INTC_ROUTE_PRIO m) < s.fget (F.INTC_ROUTE_PRIO n) then some n else some m
    else best) none

/-- The external interrupt input of target `t` is asserted (R107). -/
def State.interruptInput (s : State) (t : Nat) : Bool := (s.bestSource t).isSome

/-- A read of CLAIMt. -/
def State.claim (s : State) (t : Nat) : State :=
  match s.bestSource t with
  | none => { s with resp := .data 0 }
  | some n => { s with claims := tabPut s.claims n t, resp := .data (BitVec.ofNat 64 (0x80000000 + n)) }

/-- A write of COMPLETEt (R109). -/
def State.complete (s : State) (t n : Nat) : State :=
  if tabFind s.claims n = some t then { s with claims := tabDel s.claims n } else s.flag F.INTC_FAULT_BAD_COMPLETE

/-- A write of ROUTEn (R108). A write of the anchor to an entry that R108 names keeps LOCK 1 and takes TARGET and PRIO: whether the whole write is ignored
where it clears LOCK is open. DESIGN CHOICE, log entry 45. -/
def State.routeWrite (s : State) (req : Req) (n : Nat) (v : Word) : State :=
  let lock := s.fget (F.INTC_ROUTE_LOCK n)
  let newLock := fieldOf (F.INTC_ROUTE_LOCK n) v
  let plain := v &&& 0x77
  if req = .anchor then
    let l := if anchorSource n then 1 else newLock
    s.wr (R.INTC_ROUTE n) (fieldPut (F.INTC_ROUTE_LOCK n) plain l)
  else
    let bad1 := lock == 1 || newLock != lock
    let bad2 := fieldOf (F.INTC_ROUTE_TARGET n) v == 7
    let s := if bad1 then s.flag F.INTC_FAULT_ROUTE_LOCKED else s
    let s := if bad2 then s.flag F.INTC_FAULT_ANCHOR_TARGET else s
    if bad1 || bad2 then s else s.wr (R.INTC_ROUTE n) plain

/-- A write of SWI_SET (R112). -/
def State.swiSet (s : State) (v : Word) : State := s.wr (R.INT_RAW Pg.INTC) (s.rd (R.INT_RAW Pg.INTC) ||| (v &&& 0xFFFF))

end Sys2Proof.Machine
end

