-- ==== Sys2Proof/Machine/Cairn.lean ====
section
/-! DEFINITION. The Cairn event recorder (18 R500 to R519): intake, storage, modes, the reader contexts, clearing and point summaries. -/
namespace Sys2Proof.Machine

/-- A change of the recorder's own fields. -/
def State.cairnSet (s : State) (f : Cairn → Cairn) : State := { s with cairn := f s.cairn }

/-- The record's header word (R500). -/
def recHeader (r : Rec) : Nat :=
  min 240 r.payload.length + r.cls % 1024 * 2 ^ 8 + r.sev % 8 * 2 ^ 18 + r.comp % 64 * 2 ^ 22 + boolNat r.fw * 2 ^ 28
    + boolNat r.summary * 2 ^ 29 + boolNat r.test * 2 ^ 30 + 2 ^ 31 + r.num % 2 ^ 32 * 2 ^ 32

/-- The 256 bytes of a stored record: header, TIME, payload, and zeros. -/
def recBytes (r : Rec) : List Byte := padTo 256 (natLe 8 (recHeader r) ++ natLe 8 r.time ++ r.payload.take 240)

/-! ### Storage (R503, R504, R507) -/

def cairnSlots : Nat := 65535

/-- The lowest free slot at or above `i` (log entry 10). -/
def freeSlotFrom : Nat → Tab Rec → Nat
  | i, [] => i
  | i, (k, _) :: t => if k = i then freeSlotFrom (i + 1) t else i

/-- A free slot, if there is one. -/
def State.freeSlot (s : State) : Option Nat :=
  let k := freeSlotFrom 1 s.cairn.slots
  if k ≤ cairnSlots then some k else none

/-- The oldest held record whose severity is strictly lower than `sev`: its slot. -/
def oldestBelow (sev : Nat) (t : Tab Rec) : Option (Nat × Rec) :=
  t.foldl (fun best e =>
    if e.2.sev < sev then
      match best with
      | none => some e
      | some b => if e.2.num < b.2.num then some e else best
    else best) none

/-- BLK_STAT.FULL becomes 1, with its event, which a drop while FULL is 1 does not set again: R518 gives the event as FULL becoming 1 (DEDUCED, log entry 67).
No record has been dropped since. -/
def State.cairnFull (s : State) : State :=
  if s.fset F.CAIRN_STAT_FULL then s
  else (((s.fput F.CAIRN_STAT_FULL 1).fput F.CAIRN_DROP_INFO_MAX_SEV 0).raise Pg.CAIRN Ev.CAIRN_FULL).cairnSet (fun c => { c with dropSeen := false })

/-- A record is dropped at storage (R507). -/
def State.cairnDropFull (s : State) (r : Rec) : State :=
  let s := s.cairnFull.countSat R.CAIRN_DROP_FULL 1
  let s := if s.cairn.dropSeen then s.fput F.CAIRN_DROP_INFO_MAX_SEV (max r.sev (s.fget F.CAIRN_DROP_INFO_MAX_SEV))
    else ((s.put64 R.CAIRN_DROP_TS_LO s.now).fput F.CAIRN_DROP_INFO_MAX_SEV r.sev).cairnSet (fun c => { c with dropSeen := true })
  s.raise Pg.CAIRN Ev.CAIRN_DROP

/-- The record lies in slot `k`: HELD, FILL and NOTIFY (R518). -/
def State.cairnPlace (s : State) (k : Nat) (r : Rec) (fresh : Bool) : State :=
  let s := s.cairnSet (fun c => { c with slots := tabPut c.slots k r })
  let wm := s.fget F.CAIRN_CFG_FILL_WM
  let s := if fresh && wm != 0 && s.cairn.slots.length == wm then s.raise Pg.CAIRN Ev.CAIRN_FILL else s
  if s.fget F.CAIRN_CFG_NOTIFY_SEV ≤ r.sev then s.raise Pg.CAIRN Ev.CAIRN_NOTIFY else s

/-- FULL is set in START, TEST and RECOVERY while no slot is free. -/
def State.cairnFillCheck (s : State) : State :=
  if s.fget F.CAIRN_STAT_MODE != 1 && s.freeSlot.isNone then s.cairnFull else s

/-- A record reaches storage (R507). One whose number the clear mark has reached finds its slot free at once (R503, R513). -/
def State.cairnStore (s : State) (r : Rec) : State :=
  let r := { r with test := s.fget F.CAIRN_STAT_MODE == 2 }
  if r.num ≤ s.cairn.clearMark then s
  else match s.freeSlot with
    | some k => (s.cairnPlace k r true).cairnFillCheck
    | none =>
      if s.fget F.CAIRN_STAT_MODE = 1 then s.cairnDropFull r
      else match oldestBelow r.sev s.cairn.slots with
        | some (k, _) => ((s.cairnPlace k r false).countSat R.CAIRN_OVERWRITTEN 1).cairnFull
        | none => s.cairnDropFull r

/-- The record at the front of the queue is stored; with none, nothing happens. -/
def State.cairnStoreNext (s : State) : State :=
  match s.cairn.queue with
  | [] => s
  | r :: q =>
    let first := if s.cairn.stoCyc = s.cyc then s.cairn.stoFrom else r.num
    (s.cairnSet (fun c => { c with queue := q, stoCyc := s.cyc, stoFrom := first })).cairnStore r

/-- `n` records are stored (R505). -/
def State.cairnFlush (s : State) : Nat → State
  | 0 => s
  | n + 1 => s.cairnStoreNext.cairnFlush n

/-- CAIRN_RECORD_SUBMIT: a block or the anchor submits a record, stamped with the instant of its event. -/
def execCairnRecordSubmit (r : CairnRec) (s : State) : Host.Outcome State Fault Refusal :=
  s.whenAwake fun s => s.submit
    { cls := r.cls.toNat, sev := r.sev.val, comp := r.comp.toNat, time := r.time.toNat, payload := r.payload.take 240 }

/-- CAIRN_RECORD_STORE. -/
def execCairnRecordStore (s : State) : Host.Outcome State Fault Refusal := s.whenAwake State.cairnStoreNext

/-- CAIRN_LOSS (R504): the queue is empty again after drops, and one LOSS record of severity 4 tells of them. -/
def execCairnLoss (s : State) : Host.Outcome State Fault Refusal :=
  s.whenAwake fun s =>
    match s.cairn.queue, s.cairn.lost with
    | [], some (n, a, b, sev) =>
      (s.cairnSet (fun c => { c with lost := none })).noteAs 0x282 4 0 Pg.CAIRN noBit
        (natLe 4 n ++ natLe 8 a ++ natLe 8 b ++ [BitVec.ofNat 8 sev])
    | _, _ => s

/-- CAIRN_INDEX_READY (R503): the index is rebuilt after a reset and one INDEX record gives the number of records found. -/
def execCairnIndexReady (s : State) : Host.Outcome State Fault Refusal :=
  s.whenAwake fun s =>
    if s.fset F.CAIRN_STAT_INDEX_READY then s
    else (s.fput F.CAIRN_STAT_INDEX_READY 1).cairnFillCheck.noteAs 0x283 (recSev Pg.CAIRN 0x283) 0 Pg.CAIRN noBit
      (natLe 4 s.cairn.slots.length)

/-! ### Modes and clearing (R506, R513) -/

/-- A change of mode, with its MODE record. -/
def State.cairnMode (s : State) (m : Nat) : State :=
  (s.fput F.CAIRN_STAT_MODE m).cairnFillCheck.noteAs 0x281 (recSev Pg.CAIRN 0x281) 0 Pg.CAIRN noBit []

/-- CMD with OP TEST_ENTER. -/
def State.cairnTestEnter (s : State) : State :=
  let lc := s.fget F.RST_LC_STAT_STATE
  if s.fget F.CAIRN_STAT_MODE = 1 ∧ (lc = 0 ∨ lc = 3) then s.cairnMode 2 else s.flag F.CAIRN_FAULT_BAD_CMD

/-- CMD with OP TEST_LEAVE. -/
def State.cairnTestLeave (s : State) : State :=
  if s.fget F.CAIRN_STAT_MODE = 2 then s.cairnMode 1 else s.flag F.CAIRN_FAULT_BAD_CMD

/-- Number of the last record accepted before this CK_FAB cycle: one accepted in the cycle of a clear is kept (R517). -/
def State.acceptedTo (s : State) : Nat := (if s.cairn.accCyc = s.cyc then s.cairn.accFrom else s.cairn.nextNum) - 1

/-- CMD with OP CLEAR. The clear mark stops short of the records accepted in the grant cycle, as R517 keeps them, where R513 alone would reach them
(DEDUCED, log entry 67). -/
def State.cairnClear (s : State) (req : Req) : State :=
  let limit := s.pair R.CAIRN_CLEAR_TO_LO R.CAIRN_CLEAR_TO_HI
  let kept := s.cairn.slots.filter (fun e => decide (limit < e.2.num))
  let removed := s.cairn.slots.length - kept.length
  let mark := max s.cairn.clearMark (min limit s.acceptedTo)
  let s := s.cairnSet (fun c => { c with slots := kept, clearMark := mark })
  let s := if removed = 0 then s else s.fput F.CAIRN_STAT_FULL 0
  s.noteAs 0x280 5 0 Pg.CAIRN noBit (natLe 8 limit ++ natLe 4 removed ++ [BitVec.ofNat 8 (reqCode req), BitVec.ofNat 8 (s.compOf req)])

/-- A write of CAIRN.CMD. -/
def State.cairnCmd (s : State) (req : Req) (v : Word) : State :=
  if fieldOf F.CAIRN_CMD_KEY v ≠ 0xCA1E then s.flag F.CAIRN_FAULT_BAD_KEY
  else match fieldOf F.CAIRN_CMD_OP v with
    | 1 => s.cairnClear req
    | 2 => s.cairnTestEnter
    | 3 => s.cairnTestLeave
    | _ => s.flag F.CAIRN_FAULT_BAD_CMD

/-- CLEAR: the write of CMD with its key and OP 1. -/
def execClear (req : Req) (s : State) : Host.Outcome State Fault Refusal := s.regCmd req R.CAIRN_CMD (fun s => s.cairnClear req)
/-- TEST_ENTER: OP 2. -/
def execTestEnter (req : Req) (s : State) : Host.Outcome State Fault Refusal := s.regCmd req R.CAIRN_CMD (fun s => s.cairnTestEnter)
/-- TEST_LEAVE: OP 3. -/
def execTestLeave (req : Req) (s : State) : Host.Outcome State Fault Refusal := s.regCmd req R.CAIRN_CMD (fun s => s.cairnTestLeave)

/-! ### Reader contexts (R508 to R512) -/

/-- The requester that uses context `k`. -/
def ctxReq (k : Nat) : Req := if k = 4 then .anchor else Req.ofCore k

/-- The context that a requester may reach. -/
def ctxOf (req : Req) : Option Nat :=
  match req with
  | .ac0 => some 0 | .ac1 => some 1 | .ac2 => some 2 | .ac3 => some 3 | .anchor => some 4
  | _ => none

def State.ctx (s : State) (k : Nat) : Ctx := s.cairn.ctx.toList.getD k {}

def State.ctxSet (s : State) (k : Nat) (f : Ctx → Ctx) : State :=
  s.cairnSet (fun c => { c with ctx := c.ctx.setIfInBounds k (f (c.ctx.toList.getD k {})) })

/-- A field of a 64-bit word. -/
def bits64 (w : Word64) (hi lo : Nat) : Nat := w.toNat / 2 ^ lo % 2 ^ (hi + 1 - lo)

/-- R510: the record is visible; `comp` is none for the anchor. -/
def recVisible (filter : Word64) (comp : Option Nat) (r : Rec) : Bool :=
  let hi := bits64 filter 41 32
  decide (bits64 filter 2 0 ≤ r.sev) && decide (bits64 filter 25 16 ≤ r.cls) && decide (r.cls ≤ if hi = 0 then 0x3FF else hi)
    && (match comp with
      | none => true
      | some 0 => true
      | some n => r.comp == n)

/-- Whether `a` precedes `b` in the search of OP: the lowest number for FIRST and NEXT, the highest for LAST. -/
def searchBetter (op a b : Nat) : Bool := if op = 3 then decide (b < a) else decide (a < b)

/-- The record that a search finds among the held ones stored by its grant (R510, R511). -/
def cairnSearch (slots : Tab Rec) (op cursor last : Nat) (filter : Word64) (comp : Option Nat) : Option Rec :=
  slots.foldl (fun best e =>
    let r := e.2
    if recVisible filter comp r && decide (r.num ≤ last) && (op != 2 || decide (cursor < r.num)) then
      match best with
      | none => some r
      | some b => if searchBetter op r.num b.num then some r else best
    else best) none

/-- Number of the last record that storage had been given by the end of the cycle before: those in the queue come after it (R511, R517). -/
def State.storedTo (s : State) : Nat :=
  if s.cairn.stoCyc = s.cyc then s.cairn.stoFrom - 1
  else match s.cairn.queue with
    | [] => s.cairn.nextNum - 1
    | r :: _ => r.num - 1

/-- A search is granted: BUSY, with the compartment and the records of its grant. A command while BUSY sets RESULT 3. The search reads CURSOR and FILTER, and
which of those records are still held, as it completes; SUBMIT completes at its grant (DESIGN CHOICE, log entry 67). -/
def State.ctxSearch (s : State) (k op : Nat) : State :=
  if (s.ctx k).busy.isSome then s.ctxSet k (fun c => { c with result := 3 })
  else
    let comp := if k = 4 then none else some (s.compOf (ctxReq k))
    s.ctxSet k (fun c => { c with busy := some (op, comp, s.storedTo) })

/-- A search completes: WIN, NUM, CURSOR and STAT change together. -/
def State.ctxDone (s : State) (k : Nat) : State :=
  match (s.ctx k).busy with
  | none => s
  | some (op, comp, last) =>
    match cairnSearch s.cairn.slots op (s.ctx k).cursor last (s.ctx k).filter comp with
    | some r => s.ctxSet k (fun c => { c with win := some r, num := r.num, cursor := r.num, result := 1, busy := none })
    | none => s.ctxSet k (fun c => { c with result := 2, busy := none })

/-- The bytes of SUB. -/
def Ctx.subBytes (c : Ctx) (i n : Nat) : List Byte := (List.range n).map (fun j => tabGet (fun _ => 0) c.sub (i + j))

/-- SUBMIT (R512). -/
def State.ctxSubmit (s : State) (k : Nat) : State :=
  let c := s.ctx k
  if c.busy.isSome then s.ctxSet k (fun c => { c with result := 3 })
  else
    let h : Word64 := BitVec.ofNat 64 (leNat (c.subBytes 0 8))
    let len := bits64 h 7 0
    let cls := bits64 h 17 8
    let comp := s.compOf (ctxReq k)
    let time := leNat (c.subBytes 8 8)
    let bad := (decide (cls < 0x300) && k != 4) || decide (240 < len) || (k != 4 && comp != 0)
    let full := decide (queueSize ≤ s.cairn.queue.length)
    let r : Rec := { cls := cls, sev := bits64 h 20 18, comp := comp, fw := true, time := if time = 0 then s.now else time,
                     payload := c.subBytes 16 len }
    if bad then (s.flag F.CAIRN_FAULT_SUB_REFUSED).ctxSet k (fun c => { c with result := 3 })
    else if full then ((s.submit r).flag F.CAIRN_FAULT_SUB_REFUSED).ctxSet k (fun c => { c with result := 3 })
    else (s.submit r).ctxSet k (fun c => { c with result := 1 })

/-- CMPT on a Cairn reader window: in BASE not at all (R464, R508). -/
def State.ctxOpen (s : State) (k : Nat) : Bool := (s.session (ctxReq k)).isSome

/-- A store of a whole aligned word to CMD. -/
def State.ctxCmd (s : State) (k op : Nat) : State :=
  match op with
  | 1 => s.ctxSearch k 1
  | 2 => s.ctxSearch k 2
  | 3 => s.ctxSearch k 3
  | 4 => s.ctxSubmit k
  | _ => s

def ctxBase (k : Nat) : Nat := 0x10EC0000 + 0x400 * k

/-- A command of context `k` through its CMD word, with CMPT's check. -/
def State.ctxCommand (s : State) (k op : Nat) : State :=
  if s.ctxOpen k then { s.ctxCmd k op with resp := .data 0 }
  else s.memDeny (ctxReq k) true 9 k (ctxBase k + 0x110)

/-- FIRST. -/
def execFirst (k : Fin 5) (s : State) : Host.Outcome State Fault Refusal := s.whenAwake fun s => s.ctxCommand k 1
/-- NEXT. -/
def execNext (k : Fin 5) (s : State) : Host.Outcome State Fault Refusal := s.whenAwake fun s => s.ctxCommand k 2
/-- LAST. -/
def execLast (k : Fin 5) (s : State) : Host.Outcome State Fault Refusal := s.whenAwake fun s => s.ctxCommand k 3
/-- SUBMIT. -/
def execSubmit (k : Fin 5) (s : State) : Host.Outcome State Fault Refusal := s.whenAwake fun s => s.ctxCommand k 4
/-- CAIRN_SEARCH_DONE: at most 3 µs after the grant. -/
def execCairnSearchDone (k : Fin 5) (s : State) : Host.Outcome State Fault Refusal := s.whenAwake fun s => s.ctxDone k

/-- A reset or a switch of the core leaves its context reading 0 and abandons its command (R508). -/
def State.ctxClear (s : State) (k : Nat) : State := s.ctxSet k (fun _ => {})

/-- A byte of a context, as a load sees it (R509). -/
def Ctx.byte (c : Ctx) (o : Nat) : Byte :=
  if o < 0x100 then (match c.win with | some r => (recBytes r).getD o 0 | none => 0)
  else if o < 0x108 then (natLe 8 c.num).getD (o - 0x100) 0
  else if o < 0x110 then (natLe 8 c.cursor).getD (o - 0x108) 0
  else if o < 0x118 then 0
  else if o < 0x120 then
    (natLe 8 (boolNat c.busy.isSome + 2 * boolNat c.win.isSome + 4 * c.result)).getD (o - 0x118) 0
  else if o < 0x128 then (natLe 8 c.filter.toNat).getD (o - 0x120) 0
  else if 0x200 ≤ o ∧ o < 0x300 then tabGet (fun _ => 0) c.sub (o - 0x200)
  else 0

/-- A load of `n` bytes at offset `o`. -/
def Ctx.bytes (c : Ctx) (o n : Nat) : List Byte := (List.range n).map (fun j => c.byte (o + j))

/-- A store to offset `o` of context `k` by `req` (R509): a narrower store to CURSOR, CMD or FILTER is refused. -/
def State.ctxStore (s : State) (req : Req) (k o n : Nat) (v : Word64) : State :=
  let done (s : State) : State := { s with resp := .data 0 }
  if 0x200 ≤ o ∧ o < 0x300 then
    done (s.ctxSet k (fun c => { c with
      sub := (List.range n).foldl (fun t j => tabSet (fun _ => (0 : Byte)) t (o - 0x200 + j) ((natLe n v.toNat).getD j 0)) c.sub }))
  else if o / 8 * 8 = 0x108 ∨ o / 8 * 8 = 0x110 ∨ o / 8 * 8 = 0x120 then
    if n = 8 ∧ o % 8 = 0 then
      if o = 0x108 then done (s.ctxSet k (fun c => { c with cursor := v.toNat }))
      else if o = 0x110 then done (s.ctxCmd k (bits64 v 2 0))
      else done (s.ctxSet k (fun c => { c with filter := v &&& 0x000003FF03FF0007 }))
    else s.memFault req true (ctxBase k + o)
  else done s

/-! ### Point-level events (R514 to R516) -/

def divFloor (a b : Int) : Int := a.fdiv b

/-- Width of a histogram bin (R515). -/
def binWidth (lo hi : Int) : Int := -(divFloor (-(hi - lo)) 16)

/-- Bin of value `v`. -/
def binOf (lo hi v : Int) : Nat := (clampI 0 15 (divFloor (v - lo) (binWidth lo hi))).toNat

def sat32 (n : Nat) : Nat := min n 0xFFFFFFFF

/-- TYPE F32 of a point (R259). -/
def typeF32 : Nat := 5

/-- The units in which an F32 value is a whole number: the smallest of them is 2^−149. -/
def floatUnit : Int := 2 ^ 149

/-- An F32 value is a number or an infinity. -/
def floatOrdered (v : Word) : Bool := v.toNat / 2 ^ 23 % 256 != 255 || v.toNat % 2 ^ 23 == 0

/-- An F32 value in units of 2^−149; an infinity lies beyond every number. -/
def floatValue (v : Word) : Int :=
  let e := v.toNat / 2 ^ 23 % 256
  let m := v.toNat % 2 ^ 23
  let x : Int := ((if e = 0 then m else (2 ^ 23 + m) * 2 ^ (e - 1) : Nat) : Int)
  if v.msb then -x else x

/-- A point as a number, by its TYPE (R259): BOOL and the unsigned types have no sign, an F32 value counts in units of 2^−149. -/
def pointNumber (ptype : Nat) (v : Word) : Int :=
  if ptype = 1 ∨ ptype = 3 then v.toInt else if ptype = typeF32 then floatValue v else (v.toNat : Int)

/-- An F32 value that is not a number lies neither below nor above another. -/
def pointLess (ptype : Nat) (a b : Word) : Bool :=
  (ptype != typeF32 || (floatOrdered a && floatOrdered b)) && decide (pointNumber ptype a < pointNumber ptype b)

/-- The bin of a value of a point (R515); that of an F32 value which is not a number is open (log entry 11). -/
def pointBin (ptype : Nat) (lo hi : Int) (w : Word) : Nat :=
  if ptype = typeF32 then
    (if floatOrdered w then (clampI 0 15 (divFloor (floatValue w - lo * floatUnit) (binWidth lo hi * floatUnit))).toNat else Config.nanBin w % 16)
  else binOf lo hi (pointNumber ptype w)

/-- A summary after a change to value `w` with quality `q` at time `t`. -/
def Summary.change (x : Summary) (ptype : Nat) (lo hi : Int) (w : Word) (bad : Bool) (t : Nat) : Summary :=
  let x := { x with nEvt := sat32 (x.nEvt + 1) }
  if bad then { x with nBad := sat32 (x.nBad + 1) }
  else
    let b := pointBin ptype lo hi w
    let x := { x with bins := x.bins.setIfInBounds b (sat32 (x.bins.toList.getD b 0 + 1)) }
    let x := if pointLess ptype w x.min then { x with min := w, tMin := t } else x
    if pointLess ptype x.max w then { x with max := w, tMax := t } else x

/-- The payload of a summary record. -/
def summaryPayload (pid : Nat) (x : Summary) (open_ : Nat) (stepped isPartial : Bool) : List Byte :=
  natLe 2 pid ++ natLe 2 (boolNat stepped + 2 * boolNat isPartial) ++ natLe 4 x.nEvt ++ natLe 8 open_
    ++ natLe 4 x.min.toNat ++ natLe 4 x.max.toNat ++ natLe 8 x.tMin ++ natLe 8 x.tMax
    ++ x.bins.toList.flatMap (natLe 4)

/-- Length of a summary interval in ns: 60 to 3,600 s, clamped (R519). -/
def State.sumLength (s : State) : Nat := clampN 60 3600 (s.fget F.CAIRN_SUM_CFG_INTERVAL_S) * 1000000000

/-- The first multiple of the interval length above module time `t`. -/
def State.sumBoundary (s : State) (t : Nat) : Nat := (t / s.sumLength + 1) * s.sumLength

/-- An interval opens at module time `t`. -/
def State.sumOpenAt (s : State) (t : Nat) (stepped isPartial : Bool) : State :=
  let e := s.sumBoundary t
  s.cairnSet (fun c => { c with sums := [], sumOpen := t, sumEnd := e, sumStepped := stepped, sumPartial := isPartial })

/-- The interval closes at module time `t`: one record for each point that changed, in PID order. -/
def State.sumClose (s : State) (t : Nat) : State :=
  s.cairn.sums.foldl (fun s (pid, x) =>
    if x.nEvt = 0 then s
    else s.submit { cls := 0x2C1, sev := 1, comp := tabGet (fun _ => 0) s.ownPoints pid, summary := true, time := t,
                    payload := summaryPayload pid x s.cairn.sumOpen s.cairn.sumStepped s.cairn.sumPartial }) s

/-- The module keeps the logged points: it is neither STANDBY nor WAIT (R477). -/
def State.isActive (s : State) : Bool := decide (s.fget F.BEL_ROLE_ROLE < 2)

/-- POINT_SUMMARY (R515): the nominal end of the interval comes; the summaries are written and the next interval opens. -/
def execPointSummary (s : State) : Host.Outcome State Fault Refusal :=
  s.whenAwake fun s =>
    if s.fset F.CAIRN_STAT_SUMMIT && s.isActive then
      let e := s.cairn.sumEnd
      s.atInstant e fun s => (s.sumClose e).sumOpenAt e false false
    else s

end Sys2Proof.Machine
end

