-- ==== Sys2Proof/Machine/Ecc.lean ====
section
/-! DEFINITION. SECDED words, their correction and counting, the scrubbers and the checker self-test (04 R130 to R142). -/
namespace Sys2Proof.Machine

/-- The ECC instance of a memory address (R105, R21, R23); none for MRAM and everything else. -/
def eccInst (a : Nat) : Option Nat :=
  if 0x10000000 ≤ a ∧ a < 0x10400000 then some 0
  else if 0x10400000 ≤ a ∧ a < 0x10800000 then some 1
  else if 0x10800000 ≤ a ∧ a < 0x10A00000 then some 2
  else if 0x10A00000 ≤ a ∧ a < 0x10B00000 then some 3
  else if 0x10B00000 ≤ a ∧ a < 0x10F00000 then some 4
  else if 0x10F00000 ≤ a ∧ a < 0x10F80000 then some 5
  else if 0x10F80000 ≤ a ∧ a < 0x11000000 then some 6
  else if 0x100000000 ≤ a ∧ a < 0x300000000 then some 7
  else none

/-- First address and number of 64-bit words of instance `n`'s memory. -/
def eccRegion (n : Nat) : Nat × Nat :=
  match n with
  | 0 => (0x10000000, 0x80000) | 1 => (0x10400000, 0x80000) | 2 => (0x10800000, 0x40000) | 3 => (0x10A00000, 0x20000)
  | 4 => (0x10B00000, 0x80000) | 5 => (0x10F00000, 0x10000) | 6 => (0x10F80000, 0x10000) | _ => (0x100000000, 0x40000000)

/-- The test word of instance `n` (R139). -/
def eccTestWord (n : Nat) : Nat :=
  match n with
  | 5 => 0x10F7FFF8
  | 7 => 0x210000000
  | _ => (eccRegion n).1

/-- Positions of the flipped bits of a word. -/
def flippedBits (f : BitVec 72) : List Nat := (List.range 72).filter (fun i => f.getLsbD i)

/-- What the code makes of a stored word (R130, R131). -/
inductive EccVerdict where
  | valid
  | single (bit : Nat)
  | uncorrectable
deriving DecidableEq, Repr

/-- A word with data `d` and flipped bits `f`: one flip is corrected, two are uncorrectable, and so is a word stored as all zeros; what the
code makes of three or more is open (log entry 7). -/
def eccJudge (d : Word64) (f : BitVec 72) : EccVerdict :=
  if d = 0 ∧ f = 0xFF0000000000000000 then .uncorrectable
  else match flippedBits f with
    | [] => .valid
    | [i] => .single i
    | [_, _] => .uncorrectable
    | _ =>
      match Config.eccManyBits f % 3 with
      | 0 => .valid
      | 1 => .single (Config.eccWrongBit f % 72)
      | _ => .uncorrectable

/-- The stored word that holds address `a`. -/
def wordBase (a : Nat) : Nat := a / 8 * 8

def State.flipsAt (s : State) (a : Nat) : BitVec 72 := tabGet (fun _ => 0) s.ecc (wordBase a)

/-- The 64-bit word last written at `a`. -/
def State.dataAt (s : State) (a : Nat) : Word64 := BitVec.ofNat 64 (s.le (wordBase a) 8)

def State.eccAt (s : State) (a : Nat) : EccVerdict := eccJudge (s.dataAt a) (s.flipsAt a)

/-- What a read of the word returns after correction: with three or more flips, the bits that the code leaves. -/
def State.readWord (s : State) (a : Nat) : Word64 :=
  match flippedBits (s.flipsAt a), s.eccAt a with
  | _ :: _ :: _ :: _, .valid => s.dataAt a ^^^ (s.flipsAt a).truncate 64
  | _ :: _ :: _ :: _, .single i => s.dataAt a ^^^ (s.flipsAt a).truncate 64 ^^^ (BitVec.ofNat 72 (2 ^ i)).truncate 64
  | _, _ => s.dataAt a

/-- The bits that a read of the word delivers where it goes on whatever the verdict is: the corrected word, or the stored bits of an uncorrectable one. -/
def State.storedWord (s : State) (a : Nat) : Word64 :=
  if s.eccAt a = .uncorrectable then s.dataAt a ^^^ (s.flipsAt a).truncate 64 else s.readWord a

/-! ### Counting (R135, R136) -/


/-- CE_THRESH when the bucket has reached THRESH while armed; re-arming at THRESH / 2 or below. -/
def State.bucketCheck (s : State) (n : Nat) : State :=
  let b := s.fget (F.ECC_BUCKET_LEVEL n)
  let t := s.fget (F.ECC_BUCKET_CFG_THRESH n)
  let x := s.eccx.toList.getD n {}
  let arm (v : Bool) (s : State) : State := { s with eccx := s.eccx.setIfInBounds n { x with armed := v } }
  if x.armed && decide (t ≤ b) then arm false (s.raise (Pg.ECC n) Ev.ECC_CE_THRESH)
  else if decide (b ≤ t / 2) then arm true s
  else s

/-- A correctable error of bit `bit` of the word at `a`, found by `req` or by the scrubber. -/
def State.eccCorrected (s : State) (n a bit : Nat) (req : Req) (scrub : Bool) : State :=
  let s := s.countSat (R.ECC_CE_TOTAL n) 1
  let s := s.addSat (F.ECC_BUCKET_LEVEL n) 1
  let s := s.setPair (R.ECC_CE_ADDR_LO n) (R.ECC_CE_ADDR_HI n) (wordBase a)
  let s := ((s.fput (F.ECC_CE_INFO_SCRUB n) (boolNat scrub)).fput (F.ECC_CE_INFO_REQ n) (if scrub then 0 else reqCode req)).fput
    (F.ECC_CE_INFO_BIT n) bit
  s.bucketCheck n

/-- An uncorrectable error: counted, the first captured while CAPT = 0, and UE set (R131, R141). -/
def State.eccUncorrectable (s : State) (n a : Nat) (req : Req) (scrub write : Bool) : State :=
  let s := s.countSat (R.ECC_UE_COUNT n) 1
  let s :=
    if s.fset (F.ECC_UE_INFO_CAPT n) then s.fput (F.ECC_UE_INFO_MORE n) 1
    else
      let s := s.setPair (R.ECC_UE_ADDR_LO n) (R.ECC_UE_ADDR_HI n) (wordBase a)
      let s := (s.fput (F.ECC_UE_INFO_CAPT n) 1).fput (F.ECC_UE_INFO_SCRUB n) (boolNat scrub)
      (s.fput (F.ECC_UE_INFO_REQ n) (if scrub then 0 else reqCode req)).fput (F.ECC_UE_INFO_WRITE n) (boolNat write)
  s.raise (Pg.ECC n) Ev.ECC_UE

/-- The check that every read of the word at `a` makes; the verdict comes with the state. -/
def State.eccRead (s : State) (a : Nat) (req : Req) : EccVerdict × State :=
  match eccInst a with
  | none => (.valid, s)
  | some n =>
    match s.eccAt a with
    | .valid => (.valid, s)
    | .single i => (.single i, s.eccCorrected n a i req false)
    | .uncorrectable => (.uncorrectable, s.eccUncorrectable n a req false false)

/-- The words of `n` bytes from `a` on are read by `req`: each is checked, and the answer is true when none of them is uncorrectable. -/
def State.eccScan (s : State) (req : Req) : List Nat → Bool × State
  | [] => (true, s)
  | a :: l =>
    match s.eccRead a req with
    | (.uncorrectable, s) => let (_, s) := s.eccScan req l; (false, s)
    | (_, s) => s.eccScan req l

/-- Addresses of the 64-bit words that hold `n` bytes from `a` on. -/
def wordsIn (a n : Nat) : List Nat := (List.range ((a % 8 + n + 7) / 8)).map (fun i => a / 8 * 8 + 8 * i)

/-- A block reads `n` bytes from `a` on (R131): the bytes after correction, none where a word is uncorrectable, and the state with what the check counted. -/
def State.blockRead (s : State) (req : Req) (a n : Nat) : Option (List Byte) × State :=
  let (ok, t) := s.eccScan req (wordsIn a n)
  (if ok then some ((((wordsIn a n).flatMap (fun w => natLe 8 (s.readWord w).toNat)).drop (a % 8)).take n) else none, t)

/-- Flips recorded for the word at `a`; none is not listed. -/
def State.setFlips (s : State) (a : Nat) (f : BitVec 72) : State :=
  { s with ecc := tabSet (fun _ => (0 : BitVec 72)) s.ecc (wordBase a) f }

/-- The flips of an armed test on this word, which the write uses up (R142). -/
def State.testFlips (s : State) (a : Nat) : BitVec 72 × State :=
  match eccInst a with
  | none => (0, s)
  | some n =>
    if s.fset (F.ECC_TEST_CTL_ARM n) && wordBase (s.pair (R.ECC_TEST_ADDR_LO n) (R.ECC_TEST_ADDR_HI n)) == wordBase a then
      let f := BitVec.ofNat 72 (s.pair (R.ECC_TEST_FLIP_LO n) (R.ECC_TEST_FLIP_HI n) + s.fget (F.ECC_TEST_CTL_CHECK_FLIP n) * 2 ^ 64)
      (f, s.fput (F.ECC_TEST_CTL_ARM n) 0)
    else (0, s)

/-- A write of one whole aligned word: new valid check bits end any error (R131, R132). -/
def State.storeWord (s : State) (a : Nat) (v : Word64) : State :=
  let (f, s) := s.testFlips a
  (s.setLe (wordBase a) 8 v.toNat).setFlips a f

/-- The new bytes merged into the word that the code made of the stored one, written back with new check bits (R132). -/
def State.mergeWord (s : State) (a n v : Nat) : State :=
  (((s.setLe (wordBase a) 8 (s.readWord a).toNat).setFlips a 0).setLe a n v)

/-- A write narrower than 64 bits as a read-modify-write (R132, R134): false when the controller discards it. -/
def State.storeNarrow (s : State) (a n : Nat) (v : Nat) (req : Req) : Bool × State :=
  match eccInst a with
  | none => (true, s.setLe a n v)
  | some i =>
    match s.eccAt a with
    | .valid => (true, s.mergeWord a n v)
    | .single b => (true, (s.mergeWord a n v).eccCorrected i a b req false)
    | .uncorrectable => (false, s.eccUncorrectable i a req false true)

/-- What a store of bytes `l` at `a` puts into the word at `w`: all of it, or a read-modify-write; an MRAM word is written anew (R131, R132). -/
def State.putPart (s : State) (req : Req) (a : Nat) (l : List Byte) (w : Nat) : State :=
  let lo := max a w
  let hi := min (a + l.length) (w + 8)
  let part := (l.drop (lo - a)).take (hi - lo)
  let s : State := { s with mramBad := s.mramBad.filter (· != w) }
  if part.length = 8 then s.storeWord w (BitVec.ofNat 64 (leNat part)) else (s.storeNarrow lo part.length (leNat part) req).2

/-- A block or the anchor stores bytes: whole words go in with new check bits, and what it covers of a word at either end is merged there. -/
def State.putBytes (s : State) (req : Req) (a : Nat) (l : List Byte) : State := (wordsIn a l.length).foldl (fun s w => s.putPart req a l w) s

/-- One byte of a store that covers whole words. -/
def State.putByte (s : State) (a : Nat) (v : Byte) : State := (s.setByte a v).setFlips a 0

/-- The device can correct every MRAM word of `n` bytes from `a` on (R131). -/
def State.mramOk (s : State) (a n : Nat) : Bool := (wordsIn a n).all (fun w => !s.mramBad.contains w)

/-! ### The commands of the ECC pages -/

/-- CK_FAB cycle at which the next leak of instance `n` falls: a multiple of LEAK_S seconds after reset. -/
def State.nextLeak (s : State) (n : Nat) : Nat :=
  let p := cycS (s.fget (F.ECC_BUCKET_CFG_LEAK_S n))
  p * ((s.eccx.toList.getD n {}).leaks + 1)

/-- ECC_BUCKET_LEAK (R135): LEAK_S seconds pass and the bucket loses 1; with LEAK_S = 0 there is no leak. -/
def execEccBucketLeak (n : Fin 8) (s : State) : Host.Outcome State Fault Refusal :=
  s.whenLive fun s =>
    if s.fget (F.ECC_BUCKET_CFG_LEAK_S n) = 0 then s
    else
      let x := s.eccx.get n
      let s := s.reachCyc (s.nextLeak n)
      let s := { s with eccx := s.eccx.set n { x with leaks := s.cyc / cycS (s.fget (F.ECC_BUCKET_CFG_LEAK_S n)) } }
      (s.fput (F.ECC_BUCKET_LEVEL n) (s.fget (F.ECC_BUCKET_LEVEL n) - 1)).bucketCheck n

/-- SCRUB_WORD (R137): the next word in address order is read; a correctable error is written back, an uncorrectable one recorded. The write-back is a
whole-word write, and uses up an armed test of that word (R142 does not say whether it does). DESIGN CHOICE, log entry 48. -/
def execScrubWord (n : Fin 8) (s : State) : Host.Outcome State Fault Refusal :=
  s.whenAwake fun s =>
    let x := s.eccx.get n
    let (base, words) := eccRegion n
    let a := base + 8 * (x.scrubPos % words)
    let s := { s with eccx := s.eccx.set n { x with scrubPos := (x.scrubPos + 1) % words } }
    match s.eccAt a with
    | .valid => s
    | .single i => (s.eccCorrected n a i .anchor true).storeWord a (s.readWord a)
    | .uncorrectable => s.eccUncorrectable n a .anchor true false

/-- CK_FAB cycles of a scrub pass of instance `n`: a SCRUB_PERIOD below the minimum is taken as the minimum in use, and reads back as written (R142; how
it reads back is open: DESIGN CHOICE, log entry 48). -/
def State.scrubPeriod (s : State) (n : Nat) : Nat := cycS (max (s.fget (F.ECC_SCRUB_PERIOD_SECONDS n)) (if n = 7 then 60 else 1))

/-- The scrub pass in progress has not completed within its period (R138). -/
def State.scrubLate (s : State) (n : Nat) : Bool := decide ((s.eccx.toList.getD n {}).passStart + s.scrubPeriod n < s.cyc)

/-- SCRUB_PASS_DONE (R138): the pass is counted, and SCRUB_LATE tells whether it took longer than SCRUB_PERIOD. -/
def execScrubPassDone (n : Fin 8) (s : State) : Host.Outcome State Fault Refusal :=
  s.whenAwake fun s =>
    let x := s.eccx.get n
    let period := s.scrubPeriod n
    let late := s.scrubLate n
    let s := { s with eccx := s.eccx.set n { x with scrubPos := 0, passStart := if late then s.cyc else x.passStart + period } }
    (s.countSat (R.ECC_SCRUB_PASS n) 1).fput (F.ECC_STAT_SCRUB_LATE n) (boolNat late)

/-- A write of BUCKET_CFG (R136, R141): THRESH 0 is taken as 1; THRESH below the bucket while armed sets CE_THRESH at once. A THRESH raised to twice the
bucket or more does not itself re-arm the instance; the next gain or leak does (DESIGN CHOICE, log entry 48). -/
def State.bucketCfg (s : State) (n : Nat) (v : Word) : State :=
  let t := max 1 (fieldOf (F.ECC_BUCKET_CFG_THRESH n) v)
  let s := s.fput (F.ECC_BUCKET_CFG_LEAK_S n) (fieldOf (F.ECC_BUCKET_CFG_LEAK_S n) v)
  let s := s.fput (F.ECC_BUCKET_CFG_THRESH n) t
  let x := s.eccx.toList.getD n {}
  let s := { s with eccx := s.eccx.setIfInBounds n { x with leaks := s.cyc / cycS (max 1 (s.fget (F.ECC_BUCKET_CFG_LEAK_S n))) } }
  if x.armed && decide (t < s.fget (F.ECC_BUCKET_LEVEL n)) then
    { s.raise (Pg.ECC n) Ev.ECC_CE_THRESH with
      eccx := s.eccx.setIfInBounds n { (s.eccx.toList.getD n {}) with armed := false } }
  else s

/-- BUCKET_CFG_WRITE. -/
def execBucketCfgWrite (req : Req) (n : Fin 8) (value : Word) (s : State) : Host.Outcome State Fault Refusal :=
  s.regCmd req (R.ECC_BUCKET_CFG n) (fun s => s.bucketCfg n value)

/-- Step `k` of R116 is complete: BOOT_STAT.STAGE reports the last one. -/
def State.stageDone (s : State) (k : Nat) : State := s.fput F.RST_BOOT_STAT_STAGE (max k (s.fget F.RST_BOOT_STAT_STAGE))

/-- One test of R139: the word is written with the flips, and read; the verdict expected of the checker, and the data where it corrects. -/
def State.selfTest (s : State) (a : Nat) (d : Word64) (flips : BitVec 72) (want : EccVerdict) : Bool × State :=
  let s := (s.setLe a 8 d.toNat).setFlips a flips
  let (got, t) := s.eccRead a .anchor
  (decide (got = want) && (want == .uncorrectable || decide (s.readWord a = d)), t)

/-- The four patterns of R139 on the test word of instance `n`, one after the other. -/
def State.selfTests (s : State) (n : Nat) : Bool × State :=
  let a := eccTestWord n
  let (r1, s) := s.selfTest a 0x0123456789ABCDEF 1 (.single 0)
  let (r2, s) := s.selfTest a 0x0123456789ABCDEF 0x800000000000000000 (.single 71)
  let (r3, s) := s.selfTest a 0x0123456789ABCDEF 0x008000000000000001 .uncorrectable
  let (r4, s) := s.selfTest a 0 0xFF0000000000000000 .uncorrectable
  (r1 && r2 && r3 && r4, s)

/-- The step at which the checker of instance `n` is tested (R116, R139), and not before: ECC0 to ECC6 after the SRAM wipe, ECC7 after them. -/
def State.selfTestDue (s : State) (n : Nat) : Bool :=
  !s.boot.sramWiping && !s.boot.tested.contains n && s.fget F.RST_BOOT_STAT_STAGE == (if n = 7 then 4 else 3)

/-- ECC_SELFTEST (R139, R140) of instance `n` at its step; `pass` is false where the checker itself is broken and a test reports otherwise than the code
would. On passing, SELFTEST_OK; on failing, ECC_FAIL and SELFTEST_FAIL, a record and a report on the console. The test word is left 0 with valid check
bits and the counters, bucket, capture and events at 0; the patterns go straight to the word, so the test registers keep their values (log entry 48). -/
def State.eccSelftest (s : State) (n : Fin 8) (pass : Bool) : State :=
    let a := eccTestWord n
    let (good, s) := s.selfTests n
    let pass := pass && good
    let s := (s.setLe a 8 0).setFlips a 0
    let s := (((s.wr (R.ECC_CE_TOTAL n) 0).wr (R.ECC_BUCKET n) 0).wr (R.ECC_CE_INFO n) 0).setPair (R.ECC_CE_ADDR_LO n) (R.ECC_CE_ADDR_HI n) 0
    let s := (((s.wr (R.ECC_UE_COUNT n) 0).wr (R.ECC_UE_INFO n) 0).setPair (R.ECC_UE_ADDR_LO n) (R.ECC_UE_ADDR_HI n) 0).wr (R.INT_RAW (Pg.ECC n)) 0
    let s := { s with eccx := s.eccx.set n { s.eccx.get n with armed := true } }
    let s := { s with boot := { s.boot with tested := n.val :: s.boot.tested.filter (· != n.val) } }
    let s := if (List.range 7).all s.boot.tested.contains then s.stageDone 4 else s
    let s := if (List.range 8).all s.boot.tested.contains then s.stageDone 5 else s
    if pass then s.fput (F.ECC_STAT_SELFTEST_OK n) 1
    else
      let s := s.fput F.RST_BOOT_STAT_ECC_FAIL (s.fget F.RST_BOOT_STAT_ECC_FAIL ||| 2 ^ n.val)
      let s := (s.fput F.RST_BOOT_STAT_SELFTEST_FAIL 1).note (Pg.ECC n) noBit [BitVec.ofNat 8 n.val]
      { s with console := s.console ++ [.eccFail n.val] }

/-- ECC_SELFTEST. -/
def execEccSelftest (n : Fin 8) (pass : Bool) (s : State) : Host.Outcome State Fault Refusal :=
  s.whenAwake fun s => if s.selfTestDue n then s.eccSelftest n pass else s

end Sys2Proof.Machine
end

