-- ==== Sys2Proof/Machine/Image.lean ====
section
/-! DEFINITION. The I/O image: what readers see of a point, how a source writes it, and the forces (07 R223 to R226, 08 R269 to R277). -/
namespace Sys2Proof.Machine

def pointCount : Nat := 12288

/-- The point's configuration and stored word. -/
def State.point (s : State) (p : Nat) : Point := tabGet (fun _ => {}) s.points p

def State.pointPut (s : State) (p : Nat) (x : Point) : State := { s with points := tabSet (fun _ => ({} : Point)) s.points p x }

def pointAddr (p : Nat) : Nat := 0x10800000 + 8 * p

/-- The ACTIVE force on a point, with its entry. -/
def State.forceOn (s : State) (p : Nat) : Option (Nat × Force) :=
  s.forces.find? (fun e => e.2.status == .active && e.2.pid == p)

/-- The stored word of the point is uncorrectable (R131). Its data bits are taken to be not all zero: which bits the image stores of a point, and so whether
all 72 can read 0 (R130), is open. DESIGN CHOICE, log entry 48. -/
def State.pointBad (s : State) (p : Nat) : Bool :=
  match eccJudge 1 (s.flipsAt (pointAddr p)) with
  | .uncorrectable => true
  | _ => false

/-- The word under any force (R224, R225, R273). -/
def State.underView (s : State) (p : Nat) : View :=
  let x := s.point p
  match x.held with
  | some (v, q, t) => { value := v, q := q, inst := some t }
  | none =>
    if x.src = .none ∨ x.written = false then { value := 0, q := 2 }
    else if s.pointBad p then { value := 0, q := 2, eccErr := true, inst := if x.aged then none else some x.inst }
    else { value := x.value, q := x.q, skew := x.skew, latchMiss := x.latchMiss, init := x.init,
           inst := if x.aged then none else some x.inst }

/-- The word that every reader sees (R224, R272). -/
def State.view (s : State) (p : Nat) : View :=
  match s.forceOn p with
  | some (_, f) => { value := f.value, q := f.q, forced := true, inst := some f.setMono }
  | none => s.underView p

/-- AGE in units of 8.192 µs; it saturates (R226). -/
def State.viewAge (s : State) (v : View) : Nat :=
  match v.inst with
  | none => 0xFFFFFF
  | some t => min 0xFFFFFF ((s.monoNow - t) / 8192)

/-- The 64 bits of a view read now (R224). -/
def State.viewWord (s : State) (v : View) : Word64 :=
  BitVec.ofNat 64 (v.value.toNat + (v.q % 4) * 2 ^ 32 + boolNat v.skew * 2 ^ 34 + boolNat v.latchMiss * 2 ^ 35 + boolNat v.forced * 2 ^ 36
    + boolNat v.init * 2 ^ 37 + boolNat v.eccErr * 2 ^ 38 + s.viewAge v * 2 ^ 40)

/-- The word that a loop evaluation, an input latch, a frame build, a state copy and a core load see: where the point has changed in this CK_FAB cycle, the
word from before the change (R28). -/
def State.seen (s : State) (p : Nat) : View :=
  if s.priorAt = s.cyc then (tabFind s.prior p).getD (s.view p) else s.view p

/-- Point `p` is about to change: what its readers of this cycle see is kept. -/
def State.keepPrior (s : State) (p : Nat) : State :=
  let old : Tab View := if s.priorAt = s.cyc then s.prior else []
  { s with priorAt := s.cyc, prior := if (tabFind old p).isSome then old else tabPut old p (s.view p) }

/-- The point word that a 64-bit read returns. -/
def State.pointWord (s : State) (p : Nat) : Word64 := s.viewWord (s.seen p)

/-! ### Tasks, and releases that fall due (R219, R237, R250) -/

def taskCount : Nat := 48
def isCyclic (t : Nat) : Bool := t < 16

def State.task (s : State) (t : Nat) : Task := tabGet (fun _ => {}) s.tasks t
def State.taskPut (s : State) (t : Nat) (x : Task) : State := { s with tasks := tabSet (fun _ => ({} : Task)) s.tasks t x }
def State.taskSet (s : State) (t : Nat) (f : Task → Task) : State := s.taskPut t (f (s.task t))

/-- The core of task `t`: 0 or 1. -/
def State.taskCore (s : State) (t : Nat) : Nat := s.fget (F.TASK_TCFG_CORE t)

/-- LATCHING, RELEASED, RUNNING or COMMITTING. -/
def TState.busy : TState → Bool
  | .disabled => false | .waiting => false | _ => true

/-- No task is LATCHING, RELEASED, RUNNING or COMMITTING. -/
def State.tasksIdle (s : State) : Bool := s.tasks.all (fun e => !e.2.st.busy)

/-- TASK tests for a quiescent gap in this cycle (R262). -/
def State.gapTest (s : State) : State := { s with ochg := { s.ochg with testAt := some s.cyc } }

/-- BLK_STAT.IDLE follows the task states (R250); where it changes from 0 to 1, TASK tests for a gap. -/
def State.idleUpdate (s : State) : State :=
  let rises := s.tasksIdle && !s.fset F.TASK_STAT_IDLE
  let s := s.fput F.TASK_STAT_IDLE (boolNat s.tasksIdle)
  if rises then s.gapTest else s

/-- A release that is not made is counted for the next header (R228). -/
def State.skip (s : State) (t : Nat) : State := s.taskSet t (fun x => { x with skipped := min 0xFFFF (x.skipped + 1) })

/-- A release falls due while the task is busy, or in the cycle of its publish (R237, R249). -/
def State.overrun (s : State) (t instant : Nat) : State :=
  let c := s.taskCore t
  let s := ((s.countSat (R.TASK_OVR_CNT t) 1).countSat R.TASK_OVR_TOTAL 1).skip t
  (s.raise Pg.TASK (Ev.TASK_OVR_AC0 + c)).warn Pg.TASK (Ev.TASK_OVR_AC0 + c) (natLe 2 t ++ natLe 8 instant ++ natLe 4 (s.task t).cycle)

/-- What becomes of a release of an enabled task that falls due: nothing, a skipped release, an overrun, or a release. -/
inductive Due where
  | none | skip | held | overrun | release
deriving DecidableEq, Repr

def State.dueOf (s : State) (t : Nat) : Due :=
  let x := s.task t
  if s.fset F.TASK_STAT_RELEASE_OK = false ∨ s.isActive = false then .none
  else if s.enabled Pg.TASK = false ∨ s.resting = true then .skip
  else if s.ochg.held then .held
  else if x.st.busy ∨ x.pubAt = some s.cyc then .overrun
  else if x.st = .waiting then .release
  else .none

/-! ### Triggers (R240, R242) -/

/-- Event task `t` has the trigger. -/
def State.trigMatches (s : State) (t kind source : Nat) (detail : Word) : Bool :=
  let arg := s.rd (R.TASK_TRIG_ARG t)
  s.fset (F.TASK_TCFG_EN t) && s.fget (F.TASK_TRIG_KIND t) == kind &&
    match kind with
    | 1 => arg.toNat == source
    | 2 => arg.toNat == source
    | 3 => arg.getLsbD detail.toNat && decide (detail.toNat < 3)
        && (arg.getLsbD 10 || arg.toNat / 256 % 4 == source / 256) && (arg.toNat / 65536 % 256 == 0 || arg.toNat / 65536 % 256 == source % 256)
    | 4 => arg.toNat % 64 == source
    | 5 => arg.toNat % 256 == source
    | _ => true

/-- The event tasks that a trigger is for. -/
def State.trigTasks (s : State) (g : Trig) : List Nat :=
  ((List.range 32).map (· + 16)).filter (fun t =>
    if g.kind = 6 then s.trigMatches t 6 0 0 && t == g.source + 16 else s.trigMatches t g.kind g.source g.detail)

/-- A trigger for task `t` occurs: a waiting task is LATCHING from now on, and `true` is answered; one that EN enabled in this very cycle has none of it
(R242, R248, R249). -/
def State.triggerTask (s : State) (t instant : Nat) : Bool × State :=
  if (s.task t).enAt = some s.cyc then (false, s)
  else match s.dueOf t with
    | .none => (false, s)
    | .skip => (false, s.skip t)
    | .held => (false, { (s.skip t).taskSet t (fun x => { x with heldTrigs := min 0xFFFF (x.heldTrigs + 1) }) with
        ochg := { s.ochg with trigSkip := s.ochg.trigSkip + 1 } })
    | .overrun => (false, s.overrun t instant)
    | .release => (true, (s.taskSet t (fun x => { x with
        st := .latching, relSkipped := 0, relFirst := false, relStepped := false, relBack := false })).idleUpdate)

/-- The tasks of a trigger are judged one after another. -/
def State.triggerAll (s : State) (g : Trig) : List Nat → State
  | [] => if g.tasks.isEmpty then s else { s with trigs := s.trigs ++ [g] }
  | t :: l =>
    let (ok, s) := s.triggerTask t g.time
    s.triggerAll { g with tasks := if ok then g.tasks ++ [t] else g.tasks } l

/-- A trigger reaches TASK: the tasks that it releases wait for their latch cycle, which TASK_TRIGGER brings. -/
def State.trigger (s : State) (kind source : Nat) (detail : Word) (skipped : Bool) : State :=
  let g : Trig := { kind := kind, source := source, detail := detail, skipped := skipped, time := s.now, mono := s.monoNow, tasks := [] }
  s.triggerAll g (s.trigTasks g)

/-! ### Outputs of local I/O (R301, R303, R568) -/

/-- An output pin takes its point's visible word; a BAD word leaves it as it is. The point of an AOUT is of type U16, so its VALUE has no sign (R303, R4). -/
def State.lioPin (s : State) (pin : Nat) (v : View) : State :=
  if v.q = 2 then s
  else if pin < 8 then s
  else if pin < 12 then s.fput (F.LIO_AOUT_CODE (pin - 8)) (min 65535 v.value.toNat)
  else if s.bit R.LIO_DIO_DIR (pin - 12) then s.setBit R.LIO_DIO_OUT (pin - 12) (v.value != 0) else s

/-- The pins whose point is `p`. -/
def State.lioPinsOf (s : State) (p : Nat) : List Nat := (s.lioPids.filter (fun e => e.2 == p)).map (·.1)

def State.lioDrive (s : State) (p : Nat) (v : View) : State :=
  if s.enabled Pg.LIO then (s.lioPinsOf p).foldl (fun s pin => s.lioPin pin v) s else s

/-! ### Changes of the visible word (R240, R301, R514, R515) -/

/-- The summary of a logged point in the interval in progress; the value at the opening is the one seen before its first change. -/
def State.summaryOf (s : State) (p : Nat) (before : Word) : Summary :=
  (tabFind s.cairn.sums p).getD { min := before, max := before, tMin := s.cairn.sumOpen, tMax := s.cairn.sumOpen }

/-- A change of a logged point: a POINT_CHANGE record, or the point's summary at Summit tier; nothing on a standby module. -/
def State.pointLog (s : State) (p : Nat) (b a : View) : State :=
  let x := s.point p
  if x.log && s.isActive then
    if s.fset F.CAIRN_STAT_SUMMIT then
      let m := (s.summaryOf p b.value).change x.ptype x.lo x.hi a.value (a.q == 2) s.now
      s.cairnSet (fun c => { c with sums := tabPut c.sums p m })
    else s.submit { cls := 0x2C0, sev := 1, comp := tabGet (fun _ => 0) s.ownPoints p, time := s.now,
                    payload := natLe 2 p ++ [BitVec.ofNat 8 (a.q % 4 + b.q % 4 * 4 + boolNat a.forced * 16), 0]
                      ++ natLe 4 a.value.toNat ++ natLe 4 b.value.toNat }
  else s

/-- What follows from a change of VALUE or Q; a refresh with the same VALUE and Q is none. -/
def State.pointChanged (s : State) (p : Nat) (b a : View) : State :=
  if b.value = a.value ∧ b.q = a.q then s
  else ((s.lioDrive p a).trigger 1 p a.value false).pointLog p b a

/-- An act on the image that may change point `p` for its readers. -/
def State.pointMod (s : State) (p : Nat) (act : State → State) : State :=
  let b := s.view p
  let s := act (s.keepPrior p)
  s.pointChanged p b (s.view p)

/-- A source writes the point word: valid check bits, no longer aged (R131, R226). An armed ECC test applies to the write (R142). -/
def State.pointStore (s : State) (p : Nat) (f : Point → Point) : State :=
  let (fl, s) := s.testFlips (pointAddr p)
  (s.pointPut p { f (s.point p) with written := true, aged := false }).setFlips (pointAddr p) fl

/-- A source write of VALUE, Q and instant. -/
def State.sourceWrite (s : State) (p : Nat) (v : Word) (q inst : Nat) : State :=
  s.pointMod p (fun s => s.pointStore p (fun x =>
    { x with value := v, q := q, inst := inst, skew := false, latchMiss := false, init := false }))

/-- A 16-bit value, extended as the point's type states (R224). -/
def extend16 (ptype : Nat) (v : Nat) : Word :=
  if ptype = 1 ∨ ptype = 3 then (BitVec.ofNat 16 v).signExtend 32 else BitVec.ofNat 32 (v % 0x10000)

/-- The keeper's visit (R226). -/
def State.keeperVisit (s : State) (p : Nat) : State :=
  let x := s.point p
  if x.written ∧ 0x800000 * 8192 ≤ s.monoNow - x.inst then s.pointPut p { x with aged := true } else s

/-- IMAGE_KEEPER_VISIT: the image keeper visits one point word. -/
def execImageKeeperVisit (pid : Nat) (s : State) : Host.Outcome State Fault Refusal :=
  s.whenAwake fun s => if pid < pointCount then s.keeperVisit pid else s

/-! ### Forces (R269 to R277) -/

def State.force (s : State) (k : Nat) : Force := tabGet (fun _ => {}) s.forces k
def State.forcePut (s : State) (k : Nat) (f : Force) : State := { s with forces := tabSet (fun _ => ({} : Force)) s.forces k f }

/-- FORCE_ACT follows the entries, with its event and pin (R103, R274). -/
def State.forceAct (s : State) : State :=
  let a := s.forces.any (fun e => e.2.status == .active)
  if s.fset F.SYS_STAT_FORCE_ACT = a then s
  else
    let s := (s.fput F.SYS_STAT_FORCE_ACT (boolNat a)).raise Pg.SYS Ev.SYS_FORCE_CHG
    { s with pins := { s.pins with forceActN := !a } }

/-- The record of a setting, change, release or refusal (R274). -/
def State.forceRecord (s : State) (k pid : Nat) (v : Word) : State :=
  s.noteAs (recClass Pg.TASK 0x200) (recSev Pg.TASK 0x200) (tabGet (fun _ => 0) s.ownPoints pid) Pg.SYS noBit
    (natLe 2 pid ++ natLe 2 k ++ natLe 4 v.toNat)

def forcePid (w : Word64) : Nat := bits64 w 15 0
def forceEn (w : Word64) : Bool := w.getLsbD 16
def forceQ (w : Word64) : Nat := min 2 (bits64 w 19 18)
def forceValue (w : Word64) : Word := BitVec.ofNat 32 (bits64 w 63 32)

/-- The words of an entry that a store keeps: reserved bits read 0. -/
def forceWord0 (w : Word64) : Word64 := w &&& 0xFFFFFFFF000DFFFF

/-- The force of entry `k` ends with the given STATUS: a task's point keeps the forced value until its next publish (R273). -/
def State.forceRelease (s : State) (k : Nat) (st : FStatus) : State :=
  let f := s.force k
  s.pointMod f.pid (fun s =>
    let x := s.point f.pid
    let s := s.forcePut k { f with status := st, relTime := s.now }
    match x.src with
    | .task _ => s.pointPut f.pid { x with held := some (f.value, f.q, f.setMono) }
    | _ => s)

/-- Entry `k` takes the force that a copy unit brings (R484): where one ends with it, a task's point keeps the forced value as on the active module
(R273). -/
def State.forceCopied (s : State) (k : Nat) (f : Force) : State :=
  let old := s.force k
  let s := if old.status == .active && !(f.status == .active && f.pid == old.pid) then s.forceRelease k .released else s
  s.pointMod f.pid (fun s =>
    let s := s.forcePut k f
    if f.status = .active then s.pointPut f.pid { s.point f.pid with held := none } else s)

/-- The force of entry `k` starts, or takes a new value (R271). -/
def State.forceSet (s : State) (k : Nat) (w : Word64) : State :=
  s.pointMod (forcePid w) (fun s =>
    let x := s.point (forcePid w)
    (s.pointPut (forcePid w) { x with held := none }).forcePut k
      { word0 := forceWord0 w, status := .active, setTime := s.now, relTime := 0, setMono := s.monoNow,
        pid := forcePid w, value := forceValue w, q := forceQ w })

/-- A store of EN = 1 to an entry that is not ACTIVE (R270, R271). -/
def State.forceTry (s : State) (k : Nat) (w : Word64) : State :=
  let p := forcePid w
  if p < pointCount ∧ (s.point p).src ≠ .none then
    if (s.forceOn p).isSome then s.forcePut k { s.force k with word0 := forceWord0 w, status := .refusedDup }
    else s.forceSet k w
  else s.forcePut k { s.force k with word0 := forceWord0 w, status := .refusedPid }

/-- A store to word 0 of entry `k` is applied (R271), with its record where it sets, changes, releases or refuses a force. -/
def State.forceApply (s : State) (k : Nat) (w : Word64) : State :=
  let f := s.force k
  if forceEn w then
    let s :=
      if f.status = .active then
        if f.pid = forcePid w then s.forceSet k w
        else ((s.forceRelease k .released).forceRecord k f.pid f.value).forceTry k w
      else s.forceTry k w
    (s.forceRecord k (forcePid w) (forceValue w)).forceAct
  else if f.status = .active then
    let s := s.forceRelease k .released
    ((s.forcePut k { s.force k with word0 := forceWord0 w }).forceRecord k f.pid f.value).forceAct
  else s

/-- The anchor releases a force at a point change (R276). -/
def State.forceReleaseByChange (s : State) (k : Nat) : State :=
  let f := s.force k
  ((s.forceRelease k .releasedByChange).forceRecord k f.pid f.value).forceAct

/-- A store to the force table between g and the end of step 5 is held (R277). -/
def State.forceWrite (s : State) (k : Nat) (w : Word64) : State :=
  if s.ochg.st = .switching ∨ s.ochg.st = .copied then
    { s with ochg := { s.ochg with heldStores := s.ochg.heldStores ++ [(k, w)] } }
  else s.forceApply k w

/-- Who stores to the table: AC0, AC1, and a service core in compartment 0 (R269); on a standby module only BEL (R484). -/
def State.forceGrant (s : State) (req : Req) : Bool :=
  s.isActive && match req with
  | .ac0 => true
  | .ac1 => true
  | .ac2 => s.comp0 .ac2
  | .ac3 => s.comp0 .ac3
  | _ => false

def forceAddr (k : Nat) : Nat := 0x10EFC000 + 32 * k


/-- FORCE_STORE: a 64-bit store to word 0 of a force entry. -/
def execForceStore (req : Req) (entry : Fin 512) (word : Word64) (s : State) : Host.Outcome State Fault Refusal :=
  s.whenAwake fun s =>
    if s.forceGrant req then { s.forceWrite entry word with resp := .data 0 }
    else s.memRefuse req true 8 0 (forceAddr entry)

def fstatusCode : FStatus → Nat
  | .free => 0 | .active => 1 | .refusedDup => 2 | .refusedPid => 3 | .releasedByChange => 4 | .released => 5

/-- The 32 bytes of an entry as a load sees them. -/
def Force.bytes (f : Force) : List Byte :=
  natLe 8 f.word0.toNat ++ natLe 8 (fstatusCode f.status) ++ natLe 8 f.setTime ++ natLe 8 f.relTime

end Sys2Proof.Machine
end

