-- ==== Sys2Proof/Machine/ResetOps.lean ====
section
/-! DEFINITION. What a reset keeps and clears, and the resets that a block or the anchor asks for (02 R45, R54, R564; 03 R91; 04 R113, R114, R131). -/
namespace Sys2Proof.Machine

def State.trustSet (s : State) (f : Trust → Trust) : State := { s with trust := f s.trust }
def State.belSet (s : State) (f : Bel → Bel) : State := { s with bel := f s.bel }


/-! ### Lifecycle (R124) -/

/-- State codes of RST.LC_STAT: 0 BLANK, 1 PROVISIONED, 2 OPERATIONAL, 3 SERVICE, 4 DECOMMISSIONED. -/
def lcState (o : Otp) : Nat :=
  if o.decom then 4 else if o.prov = false then 0 else if o.comm = false then 1 else if o.service % 2 = 0 then 2 else 3

def svcLeft (o : Otp) : Nat := 128 - o.service

/-- RST.LC_STAT reads from OTP (R121). -/
def State.lcStat (s : State) : State := s.wr R.RST_LC_STAT (BitVec.ofNat 32 (svcLeft s.trust.otp * 256 + lcState s.trust.otp))

/-! ### The Belay link's notice of a reset (R490) -/

def State.anyLock (s : State) : Bool := s.fset F.BEL_LANE_LOCK0 || s.fset F.BEL_LANE_LOCK1

/-- DOWN is sent on both lanes. -/
def State.sendDown (s : State) : State := if s.enabled Pg.BEL && s.anyLock then s.belSet (fun b => { b with downAt := some s.monoNow }) else s

/-! ### What a reset keeps and clears (R91, R114) -/

/-- Registers after a reset: the bits that `keep` names hold, all others read their reset values. -/
def keepRegs (keep : Nat → Word) : Tab Word → Tab Word
  | [] => []
  | (k, v) :: l => tabSet regReset (keepRegs keep l) k ((regReset k &&& ~~~keep k) ||| (v &&& keep k))

def inMram (a : Nat) : Bool := decide (0x60000000 ≤ a) && decide (a < 0x62000000)

/-- CAUSE bits of R113. -/
def causePowerOn : Nat := 0
def causePin : Nat := 1
def causeUnderV : Nat := 2
def causeOverV : Nat := 3
def causeClock : Nat := 4
def causeThermal : Nat := 5
def causeCold : Nat := 6
def causeWarm : Nat := 7
def causeAnchor : Nat := 8
def causeLifecycle : Nat := 9

/-- Pins at their reset states; input pins stay as they are driven. -/
def Pins.reset (p : Pins) : Pins := { sysFaultN := p.sysFaultN, resetAsserted := p.resetAsserted, pfwAsserted := p.pfwAsserted, sideB := p.sideB }

/-- The RTC counts through the reset; only what a reset clears is cleared (R431). -/
def Rtc.reset (r : Rtc) (cyc : Nat) : Rtc := { secStart := r.secStart - cyc, cdFrom := r.cdFrom - cyc, stopAt := r.stopAt.map (· - cyc) }

/-- Everything else that a reset of either kind leaves: MRAM, flash, OTP, the log, the RTC, and the supply supervisor. The event WARN of TSENS is armed
again (R84 does not say; DESIGN CHOICE, log entry 50). -/
def State.resetKeep (s : State) (keep : Nat → Word) : State :=
  { pending := s.pending, resp := s.resp, draws := s.draws
    regs := keepRegs keep s.regs
    hiWords := tabKeep (fun k => keep k != 0) s.hiWords
    mem := tabKeep inMram s.mem
    pins := s.pins.reset
    sup := { s.sup with asleep := false, waking := none, ppsInMono := none, tempArmed := true }
    cairn := { slots := s.cairn.slots, clearMark := s.cairn.clearMark, nextNum := s.cairn.nextNum, accFrom := s.cairn.nextNum, stoFrom := s.cairn.nextNum }
    rtc := s.rtc.reset s.cyc
    bel := { downAt := s.bel.downAt }
    trust := { otp := s.trust.otp, energyWritten := s.trust.energyWritten }
    flash := s.flash
    mramBad := s.mramBad }

/-- RST.CAUSE names one cause, and LAST_RESET.VALID tells whether it is CLOCK_LOSS (R42). -/
def State.cause (s : State) (c : Nat) : State :=
  (s.wr R.RST_CAUSE (BitVec.ofNat 32 (2 ^ c))).fput F.CLK_LAST_RESET_VALID (boolNat (c == causeClock))

/-- CLK finds clock `d` lost, in reset as well. -/
def State.clkFails (s : State) (d : Nat) : Bool := s.sup.lostClk.toList.getD d false

/-- The clocks that a PLL makes, which the check of step 3 of R71 covers. -/
def pllClocks : List Nat := [1, 2, 3, 4, 6, 7, 8]

/-- CLOCK_LOSS holds the module in cold reset (R564): its cause while CK_REF is lost, and again while a PLL clock fails the check of step 3. -/
def State.clockHold (s : State) : Bool := s.sup.inReset && (s.clkFails 0 || pllClocks.any s.clkFails)

/-- SYS_FAULT_n is asserted while a clock loss, a thermal shutdown or an over-voltage holds the module (R54). -/
def State.faultPin (s : State) : State :=
  { s with pins := { s.pins with sysFaultN := !(s.clockHold || s.sup.holds.thermal || s.sup.holds.overV) } }

/-- A reset in state `s` drops a change that is ARMED or SWITCHING, which is recorded with its CHANGE_ID (R261). -/
def State.changeLost (s t : State) : State :=
  if s.ochg.st = .idle then t else t.note Pg.TASK noBit (natLe 4 s.ochg.changeId.toNat ++ [0xFE])

/-- A cold reset is entered. A cause that comes while the module is held in cold reset is recorded and counts no further reset (log entry 35). -/
def State.coldEnter (s : State) (c : Nat) : State :=
  if s.sup.inReset then s.cause c
  else
    let n := s.rd R.RST_COLD_COUNT
    let s := s.changeLost ((s.resetKeep regColdKeep).cause c)
    let s : State := { s with sup := { s.sup with inReset := true } }
    ((s.wr R.RST_COLD_COUNT n).countSat R.RST_COLD_COUNT 1).lcStat.faultPin

/-- A cold reset of any cause but the loss of CK_REF: the Belay link sends DOWN first (R490). -/
def State.coldReset (s : State) (c : Nat) : State := (if s.sup.inReset then s else s.sendDown).coldEnter c

/-- The anchor reads words of its SRAM: an uncorrectable one makes it request a cold reset with cause ANCHOR, which clears as the reset takes effect
(R113, R131, R564). -/
def State.anchorRead (s : State) (a n : Nat) : State :=
  let (ok, s) := s.eccScan .anchor (wordsIn a n)
  if ok then s else s.coldReset causeAnchor

/-- The anchor takes up a request, reading its firmware and data in anchor SRAM; which words it reads is open, so each listed word with flips is read or not
by a free value (log entry 54). -/
def State.anchorWork (s : State) : State :=
  let bad := (s.ecc.map (·.1)).filter (fun a => eccInst a == some 5)
  bad.foldl (fun s a => if s.sup.inReset then s else let (v, s) := s.draw; if v.getLsbD 0 then s.anchorRead a 8 else s) s

end Sys2Proof.Machine
end

