-- ==== Sys2Proof/Machine/Task.lean ====
section
/-! DEFINITION. The task release unit (07 R219 to R253): releases, latches, dispatch, commit and publish, triggers, budgets, and enabling. -/
namespace Sys2Proof.Machine

/-- TSTATt.STATE. -/
def tstateCode : TState → Nat
  | .disabled => 0 | .waiting => 1 | .latching => 2 | .released => 3 | .running => 4 | .committing => 5

/-! ### The task's area (R227, R228, R241) -/

def taskArea (t : Nat) : Nat := 0x10840000 + t * 0x8000

/-- A 16-bit entry of a list at `a`. -/
def State.listEntry (s : State) (a : Nat) : Nat := (s.storedWord a).toNat / 2 ^ (8 * (a % 8)) % 0x10000
/-- PID of input or output list entry `k`. -/
def State.inPid (s : State) (t k : Nat) : Nat := s.listEntry (taskArea t + 0x4100 + 2 * k)
def State.outPid (s : State) (t k : Nat) : Nat := s.listEntry (taskArea t + 0x4900 + 2 * k)
def State.inList (s : State) (t : Nat) : List Nat := (List.range (s.fget (F.TASK_LISTS_N_IN t))).map (s.inPid t)
def State.outList (s : State) (t : Nat) : List Nat := (List.range (s.fget (F.TASK_LISTS_N_OUT t))).map (s.outPid t)

/-- TASK reads `n` bytes of task area words from `a` on: their errors are counted and captured, and the words go on as stored (R131; log entry 48). -/
def State.areaRead (s : State) (a n : Nat) : State := (s.eccScan .task (wordsIn a n)).2
def State.inListRead (s : State) (t : Nat) : State := s.areaRead (taskArea t + 0x4100) (2 * s.fget (F.TASK_LISTS_N_IN t))
def State.outListRead (s : State) (t : Nat) : State := s.areaRead (taskArea t + 0x4900) (2 * s.fget (F.TASK_LISTS_N_OUT t))

/-- Store whole words from an aligned address on. -/
def State.storeWords (s : State) (a : Nat) : List Word64 → State
  | [] => s
  | w :: l => (s.storeWord a w).storeWords (a + 8) l

/-- Little-endian bytes as whole words. -/
def wordsOf : Nat → List Byte → List Word64
  | 0, _ => []
  | n + 1, b => BitVec.ofNat 64 (leOf b 0 8) :: wordsOf n (b.drop 8)

/-- The release header (R228), formed at the latch cycle. -/
def relHeader (t : Nat) (x : Task) : List Byte :=
  let flags := boolNat x.first + 2 * boolNat x.stepped + 4 * boolNat x.backStep + 8 * boolNat (!isCyclic t)
  padTo 64 (natLe 8 x.relTime ++ natLe 8 x.latchMono ++ natLe 8 x.latchTime ++ natLe 4 x.cycle ++ natLe 2 (min 0xFFFF x.skipped)
    ++ [BitVec.ofNat 8 flags, 0] ++ natLe 4 (if x.first then 0 else min 0xFFFFFFFF x.execPrev))

/-- The trigger record (R241). -/
def trigRecord (g : Trig) : List Byte :=
  padTo 64 ([BitVec.ofNat 8 g.kind, BitVec.ofNat 8 (boolNat g.skipped)] ++ natLe 2 (if g.kind = 6 then 0 else g.source)
    ++ natLe 4 g.detail.toNat ++ natLe 8 g.time)

/-- RUNc: DEPTH, VALID, and the most recently dispatched of the tasks of core `c` that are RUNNING or COMMITTING (R252). -/
def State.runWord (s : State) (c : Nat) : Nat :=
  match s.running.toList.getD c [] with
  | [] => 0
  | t :: l => (l.length + 1) % 256 * 256 + 64 + t % 64

/-! ### Release instants (R220, R246, R252) -/

def State.periodNs (s : State) (t : Nat) : Nat := s.fget (F.TASK_PERIOD_MS t) * 1000000
def State.offsetNs (s : State) (t : Nat) : Nat := s.fget (F.TASK_OFFSET_US t) * 1000

/-- First instant at or after `from` with (instant − off) mod period = 0. -/
def firstInstant (period off from_ : Nat) : Nat :=
  if period = 0 ∨ from_ ≤ off then off else off + (from_ - off + period - 1) / period * period

/-- Module time minus monotonic time (R243). -/
def State.mtOff (s : State) : Int := (s.now : Int) - (s.monoNow : Int)

/-- The first release instant of cyclic task `t` that has not passed, been released or fallen due, at monotonic time `mono` or later. -/
def State.instantFrom (s : State) (t mono : Nat) : Nat :=
  let x := s.task t
  let after (n : Nat) : Nat := if n = 0 then 0 else n + 1
  let a := max s.instFrom (max (after x.lastRel) (after x.dueAt))
  firstInstant (s.periodNs t) (s.offsetNs t) (max a ((mono : Int) + s.mtOff).toNat)

/-- The next release instant of cyclic task `t` that falls due: not before the end of its 100 µs (R248). -/
def State.nextInstant (s : State) (t : Nat) : Nat := s.instantFrom t (s.task t).notBefore

/-- The next instant at which it can be released: the instants of the 100 µs of R253 and R171 only count as skipped. -/
def State.nextRelease (s : State) (t : Nat) : Nat := s.instantFrom t (max (s.task t).notBefore (s.task t).holdUntil)

/-- NEXT_REL: the earliest pending cyclic release; none while no cyclic task is enabled. -/
def State.nextRel (s : State) : Option Nat :=
  (List.range 16).foldl (fun m t =>
    if s.fset (F.TASK_TCFG_EN t) then
      match m with
      | none => some (s.nextRelease t)
      | some v => some (min v (s.nextRelease t))
    else m) none

/-! ### Latch (R229, R230) -/

/-- Header and trigger record are written to the area (R229, step 2). -/
def State.headerStore (s : State) (t : Nat) (x : Task) : State :=
  let s := s.storeWords (taskArea t) (wordsOf 8 (relHeader t x))
  match x.trig with
  | some g => s.storeWords (taskArea t + 0x40) (wordsOf 8 (trigRecord g))
  | none => s

/-- The latch cycle of task `t` for a release that fell due at monotonic time `mono`: every input word as a read would return it, and the header.
Skipped releases and steps from now on belong to the next header. -/
def State.latch (s : State) (t relTime mono : Nat) (trig : Option Trig) : State :=
  let s := s.inListRead t
  let pids := s.inList t
  let words := pids.map (fun p => if p < pointCount then s.pointWord p else (0 : Word64))
  let s := pids.foldl (fun s p => if p < pointCount then (s.eccRead (pointAddr p) .task).2 else s) s
  let x := { s.task t with
    st := .latching, snap := words, relTime := relTime, relMono := mono, latchMono := s.monoNow, latchTime := s.now, trig := trig, relCyc := s.cyc,
    cycle := ((s.task t).cycle + 1) % 2 ^ 32, budget := (s.rd (R.TASK_BUDGET t)).toNat, budgetHit := false }
  ((s.headerStore t x).taskPut t { x with
    relSkipped := x.skipped, relFirst := x.first, relStepped := x.stepped, relBack := x.backStep
    skipped := 0, first := false, stepped := false, backStep := false }).idleUpdate

/-- Release instant `r` of cyclic task `t` falls due: none of a task that waits for its publish to count as enabled again (R248); skipped within the
100 µs of R253 and R171; else as `dueOf` says. -/
def State.releaseDue (s : State) (t r : Nat) : State :=
  if (s.task t).clearAtPub then s
  else match s.dueOf t with
    | .none => s
    | .skip => s.skip t
    | .held => s.skip t
    | .overrun => s.overrun t r
    | .release => if s.monoNow < (s.task t).holdUntil then s.skip t else (s.taskSet t (fun x => { x with lastRel := r })).latch t r s.monoNow none

/-- TASK_RELEASE: the next release instant of cyclic task `t` comes. A step of the same cycle is applied first (R249), so this instant does not come
before it. -/
def execTaskRelease (t : Fin 16) (s : State) : Host.Outcome State Fault Refusal :=
  s.whenLive fun s =>
    let r := s.nextInstant t
    let s' := s.reach r
    if s.fset (F.TASK_TCFG_EN t) && !s'.stepDue then
      (s'.taskSet t (fun x => { x with dueAt := r })).releaseDue t r
    else s

/-- TASK_TRIGGER: the latch cycle of the tasks that the oldest trigger on its way releases, at least one CK_FAB cycle after it (R240); a release withdrawn
since then has none. -/
def execTaskTrigger (s : State) : Host.Outcome State Fault Refusal :=
  s.whenAwake fun s =>
    match s.trigs with
    | [] => s
    | g :: rest =>
      let s := if s.monoNow = g.mono then s.tick 1 else s
      g.tasks.foldl (fun s t => if (s.task t).st = .latching then s.latch t g.time g.mono (some g) else s) { s with trigs := rest }

/-! ### Dispatch (R234, R221) -/

/-- Task `a` goes before task `b` in the order of R221. -/
def State.runsBefore (s : State) (a b : Nat) : Bool :=
  let pa := s.fget (F.TASK_TCFG_PRIO a)
  let pb := s.fget (F.TASK_TCFG_PRIO b)
  decide (pa < pb) || (pa == pb && (decide ((s.task a).relCyc < (s.task b).relCyc)
    || ((s.task a).relCyc == (s.task b).relCyc && decide (a < b))))

def State.runStack (s : State) (c : Nat) : List Nat := s.running.toList.getD c []
def State.runStackPut (s : State) (c : Nat) (l : List Nat) : State := { s with running := s.running.setIfInBounds c l }

/-- The dispatchable task of core `c`. -/
def State.dispatchable (s : State) (c : Nat) : Option Nat :=
  let first := (List.range taskCount).foldl (fun (m : Option Nat) t =>
    if (s.task t).st = .released ∧ s.taskCore t = c then
      match m with
      | none => some t
      | some u => if s.runsBefore t u then some t else some u
    else m) none
  match first with
  | none => none
  | some t => if (s.runStack c).all (fun u => s.fget (F.TASK_TCFG_PRIO t) < s.fget (F.TASK_TCFG_PRIO u)) then some t else none

/-- REL_ACc, when a task of core `c` other than `was` has become the dispatchable one (R234). -/
def State.relEdge (s : State) (c : Nat) (was : Option Nat) : State :=
  if (s.dispatchable c).isSome && s.dispatchable c != was then s.raise Pg.TASK (Ev.TASK_REL_AC0 + c) else s

/-- The latch cycle of task `t` is still to come. -/
def State.triggered (s : State) (t : Nat) : Bool := s.trigs.any (fun g => g.tasks.contains t)

/-- The latch engine of the task's core copies it: no other task of that core whose copy waits goes before it (R230). -/
def State.latchEngineAt (s : State) (t : Nat) : Bool :=
  (s.task t).st == .latching && !s.triggered t &&
    (List.range taskCount).all (fun u => u == t || (s.task u).st != .latching || s.triggered u || s.taskCore u != s.taskCore t || s.runsBefore t u)

/-- The copy ends: the snapshot stands in the area, and the task is RELEASED. -/
def State.latchDone (s : State) (t : Nat) : State :=
  let x := s.task t
  let was := s.dispatchable (s.taskCore t)
  ((s.storeWords (taskArea t + 0x100) x.snap).taskPut t { x with st := .released, snap := [] }).relEdge (s.taskCore t) was

/-- TASK_LATCH_DONE: the latch engine that copies task `t` ends its copy. -/
def execTaskLatchDone (t : Fin 48) (s : State) : Host.Outcome State Fault Refusal :=
  s.whenAwake fun s => if s.latchEngineAt t then s.latchDone t else s

def dispatchKey (c : Nat) : Nat := if c = 0 then R.TASK_DISPATCH0 else R.TASK_DISPATCH1
def commitKey (c : Nat) : Nat := if c = 0 then R.TASK_COMMIT0 else R.TASK_COMMIT1

/-- A read of DISPATCHc (R234). -/
def State.dispatch (s : State) (c : Nat) : State × Word :=
  match s.dispatchable c with
  | none => (s, 0)
  | some t =>
    ((s.taskSet t (fun x => { x with st := .running })).runStackPut c (t :: s.runStack c), BitVec.ofNat 32 (0x80000000 + t))

/-- DISPATCH: a read of DISPATCHc. -/
def execDispatch (req : Req) (c : Fin 2) (s : State) : Host.Outcome State Fault Refusal :=
  s.regReadCmd req (dispatchKey c) (fun s => s.dispatch c)

/-! ### Commit and publish (R232, R233, R235) -/

/-- The RUNNING task of core `c` dispatched most recently. -/
def State.runningTask (s : State) (c : Nat) : Option Nat := (s.runStack c).find? (fun t => (s.task t).st == .running)

/-- A write of COMMITc. -/
def State.commit (s : State) (c t : Nat) : State :=
  if s.runningTask c = some t then s.taskSet t (fun x => { x with st := .committing }) else s.flag F.TASK_FAULT_BAD_COMMIT

/-- COMMIT: a write of COMMITc. -/
def execCommit (req : Req) (c : Fin 2) (t : BitVec 6) (s : State) : Host.Outcome State Fault Refusal :=
  s.regCmd req (commitKey c) (fun s => s.commit c t.toNat)

/-- Output buffer entry `k`: VALUE and Q. -/
def State.outEntry (s : State) (t k : Nat) : Word × Nat :=
  let w : Word64 := s.storedWord (taskArea t + 0x2100 + 8 * k)
  (BitVec.ofNat 32 (bits64 w 31 0), min 2 (bits64 w 33 32))

/-- The entries that the commit publishes: those written, and those of points that a release left with the forced value (R273). -/
def State.publishEntries (s : State) (t : Nat) : List (Nat × Word × Nat) :=
  (List.range (s.fget (F.TASK_LISTS_N_OUT t))).filterMap (fun k =>
    let p := s.outPid t k
    if p < pointCount ∧ (s.point p).src = .task t ∧ ((s.task t).written.contains k ∨ (s.point p).held.isSome) then
      some (p, s.outEntry t k)
    else none)

/-- One output becomes visible, dated at the publish cycle. -/
def State.publishPoint (s : State) (e : Nat × Word × Nat) : State :=
  s.pointMod e.1 (fun s => s.pointStore e.1 (fun x =>
    { x with value := e.2.1, q := e.2.2, inst := s.monoNow, held := none, skew := false, latchMiss := false, init := false }))

/-- The pair carries copy units: this module is ACTIVE and the pair is in RESYNC or SYNCED (R484, R487). -/
def State.copies (s : State) : Bool :=
  s.fget F.BEL_ROLE_ROLE == 1 && (s.fget F.BEL_ROLE_PAIR == 2 || s.fget F.BEL_ROLE_PAIR == 3)

/-- Base address of the active program bank (R21, R254). -/
def State.bankBase (s : State) : Nat := if s.ochg.bankB then 0x10400000 else 0x10000000

/-- The lines of the active program bank written since the previous unit. -/
def State.dirtyLines (s : State) : List (Nat × List Byte) := s.bel.dirty.map (fun o => (o, s.bytesAt (s.bankBase + o) 64))

def taskFields (s : State) (t : Nat) : List Nat :=
  let x := s.task t
  [x.cycle, x.skipped, (s.rd (R.TASK_OVR_CNT t)).toNat, (s.rd (R.TASK_EXEC_MAX t)).toNat, x.execPrev, x.lastRel, tstateCode x.st,
    boolNat x.first, boolNat x.stepped, boolNat x.backStep]

def emptyUnit (k : UnitKind) : CopyUnit :=
  { seq := 0, kind := k, task := 0, header := [], package := none, lines := [], areas := [], points := [], tasks := [], slots := [], regs := [],
    cycle := 0, forces := [], sched := none, commandOwners := none, circuits := [], stations := [] }

/-- Bytes of a copy unit by the record sizes of R485. -/
def unitSize (u : CopyUnit) : Nat :=
  64 + 72 * u.lines.length + 16 * u.points.length + 136 * u.slots.length + 264 * u.circuits.length

/-- A unit is formed and given to the link, with the next sequence number; it counts in the copy load but for a full pass (R485, R487). -/
def State.formUnit (s : State) (u : CopyUnit) : State :=
  let u := { u with seq := s.bel.seq, package := s.bel.pkgDue }
  let n := if u.kind = .pass then 0 else unitSize u
  { s with bel := { s.bel with out := some u, seq := s.bel.seq + 1, dirty := [], pkgDue := none, load := s.bel.load + n } }

/-! ### The persist ranges (R494) -/

/-- The persist list of the package whose bank is at `b`: OFFSET, LEN and the reserved bytes of each entry. -/
def State.persistList (s : State) (b : Nat) : List (Nat × Nat × Nat) :=
  (List.range 64).map (fun k => let a := b + 0x380000 + 0x52000 + 16 * k; (s.le a 4, s.le (a + 4) 4, s.le (a + 8) 8))

/-- The ranges in use. -/
def State.persistRanges (s : State) (b : Nat) : List (Nat × Nat) := ((s.persistList b).filter (fun e => e.2.1 != 0)).map (fun e => (e.1, e.2.1))

def disjointRanges : List (Nat × Nat) → Bool
  | [] => true
  | (o, n) :: l => l.all (fun e => decide (o + n ≤ e.1) || decide (e.1 + e.2 ≤ o)) && disjointRanges l

/-- The limits of R494. -/
def State.persistOk (s : State) (b : Nat) : Bool :=
  let l := s.persistRanges b
  (s.persistList b).all (fun e => e.1 % 64 == 0 && e.2.1 % 64 == 0 && e.2.2 == 0) && l.all (fun e => decide (e.1 + e.2 ≤ 0x380000))
    && disjointRanges l && decide (l.foldl (fun n e => n + e.2) 0 ≤ 0x40000)

/-- The shadow takes the ranges as they stand at a publish. -/
def State.shadowUpdate (s : State) : State :=
  let b := s.bankBase
  let r := s.persistRanges b
  let cells := (s.mem.filter (fun e => decide (b ≤ e.1) && decide (e.1 < b + 0x380000) && r.any (fun x => decide (b + x.1 ≤ e.1 ∧ e.1 < b + x.1 + x.2))))
  { s with bel := { s.bel with shadow := cells.map (fun e => (e.1 - b, e.2)) } }

/-- The TASK unit of a publish (R484). -/
def State.taskUnit (s : State) (t : Nat) (pubs : List (Nat × Word × Nat)) : State :=
  if s.copies then
    s.formUnit { emptyUnit .task with
      task := t, header := s.bytesAt (taskArea t) 64, lines := s.dirtyLines, tasks := [(t, taskFields s t)],
      points := pubs.map (fun e => (e.1, e.2.1, e.2.2, s.monoNow)) }
  else s

/-- Time of a new enable: the first release comes at least 100 µs later (R248). -/
def State.enableStart (s : State) (t : Nat) : State :=
  (s.wr (R.TASK_OVR_CNT t) 0).taskSet t (fun x => { x with
    cycle := 0, first := true, skipped := 0, stepped := false, backStep := false, clearAtPub := false, notBefore := s.monoNow + 100000 })

/-- The publish cycle of task `t`. -/
def State.publish (s : State) (t : Nat) : State :=
  let x := s.task t
  let s := (s.outListRead t).areaRead (taskArea t + 0x2100) (8 * s.fget (F.TASK_LISTS_N_OUT t))
  let pubs := s.publishEntries t
  let s := pubs.foldl State.publishPoint s
  let resp := min 0xFFFFFFFF ((s.monoNow - x.relMono + 999) / 1000)
  let s := s.fput ⟨R.TASK_EXEC_MAX t, 31, 0⟩ (max resp (s.rd (R.TASK_EXEC_MAX t)).toNat)
  let c := s.taskCore t
  let was := s.dispatchable c
  let st := if s.fset (F.TASK_TCFG_EN t) then TState.waiting else .disabled
  let s := s.taskSet t (fun x => { x with st := st, written := [], execPrev := resp, pubAt := some s.cyc })
  let s := (s.taskUnit t pubs).shadowUpdate
  let s := s.runStackPut c ((s.runStack c).filter (· != t))
  let s := if x.clearAtPub && s.fset (F.TASK_TCFG_EN t) then s.enableStart t else s
  s.idleUpdate.relEdge c was

/-- TASK_PUBLISH. -/
def execTaskPublish (t : Fin 48) (s : State) : Host.Outcome State Fault Refusal :=
  s.whenAwake fun s => if (s.task t).st = .committing then s.publish t else s

/-- TASK_BUDGET_EXPIRE (R238): BUDGET µs pass since the release and the instance has not published. -/
def execTaskBudgetExpire (t : Fin 48) (s : State) : Host.Outcome State Fault Refusal :=
  s.whenAwake fun s =>
    let x := s.task t
    if x.st.busy && x.budget != 0 && !x.budgetHit then
      let c := s.taskCore t
      let s := (s.reachMono (x.relMono + x.budget * 1000)).taskPut t { x with budgetHit := true }
      (s.raise Pg.TASK (Ev.TASK_BUDGET_AC0 + c)).warn Pg.TASK (Ev.TASK_BUDGET_AC0 + c) (natLe 2 t ++ natLe 8 x.relTime ++ natLe 4 x.cycle)
    else s

/-- A write of SW_TRIG (R252). -/
def State.swTrig (s : State) (v : Word) : State :=
  (List.range 32).foldl (fun s k => if v.getLsbD k then s.trigger 6 k 0 false else s) s

/-- SW_TRIG. -/
def execSwTrig (req : Req) (value : Word) (s : State) : Host.Outcome State Fault Refusal :=
  s.regCmd req R.TASK_SW_TRIG (fun s => s.swTrig value)

/-! ### Enabling (R248, R251, R253) -/

def noDup : List Nat → Bool
  | [] => true
  | a :: l => !(l.contains a) && noDup l

/-- The settings and lists of task `t` let it be enabled (R251). -/
def State.taskValid (s : State) (t : Nat) : Bool :=
  let outs := (s.outList t).filter (· != 0xFFFF)
  decide (s.fget (F.TASK_LISTS_N_IN t) ≤ 1024) && decide (s.fget (F.TASK_LISTS_N_OUT t) ≤ 1024)
    && (s.inList t).all (fun p => decide (p < pointCount) || p == 0xFFFF)
    && outs.all (fun p => (s.point p).src == .task t) && noDup outs
    && (if isCyclic t then
          decide (1 ≤ s.fget (F.TASK_PERIOD_MS t)) && decide (s.fget (F.TASK_PERIOD_MS t) ≤ 10000)
            && decide (s.fget (F.TASK_OFFSET_US t) < s.fget (F.TASK_PERIOD_MS t) * 1000)
        else s.fget (F.TASK_TRIG_KIND t) != 0 && s.fget (F.TASK_TRIG_KIND t) != 7)

/-- EN written 1 while it is 0: TASK reads and checks the lists. -/
def State.taskStart (s : State) (t : Nat) : State :=
  if s.taskValid t then
    let s := s.fput (F.TASK_TCFG_EN t) 1
    if (s.task t).st = .disabled then (s.enableStart t).taskSet t (fun x => { x with st := .waiting, enAt := some s.cyc })
    else s.taskSet t (fun x => { x with clearAtPub := true, enAt := some s.cyc })
  else s.flag F.TASK_FAULT_LIST

/-- EN written 1. -/
def State.taskEnable (s : State) (t : Nat) : State :=
  if s.fset (F.TASK_TCFG_EN t) then s else ((s.inListRead t).outListRead t).taskStart t

/-- A release is withdrawn, or the task is no longer waiting (R248): a trigger on its way no longer releases it, and what the withdrawn header told is
told by the next one (log entry 58). -/
def State.taskWithdraw (s : State) (t : Nat) (st : TState) : State :=
  let was := s.dispatchable (s.taskCore t)
  let s : State := { s with trigs := s.trigs.map (fun g => { g with tasks := g.tasks.filter (· != t) }) }
  let back (x : Task) : Task :=
    if x.st = .latching ∨ x.st = .released then
      { x with skipped := min 0xFFFF (x.skipped + x.relSkipped), first := x.first || x.relFirst, stepped := x.stepped || x.relStepped
               backStep := x.backStep || x.relBack }
    else x
  (s.taskSet t (fun x => { back x with st := st, snap := [] })).idleUpdate.relEdge (s.taskCore t) was

/-- EN written 0. -/
def State.taskDisable (s : State) (t : Nat) : State :=
  let s := (s.fput (F.TASK_TCFG_EN t) 0).taskSet t (fun x => { x with clearAtPub := false })
  match (s.task t).st with
  | .waiting => s.taskWithdraw t .disabled
  | .latching => s.taskWithdraw t .disabled
  | .released => s.taskWithdraw t .disabled
  | _ => s

/-- The fields of TCFG besides EN. -/
def tcfgRest : Word := 0xF100

/-- A write of TCFGt (R248, R251). -/
def State.tcfgWrite (s : State) (t : Nat) (v : Word) : State :=
  let k := R.TASK_TCFG t
  let en := v.getLsbD 0
  let s :=
    if (s.task t).st = .disabled then s.wr k ((v &&& tcfgRest) ||| (s.rd k &&& 1))
    else if v &&& tcfgRest = s.rd k &&& tcfgRest then s
    else s.flag F.TASK_FAULT_BAD_WRITE
  if en then s.taskEnable t else s.taskDisable t

/-- A write of PERIODt, OFFSETt or LISTSt (R251): ignored while the task is not DISABLED. -/
def State.taskSetting (s : State) (t k : Nat) (v : Word) : State :=
  if (s.task t).st = .disabled then s.wr k v else s.flag F.TASK_FAULT_BAD_WRITE

/-- TASK_ENABLE: TCFGt written with EN 1 and its other fields unchanged. -/
def execTaskEnable (req : Req) (t : Fin 48) (s : State) : Host.Outcome State Fault Refusal :=
  s.regCmd req (R.TASK_TCFG t) (fun s => s.taskEnable t)

/-- TASK_DISABLE: TCFGt written with EN 0 and its other fields unchanged. -/
def execTaskDisable (req : Req) (t : Fin 48) (s : State) : Host.Outcome State Fault Refusal :=
  s.regCmd req (R.TASK_TCFG t) (fun s => s.taskDisable t)

/-- TASK.BLK_CTL.ENABLE is cleared: every release in LATCHING or RELEASED is withdrawn (R253). -/
def State.taskGate (s : State) : State :=
  s.tasks.foldl (fun s (t, x) => if x.st = .latching ∨ x.st = .released then s.taskWithdraw t .waiting else s) s

/-- ENABLE returns to 1: the first cyclic releases come at least 100 µs later, and the instants passed until then are counted in SKIPPED. -/
def State.taskUngate (s : State) : State :=
  s.tasks.foldl (fun s (t, _) => s.taskSet t (fun x => { x with holdUntil := s.monoNow + 100000 })) s

/-- RELEASE_OK becomes 1, and the recorder leaves START (R222, R506). -/
def State.releaseOk (s : State) : State :=
  if s.fset F.TASK_STAT_RELEASE_OK then s
  else
    let s := (s.fput F.TASK_STAT_RELEASE_OK 1).raise Pg.TASK Ev.TASK_RELEASE_OK
    if s.fget F.CAIRN_STAT_MODE = 0 then s.cairnMode 1 else s

end Sys2Proof.Machine
end

