-- ==== Sys2Proof/Machine/Mailbox.lean ====
section
/-! DEFINITION. The ANC mailbox (19 R555 to R557, R560), and the CRC-32C that the formats of the spec use. -/
namespace Sys2Proof.Machine

/-- A request completes: DONE, RESULT and VALUE, RSPc_1 and the core's event (R555). -/
def State.mboxDone (s : State) (core result value value2 : Nat) : State :=
  let r := BitVec.ofNat 32 (0x80000000 + result % 256 * 0x10000 + value % 0x10000)
  ((s.wr (R.ANC_RSP core) r).wr (R.ANC_RSP_1 core) (BitVec.ofNat 32 value2)).raise Pg.ANC (Ev.ANC_RSP_AC + core)

/-- A request completes whose VALUE and VALUE2 no rule states: free values (log entry 9). -/
def State.mboxEnd (s : State) (core result : Nat) : State :=
  let (v, s) := s.draw
  s.mboxDone core result v.toNat (v.toNat / 2 ^ 32)

/-- The core writes REQ and the arguments that the request has (R555, step 1). -/
def State.mboxArgs (s : State) (core code : Nat) (args : List Word) : State :=
  args.zipIdx.foldl (fun s e => s.wr (R.ANC_ARG_0 core + 4 * e.2) e.1) (s.wr (R.ANC_REQ core) (BitVec.ofNat 32 code))

/-- GO of core `core` is taken: BUSY, and no answer yet (R555, step 2). -/
def State.mboxTake (s : State) (core : Nat) : State := (s.wr (R.ANC_RSP core) 0).fput (F.ANC_RSP_BUSY core) 1

/-- RESULT codes (R557). -/
def mbDone : Nat := 0
def mbRefused : Nat := 1
def mbBusy : Nat := 2
def mbBadRequest : Nat := 3
def mbBadSignature : Nat := 4
def mbEnded : Nat := 5
def mbForbidden : Nat := 6
def mbTooLate : Nat := 7

/-- A mailbox request of core `core`: its writes of REQ, ARG and GO. A GO while BUSY is ignored (R557). During the Bivouac hold the cores stand and no request
is made (R541, R542). The anchor reads its SRAM to serve it, which may end in a cold reset (R131). In DECOMMISSIONED it serves nothing: a lifecycle command is
refused with its record (R125), UPD_BEGIN with its reason (R535), any other request is refused (R120). -/
def State.mbox (s : State) (core code : Nat) (args : List Word) (permitted : Bool) (f : State → State) : State :=
  if s.upd.hold then s
  else if s.fset (F.ANC_RSP_BUSY core) then (s.mboxArgs core code args).flag F.ANC_FAULT_BUSY_WR
  else
    let s := ((s.mboxArgs core code args).mboxTake core).anchorWork
    if s.sup.inReset then s
    else if s.trust.otp.decom && code != 0x02 && code != 0x30 then s.mboxEnd core mbRefused
    else if permitted then f s
    else s.mboxDone core mbForbidden 0 0

/-- The core is in compartment 0. -/
def State.coreComp0 (s : State) (core : Nat) : Bool := s.session (Req.ofCore core) == some 0

/-- The mailbox buffer of core `core` (R555). -/
def mboxBuf (core : Nat) : Nat := 0x10ED0000 + 0x8000 * core

/-- Service memory outside the scratch area (R464). -/
def inService (a n : Nat) : Bool := decide (0x210000000 ≤ a) && decide (a + n ≤ 0x2F0000000)

/-- An address range that a data argument may name (R555). -/
def mboxRange (core a n : Nat) : Bool :=
  (decide (mboxBuf core ≤ a) && decide (a + n ≤ mboxBuf core + 0x8000)) || (decide (2 ≤ core) && inService a n)

/-- Bytes of a data argument as the anchor reads them. -/
def addrOf (lo hi : Word) : Nat := lo.toNat + hi.toNat * 2 ^ 32

/-- Store bytes as the anchor writes them. -/
def State.anchorWrite (s : State) (a : Nat) (b : List Byte) : State := s.putBytes .anchor a b

/-! ### Keys and signature blocks (R523 to R526) -/

/-- Slot `k` holds a digest and its revoke fuse is not burned; after DECOM no key is used (R127, R523). -/
def slotUsable (o : Otp) (k : Nat) : Bool := o.slots.toList.getD k 0 != 0 && !o.revoked.toList.getD k true && !o.decom

/-- The header of the signature block of R525 at `b`, for ALG 1, names a key that `permitted` allows; `sigOk` says that PK is that key and that SIG
verifies. -/
def blockOk (b : List Byte) (permitted : Nat → Bool) (sigOk : Bool) : Bool :=
  leOf b 0 2 == 1 && byteOf b 2 == 1 && permitted (byteOf b 3) && leOf b 4 4 == 29872 && leOf b 8 8 == 0 && sigOk

/-- A key of role PROGRAM that verifies (R523, R550). -/
def State.programKey (s : State) (key : Nat) : Bool := (key == 2 || key == 3) && slotUsable s.trust.otp key

/-! ### CRC-32C (log entry 14) -/

def crcBit (c : BitVec 32) : BitVec 32 := if c.getLsbD 0 then (c >>> 1) ^^^ 0x82F63B78 else c >>> 1

def crcBits : Nat → BitVec 32 → BitVec 32
  | 0, c => c
  | n + 1, c => crcBits n (crcBit c)

/-- The CRC-32C of bytes. -/
def crc32c (b : List Byte) : BitVec 32 := ~~~(b.foldl (fun c x => crcBits 8 (c ^^^ x.zeroExtend 32)) 0xFFFFFFFF)

end Sys2Proof.Machine
end

