-- ==== Sys2Proof/Machine/LoopMath.lean ====
section
/-! DEFINITION. The arithmetic of the loop engine and of the injection units (09 R291 to R293, 10 R320, R325), on exact integers. -/
namespace Sys2Proof.Machine

/-- Magnitude of an integer with the sign of another. -/
def withSign (x : Int) (m : Nat) : Int := if x < 0 then -(m : Int) else (m : Int)

/-- Round half away from zero after a right shift (R291). -/
def rnd (x : Int) (sh : Nat) : Int := if sh = 0 then x else withSign x ((x.natAbs + 2 ^ (sh - 1)) / 2 ^ sh)

/-- Division that rounds half away from zero, by a positive number (R320). -/
def divr (x : Int) (d : Nat) : Int := withSign x ((2 * x.natAbs + d) / (2 * d))

def satI32 (x : Int) : Int := clampI (-2147483648) 2147483647 x
def satI64 (x : Int) : Int := clampI (-9223372036854775808) 9223372036854775807 x
def adds (a b : Int) : Int := satI64 (a + b)

/-- Low and high halves of a block word, signed; and a word of two halves. -/
def loI (w : Word64) : Int := (w.truncate 32).toInt
def hiI (w : Word64) : Int := ((w >>> 32).truncate 32).toInt
def packI (a b : Int) : Word64 := BitVec.ofNat 64 ((BitVec.ofInt 32 a).toNat + (BitVec.ofInt 32 b).toNat * 2 ^ 32)

/-- A coefficient word applied to a value (R291, R283). -/
def mulC (c : Word64) (x : Int) : Int := rnd (loI c * x) (c.toNat / 2 ^ 32 % 32)

/-- The parameter words and state words of a slot, as read in one cycle. -/
structure Blk where
  cfg : Word64
  ctl : Word64
  src2 : Word64
  spi : Word64
  lim : Word64
  rdb : Word64
  bag : Word64
  c : List Word64
  iacc : Int
  dst : Int
  edp : Int
  uprev : Int
  yst : Int
  xprev : Int
deriving DecidableEq, Repr

def Blk.law (b : Blk) : Nat := b.cfg.toNat % 8
def Blk.aw (b : Blk) : Bool := b.cfg.getLsbD 3
def Blk.ci (b : Blk) (i : Nat) : Word64 := b.c.getD i 0
/-- PID, or PI_DB. -/
def Blk.isPi (b : Blk) : Bool := b.law == 1 || b.law == 2

/-- What an evaluation is given: the inputs after R323 and R326, the limits LO and HI of R293, the forced VALUE that the loop tracks, and the limits of
its inner loops. -/
structure LawIn where
  pv : Int
  sp : Int
  ff : Int
  lo : Int
  hi : Int
  forced : Option Int
  innerHi : Bool
  innerLo : Bool
deriving DecidableEq, Repr

/-- What it leaves. -/
structure LawOut where
  u : Int
  v : Int
  iacc : Int
  dst : Int
  edp : Int
  yst : Int
  xprev : Int
  rateLim : Bool
deriving DecidableEq, Repr

/-- The error of PI_DB after the deadband, or of PID (R293). -/
def Blk.error (b : Blk) (pv sp : Int) : Int :=
  let e := satI32 (sp - pv)
  if b.law = 2 then
    let db := max 0 (hiI b.rdb)
    if (e.natAbs : Int) ≤ db then 0 else e - withSign e db.toNat
  else e

/-- ed of R293. -/
def Blk.ed (b : Blk) (pv sp : Int) : Int := if b.law = 1 then satI32 (mulC (b.ci 5) sp - pv) else 0

/-- The unlimited output and the new derivative, lead-lag and integrator candidates. -/
structure Raw where
  v : Int
  dI : Int
  itry : Int
  dst : Int
  yst : Int
deriving DecidableEq, Repr

/-- The law's sum before the limits (R293). -/
def Blk.raw (b : Blk) (x : LawIn) : Raw :=
  let ff := mulC (b.ci 6) x.ff
  if b.isPi then
    let e := b.error x.pv x.sp
    let ep := if b.law = 2 then e else satI32 (mulC (b.ci 4) x.sp - x.pv)
    let dst := if b.law = 2 then b.dst else satI32 (mulC (b.ci 3) b.dst + mulC (b.ci 2) (satI32 (b.ed x.pv x.sp - b.edp)))
    let dout := if b.law = 2 then 0 else rnd dst 8
    let dI := mulC (b.ci 1) e
    let itry := adds b.iacc dI
    { v := satI32 (adds (adds (adds (mulC (b.ci 0) ep) (rnd itry 16)) dout) ff), dI := dI, itry := itry, dst := dst, yst := b.yst }
  else if b.law = 3 then
    let y := satI32 (mulC (b.ci 2) b.yst + mulC (b.ci 0) x.pv + mulC (b.ci 1) b.xprev)
    { v := satI32 (adds (rnd y 8) ff), dI := 0, itry := b.iacc, dst := b.dst, yst := y }
  else { v := satI32 (adds (adds (mulC (b.ci 0) x.pv) (loI b.bag)) ff), dI := 0, itry := b.iacc, dst := b.dst, yst := b.yst }

/-- Clamp, then the rate limit, and whether it changed u; the clamp wins. -/
def Blk.limit (b : Blk) (x : LawIn) (v : Int) : Int × Bool :=
  let u := min (max v x.lo) x.hi
  let r := loI b.rdb
  if 0 < r then
    let w := min (max u (b.uprev - r)) (b.uprev + r)
    (min (max w x.lo) x.hi, w != u)
  else (u, false)

/-- One evaluation of R293, from the read of the inputs to the new state. -/
def Blk.eval (b : Blk) (x : LawIn) : LawOut :=
  let r := b.raw x
  let (u0, rate) := b.limit x r.v
  let u := x.forced.getD u0
  let up := decide (u < r.v) || x.innerHi
  let dn := decide (r.v < u) || x.innerLo
  let iacc :=
    if b.isPi then
      if b.aw then adds r.itry (mulC (b.ci 7) (satI32 (u - r.v)))
      else if (up && decide (0 < r.dI)) || (dn && decide (r.dI < 0)) then b.iacc else r.itry
    else b.iacc
  { u := u, v := r.v, iacc := iacc, dst := r.dst, edp := if b.isPi then b.ed x.pv x.sp else b.edp
    yst := r.yst, xprev := if b.law = 3 then x.pv else b.xprev, rateLim := rate }

/-- The reseed rows of R320. -/
def Blk.reseed (b : Blk) (pv sp : Int) : Blk :=
  if b.law = 1 then { b with edp := b.ed pv sp, dst := 0 }
  else if b.law = 3 then
    let g := mulC (b.ci 0) pv + mulC (b.ci 1) pv
    let sh := (b.ci 2).toNat / 2 ^ 32 % 32
    let d : Int := 2 ^ sh - loI (b.ci 2)
    { b with xprev := pv, yst := if d ≤ 0 then 0 else satI32 (divr (g * 2 ^ sh) d.toNat) }
  else b

/-- All rows of R320; `y` is the current output. -/
def Blk.seed (b : Blk) (pv sp y : Int) : Blk :=
  let b := b.reseed pv sp
  { b with uprev := y, iacc := if b.isPi then (if b.ctl.getLsbD 2 then y else hiI b.spi) * 65536 else b.iacc }

/-! ### Injection signals (R325) -/

/-- Taps of the PRBS register of order `n`. -/
def prbsTaps (n : Nat) : List Nat :=
  match n with
  | 5 => [5, 3] | 6 => [6, 5] | 7 => [7, 6] | 8 => [8, 6, 5, 4] | 9 => [9, 5] | 10 => [10, 7] | 11 => [11, 9]
  | 12 => [12, 6, 4, 1] | 13 => [13, 4, 3, 1] | 14 => [14, 5, 3, 1] | 15 => [15, 14] | _ => []

/-- One advance of the register, whose bit m is bit m − 1 of the number. -/
def prbsNext (n r : Nat) : Nat :=
  let f := (prbsTaps n).foldl (fun a t => (a + r / 2 ^ (t - 1)) % 2) 0
  r * 2 % 2 ^ n + f

/-- π × 2^100. -/
def pi100 : Nat := 3982441812995697363688351113952

/-- Terms of the sine series at `x` / 2^100, from the term `t` with index `k` on. -/
def sinSeries (x : Int) : Nat → Nat → Int → Int
  | 0, _, _ => 0
  | fuel + 1, k, t => t + sinSeries x fuel (k + 1) (-(t * x / 2 ^ 100 * x / 2 ^ 100) / ((2 * k + 2) * (2 * k + 3)))

/-- S(i) of the first quadrant: 32,767 × sin(2π i / 4,096), rounded half away from zero. -/
def sinQuarter (i : Nat) : Int :=
  let x : Int := (i * pi100 / 2048 : Nat)
  (32767 * sinSeries x 24 0 x + 2 ^ 99) / 2 ^ 100

/-- S(i) for i from 0 to 4,095. -/
def sinTab (i : Nat) : Int :=
  let j := i % 1024
  match i / 1024 % 4 with
  | 0 => sinQuarter j
  | 1 => sinQuarter (1024 - j)
  | 2 => -sinQuarter j
  | _ => -sinQuarter (1024 - j)

end Sys2Proof.Machine
end

