-- ==== Sys2Proof/Machine/Filter.lean ====
section
/-! DEFINITION. The filter chain of a metering channel, from the bits of its MOD pin to its calibrated samples and their dates (12 R350, R351, R354). -/
namespace Sys2Proof.Machine

def sumI (l : List Int) : Int := l.foldl (· + ·) 0

/-! ### sinc3: third order, decimation 256 (R350) -/

/-- Bit 1 counts +1, bit 0 counts −1. -/
def bitSign (b : Bool) : Int := if b then 1 else -1

def pairsOf (n : Nat) : Int := ((n * (n - 1) / 2 : Nat) : Int)

/-- How many ways `i` is a sum of three numbers below 256: the weight of bit `i` in three running sums of 256 bits. -/
def sincWeight (i : Nat) : Int := pairsOf (i + 2) - 3 * pairsOf (i - 254) + 3 * pairsOf (i - 510) - pairsOf (i - 766)

/-- Bits that one output of the sinc3 sees. -/
def sincSpan : Nat := 766

/-- The output of the sinc3 over its 766 bits; full scale is ±2^24. -/
def sincOut (bits : List Bool) : Int := sumI ((bits.take sincSpan).zipIdx.map (fun e => sincWeight e.2 * bitSign e.1))

/-- `n` outputs, one every 256 bits. -/
def sincOuts (bits : List Bool) (n : Nat) : List Int := (List.range n).map (fun j => sincOut (bits.drop (256 * j)))

/-! ### FIR: 127 symmetric taps, decimation 10 (R350) -/

/-- The centre tap: the taps add up to 2^24, so a ones density d gives (2d − 1) × 2^23 (log entry 60). -/
def firCentre : Int := 2 ^ 24 - 2 * sumI ((List.range 63).map Config.firTap)

/-- The code over 127 outputs of the sinc3. -/
def firOut (w : List Int) : Int :=
  rnd (sumI ((List.range 63).map (fun k => Config.firTap k * (w.getD k 0 + w.getD (126 - k) 0))) + firCentre * w.getD 63 0) 25

/-- `n` codes, one every 10 outputs of the sinc3. -/
def firOuts (w : List Int) (n : Nat) : List Int := (List.range n).map (fun j => firOut (w.drop (10 * j)))

/-! ### High-pass, phase interpolator and gain (R354) -/

/-- x − DC, where DC tracks x through a first-order low-pass; `off` is FILT_CFG.HPF_OFF. -/
def highPass (off : Bool) : Int → List Int → List Int
  | _, [] => []
  | dc, x :: l => (if off then x else x - rnd dc 16) :: highPass off (dc + rnd (Config.dcGain * (x * 65536 - dc)) 32) l

/-- The last tap of the interpolator: the taps add up to 2^24. -/
def interpLast (d : Int) : Int := 2 ^ 24 - sumI ((List.range 7).map (Config.interpTap d))

/-- interpolate(x, 3.5 samples + d / 2^16) over 8 codes. -/
def phaseInterp (d : Int) (x : List Int) : Int :=
  rnd (sumI ((List.range 7).map (fun k => Config.interpTap d k * x.getD k 0)) + interpLast d * x.getD 7 0) 24

/-- The calibrated sample. -/
def calSample (g : Int) (xd : Int) : Int := satI32 (rnd (xd * g) 22)

/-! ### Dates (R351) -/

/-- D_FIX in cycles of MCLK, in halves: sinc3, FIR and the centre of the interpolator. -/
def fixedHalves : Nat := 765 + 2 * 16128 + 2 * 8960

/-- D_FIX plus the phase delay `d` of R354, in ns: an MCLK cycle lasts 3125/64 ns and a unit of d 15625/8192 ns. -/
def dateDelay (d : Int) : Int := divr ((fixedHalves * 3125 * 64 : Nat) + 15625 * d) 8192

/-- The date of a sample that leaves the interpolator at `leave`. -/
def dateOf (leave : Nat) (d : Int) : Nat := ((leave : Int) - dateDelay d).toNat

/-- A calibrated sample: its date, the filter output at its centre, and its value. -/
structure Sample where
  date : Nat
  code : Int
  y : Int
deriving DecidableEq, Repr

/-- The calibrated samples of a channel; `cal t` is (g, d) of the correction in force at time `t`. -/
def chain (off : Bool) (cal : Nat → Int × Int) (c : ChanIn) : List Sample :=
  let n := c.leave.length
  let codes := firOuts (sincOuts c.bits (10 * (n + 6) + 127)) (n + 7)
  let hp := highPass off c.dc codes
  c.leave.zipIdx.map (fun e =>
    { date := dateOf e.1 (cal e.1).2, code := codes.getD (e.2 + 3) 0, y := calSample (cal e.1).1 (phaseInterp (cal e.1).2 (hp.drop e.2)) })

end Sys2Proof.Machine
end

