-- ==== Sys2Proof/Machine/Ochg.lean ====
section
/-! DEFINITION. Online change (08 R254 to R268, 19 R550 and R551): the checks of a package, arming, the switch and its record. -/
namespace Sys2Proof.Machine

def State.ochgSet (s : State) (f : Ochg → Ochg) : State := { s with ochg := f s.ochg }

/-! ### The change package (R255 to R259) -/

/-- Base of the inactive program bank. -/
def State.spareBase (s : State) : Nat := if s.ochg.bankB then 0x10000000 else 0x10400000

/-- Base of the change control block of the bank at `b`. -/
def ccb (b : Nat) : Nat := b + 0x380000

def State.pkgMaps (s : State) (b : Nat) : Nat := s.le (ccb b + 2) 2
def State.pkgPchgs (s : State) (b : Nat) : Nat := s.le (ccb b + 4) 2
def State.pkgTasks (s : State) (b : Nat) : Bool := s.le (ccb b + 6) 1 % 2 == 1
def State.pkgEntry (s : State) (b : Nat) : Nat := s.le (ccb b + 8) 4
def State.pkgId (s : State) (b : Nat) : Nat := s.le (ccb b + 12) 4

def allZero (l : List Byte) : Bool := l.all (· == 0)

/-- R256 for the header. -/
def State.pkgHeaderOk (s : State) (b : Nat) : Bool :=
  s.le (ccb b) 2 == 1 && decide (s.pkgMaps b ≤ 256) && decide (s.pkgPchgs b ≤ 8192) && decide (s.le (ccb b + 6) 1 ≤ 1)
    && s.le (ccb b + 7) 1 == 0 && s.pkgEntry b % 4 == 0 && decide (s.pkgEntry b < 0x380000) && allZero (s.bytesAt (ccb b + 16) 240)

/-- Carry-over entry `k`: SRC, DST and LEN. -/
def State.pkgMap (s : State) (b k : Nat) : Nat × Nat × Nat :=
  let a := ccb b + 0x100 + 16 * k
  (s.le a 4, s.le (a + 4) 4, s.le (a + 8) 4)

/-- Entry `k` keeps R257, beside the entries before it. -/
def State.pkgMapOk (s : State) (b k : Nat) : Bool :=
  let (src, dst, len) := s.pkgMap b k
  let total := (List.range (k + 1)).foldl (fun n j => n + (s.pkgMap b j).2.2) 0
  src % 8 == 0 && dst % 8 == 0 && len % 8 == 0 && decide (8 ≤ len) && decide (src + len ≤ 0x380000) && decide (dst + len ≤ 0x380000)
    && (List.range k).all (fun j => let (_, d, n) := s.pkgMap b j; decide (d + n ≤ dst) || decide (dst + len ≤ d))
    && decide (total ≤ 0x100000) && s.le (ccb b + 0x100 + 16 * k + 12) 4 == 0

/-- A point change (R259). -/
structure Pchg where
  pid : Nat
  op : Nat
  ptype : Nat
  task : Nat
  start : Word
deriving DecidableEq, Repr

def State.pkgPchg (s : State) (b k : Nat) : Pchg :=
  let a := ccb b + 0x2000 + 16 * k
  { pid := s.le a 2, op := s.le (a + 2) 1, ptype := s.le (a + 3) 1, task := s.le (a + 4) 1, start := BitVec.ofNat 32 (s.le (a + 8) 4) }

def isTaskSrc : PSrc → Bool
  | .task _ => true
  | _ => false

/-- Entry `k` is permitted on its point (R259). -/
def State.pchgOk (s : State) (b k : Nat) : Bool :=
  let c := s.pkgPchg b k
  let a := ccb b + 0x2000 + 16 * k
  let virt := decide (4096 ≤ c.pid) && decide (c.pid < pointCount)
  let src := (s.point c.pid).src
  s.le (a + 5) 3 == 0 && s.le (a + 12) 4 == 0 && (List.range k).all (fun j => (s.pkgPchg b j).pid != c.pid)
    && (match c.op with
      | 1 => virt && src == .none && decide (c.ptype ≤ 5) && decide (c.task < taskCount)
      | 2 => virt && isTaskSrc src
      | 3 => virt && isTaskSrc src && decide (c.ptype ≤ 5)
      | 4 => decide (c.pid < pointCount) && isTaskSrc src && decide (c.task < taskCount)
      | _ => false)

/-- The point after a change (R259): START with Q GOOD where the operation says so, dated now. -/
def pchgPoint (x : Point) (c : Pchg) (mono : Nat) : Point :=
  let fresh (y : Point) : Point :=
    { y with value := c.start, q := 0, inst := mono, written := true, aged := false, skew := false, latchMiss := false, init := false,
             held := none }
  match c.op with
  | 1 => fresh { x with src := .task c.task, ptype := c.ptype, isOut := true }
  | 2 => { x with src := .none, written := false, held := none }
  | 3 => fresh { x with ptype := c.ptype }
  | 4 => { x with src := .task c.task }
  | _ => x

/-- The source that a point will have after the changes. -/
def State.srcAfter (s : State) (b : Nat) (p : Nat) : PSrc :=
  (List.range (s.pkgPchgs b)).foldl (fun src k =>
    let c := s.pkgPchg b k
    if c.pid = p then (pchgPoint { src := src } c 0).src else src) (s.point p).src

/-- Virtual-point limit of the tier (R4). -/
def virtualLimit (tier : Nat) : Nat := if tier = 0 then 2048 else if tier = 1 then 4096 else 8192

/-- Virtual points that have a source. -/
def State.virtuals (s : State) : Nat := (s.points.filter (fun e => decide (4096 ≤ e.1) && e.2.src != .none)).length

/-- The first ADD with which the image passes its tier's limit, if the entries together do (R259). -/
def State.tierFail (s : State) (b : Nat) : Option Nat :=
  let lim := virtualLimit (s.tier.getD 0)
  let count (n : Nat) : Int := (List.range n).foldl (fun (m : Int) k =>
    match (s.pkgPchg b k).op with
    | 1 => m + 1
    | 2 => m - 1
    | _ => m) (s.virtuals : Int)
  if count (s.pkgPchgs b) ≤ lim then none
  else (List.range (s.pkgPchgs b)).find? (fun k => (s.pkgPchg b k).op == 1 && decide ((lim : Int) < count (k + 1)))

/-- Task table entry `t`: TCFG, PERIOD or TRIG, OFFSET or TRIG_ARG, LISTS, BUDGET (R258). -/
def State.pkgTask (s : State) (b t : Nat) : List Word :=
  (List.range 5).map (fun i => BitVec.ofNat 32 (s.le (ccb b + 0x1100 + 32 * t + 4 * i) 4))

def State.pkgIn (s : State) (b t k : Nat) : Nat := s.le (ccb b + 0x22000 + t * 0x1000 + 2 * k) 2
def State.pkgOut (s : State) (b t k : Nat) : Nat := s.le (ccb b + 0x22000 + t * 0x1000 + 0x800 + 2 * k) 2

/-- An enabled entry passes R251, judged against the sources after the changes. -/
def State.pkgTaskOk (s : State) (b t : Nat) : Bool :=
  let e := s.pkgTask b t
  let cfg := e.getD 0 0
  let kind := (e.getD 1 0).toNat % 8
  let ms := (e.getD 1 0).toNat % 0x4000
  let us := (e.getD 2 0).toNat % 0x1000000
  let nIn := (e.getD 3 0).toNat % 0x800
  let nOut := (e.getD 3 0).toNat / 0x10000 % 0x800
  let outs := ((List.range nOut).map (s.pkgOut b t)).filter (· != 0xFFFF)
  allZero (s.bytesAt (ccb b + 0x1100 + 32 * t + 20) 12) && (!cfg.getLsbD 0 ||
    (decide (nIn ≤ 1024) && decide (nOut ≤ 1024)
      && (List.range nIn).all (fun k => decide (s.pkgIn b t k < pointCount) || s.pkgIn b t k == 0xFFFF)
      && outs.all (fun p => s.srcAfter b p == .task t) && noDup outs
      && (if isCyclic t then decide (1 ≤ ms) && decide (ms ≤ 10000) && decide (us < ms * 1000) else kind != 0 && kind != 7)))

/-- The first failing part of the package at bank `b`: RESULT and DETAIL of R266; none when it passes. -/
def State.pkgFail (s : State) (b : Nat) : Option (Nat × Nat) :=
  if !s.pkgHeaderOk b || !s.persistOk b then some (3, 0xFFFF)
  else match (List.range (s.pkgMaps b)).find? (fun k => !s.pkgMapOk b k) with
  | some k => some (3, k)
  | none =>
    match (List.range (s.pkgPchgs b)).find? (fun k => !s.pchgOk b k) with
    | some k => some (3, 0x2000 + k)
    | none =>
      match (if s.pkgTasks b then (List.range taskCount).find? (fun t => !s.pkgTaskOk b t) else none) with
      | some t => some (3, 0x1000 + t)
      | none => (s.tierFail b).map (fun k => (7, 0x2000 + k))

/-! ### Answers (R266) -/

/-- RESULT of the mailbox for an answer's RESULT (log entry 13). -/
def ochgMbox (r : Nat) : Nat :=
  match r with
  | 0 => mbDone | 2 => mbEnded | 4 => mbBadSignature | 5 => mbBusy | 8 => mbTooLate | _ => mbRefused

/-- The 24 bytes of an answer. -/
def ochgAnswer (result bank detail changeId time carried fRel trig : Nat) : List Byte :=
  [BitVec.ofNat 8 result, BitVec.ofNat 8 bank] ++ natLe 2 detail ++ natLe 4 changeId ++ natLe 8 time ++ natLe 4 carried ++ natLe 2 fRel
    ++ natLe 2 trig

/-- The anchor answers core `core`: the fields at byte 0 of its buffer, and the mailbox completes. -/
def State.ochgReply (s : State) (core mb result detail changeId time carried fRel trig : Nat) : State :=
  let a := ochgAnswer result (boolNat s.ochg.bankB) detail changeId time carried fRel trig
  ((s.anchorWrite (mboxBuf core) a).ochgSet (fun o => { o with answer := a })).mboxEnd core mb

/-- A transition out of ARMED or SWITCHING, recorded with CHANGE_ID. -/
def State.ochgNote (s : State) (result : Nat) : State :=
  s.note Pg.TASK noBit (natLe 4 s.ochg.changeId.toNat ++ [BitVec.ofNat 8 result])

/-- The change ends without a switch: disarmed, with its answer. -/
def State.ochgEnd (s : State) (result : Nat) : State :=
  let s := s.ochgNote result
  let s := s.ochgReply s.ochg.core (ochgMbox result) result 0 s.ochg.changeId.toNat 0 0 0 0
  let s : State := { s with bel := { s.bel with pkg := none } }
  s.ochgSet (fun o => { o with st := .idle })

/-! ### The gap (R262) -/

/-- A quiescent gap in this cycle: TASK tests in it, IDLE is 1, and no release lies within 300 µs (R262). -/
def State.gapHere (s : State) : Bool :=
  s.ochg.testAt == some s.cyc && s.fset F.TASK_STAT_IDLE && (match s.nextRel with
    | none => true
    | some r => decide (s.now + 300000 ≤ r))

/-- The armed change finds its gap: releases, triggers and force stores are held, and the transition is recorded. -/
def State.ochgGap (s : State) : State :=
  if s.ochg.st = .armed ∧ s.gapHere then
    let s : State := { s with tasks := s.tasks.map (fun e => (e.1, { e.2 with heldTrigs := 0 })) }
    (s.ochgNote 0xFF).ochgSet (fun o => { o with st := .switching, held := true, gapTime := s.now, trigSkip := 0 })
  else s

/-! ### Arming (R260, R261, R268, R550) -/

/-- R550 on the header at byte 0 of the buffer: FORMAT, SEC_VER and BASE_BUILD; the digest is judged by `digestOk`. -/
def State.progHeaderOk (s : State) (h : List Byte) (digestOk : Bool) : Bool :=
  leOf h 0 2 == 1 && decide (s.trust.otp.counter ≤ byteOf h 2) && leOf h 4 8 == s.trust.build.toNat && digestOk

/-- An update is STAGING to SWITCHING (R558). -/
def State.updBusy (s : State) : Bool := let u := s.fget F.UPD_STAT_STATE; u == 2 || u == 3 || u == 4

/-- The listed bytes of a signature block of ALG 1 at `a`, by offset. -/
def State.blockCells (s : State) (a : Nat) : List Host.Cell :=
  (s.mem.filter (fun e => decide (a ≤ e.1) && decide (e.1 < a + 29872))).map (fun e => (e.1 - a, e.2))

/-- The pair is there: the partner must have the package (R268). -/
def State.paired (s : State) : Bool := s.fget F.BEL_ROLE_ROLE == 1

/-- The bytes of the program bank at `b`, by offset. -/
def State.cellsOf (s : State) (b : Nat) : List Host.Cell :=
  (s.mem.filter (fun e => decide (b ≤ e.1) && decide (e.1 < b + 0x400000))).map (fun e => (e.1 - b, e.2))

/-- TASK is armed for the package of bank `b`, and a pair has it to ship at the switch. -/
def State.ochgArmed (s : State) (core b : Nat) (h : List Byte) : State :=
  let block := s.blockCells (mboxBuf core + 64)
  let bank := s.cellsOf b
  ({ s with bel := { s.bel with pkg := if s.paired then some (h, block, bank) else none } } : State).ochgSet (fun o => { o with
      st := .armed, core := core, changeId := BitVec.ofNat 32 (s.pkgId b), limit := s.monoNow + 10000000000, header := h, block := block, bank := bank
      trigSkip := 0, carried := 0, fRel := 0, installed := [], heldStores := [] })

/-- OCHG_ARM. `sigOk`: PK is the key that the block names and SIG verifies (R526); `digestOk`: the digest is that of the bank; `partnerOk`: the standby
module confirms the package within 2 s. -/
def State.ochgArm (s : State) (core : Nat) (sigOk digestOk partnerOk : Bool) : State :=
  let b := s.spareBase
  let id := s.pkgId b
  let refuse (r detail : Nat) : State := s.ochgReply core (ochgMbox r) r detail id 0 0 0 0
  let h := s.bytesAt (mboxBuf core) 64
  if s.ochg.st != .idle || s.updBusy then refuse 5 0
  else if !blockOk (s.bytesAt (mboxBuf core + 64) 16) s.programKey sigOk then refuse 4 0
  else if !s.progHeaderOk h digestOk then refuse 3 0xFFFF
  else match s.pkgFail b with
  | some (r, d) => refuse r d
  | none =>
    if s.paired && !(s.fget F.BEL_ROLE_PAIR == 3 && partnerOk) then refuse 6 0 else (s.ochgArmed core b h).gapTest.ochgGap

/-- OCHG_ARM: mailbox request 0x10. -/
def execOchgArm (core : Fin 4) (sigOk digestOk partnerOk : Bool) (s : State) : Host.Outcome State Fault Refusal :=
  s.whenAwake fun s => s.mbox core 0x10 [] (s.coreComp0 core) (fun s => s.ochgArm core sigOk digestOk partnerOk)

/-- OCHG_CANCEL (R261): a gap found in its cycle goes first (R278); the request armed is answered CANCELLED as well. -/
def State.ochgCancel (s : State) (core : Nat) : State :=
  let s := s.ochgGap
  match s.ochg.st with
  | .armed => (s.ochgEnd 2).ochgReply core mbDone 2 0 s.ochg.changeId.toNat 0 0 0 0
  | .idle => s.ochgReply core mbBusy 5 0 0 0 0 0 0
  | _ => s.ochgReply core mbTooLate 8 0 s.ochg.changeId.toNat 0 0 0 0

/-- OCHG_CANCEL: mailbox request 0x11. -/
def execOchgCancel (core : Fin 4) (s : State) : Host.Outcome State Fault Refusal :=
  s.whenAwake fun s => s.mbox core 0x11 [] (s.coreComp0 core) (fun s => s.ochgCancel core)

/-- OCHG_TIMEOUT: 10 s of monotonic time pass while ARMED; a gap found in that cycle goes first (R278). -/
def execOchgTimeout (s : State) : Host.Outcome State Fault Refusal :=
  s.whenAwake fun s =>
    if s.ochg.st = .armed then
      let s := (s.reachMono s.ochg.limit).ochgGap
      if s.ochg.st = .armed then s.ochgEnd 1 else s
    else s

/-! ### The switch (R263, R264) -/

/-- Copy the carry-over ranges from the bank at `a` to the bank at `b` by the map of `b` (R257). -/
def State.carryOver (s : State) (a b : Nat) : State :=
  (List.range (s.pkgMaps b)).foldl (fun s k =>
    let (src, dst, len) := s.pkgMap b k
    (s.areaRead (a + src) len).storeWords (b + dst) ((List.range (len / 8)).map (fun i => s.storedWord (a + src + 8 * i)))) s

/-- Bytes copied. -/
def State.carryBytes (s : State) (b : Nat) : Nat := (List.range (s.pkgMaps b)).foldl (fun n k => n + (s.pkgMap b k).2.2) 0

/-- Point change `c`, with the release of an ACTIVE force on a point deleted or retyped (R259, R276). -/
def State.applyPchg (s : State) (c : Pchg) : State :=
  let change (s : State) : State :=
    if c.op = 1 ∨ c.op = 3 then s.pointStore c.pid (fun x => pchgPoint x c s.monoNow) else s.pointPut c.pid (pchgPoint (s.point c.pid) c s.monoNow)
  match s.forceOn c.pid, c.op == 2 || c.op == 3 with
  | some (k, f), true =>
    let s := s.pointMod c.pid (fun s => change (s.forcePut k { f with status := .releasedByChange, relTime := s.now }))
    ((s.forceRecord k f.pid f.value).forceAct).ochgSet (fun o => { o with fRel := o.fRel + 1 })
  | _, _ => s.pointMod c.pid change

/-- The settings of task `t` in the order of a table entry (R258). -/
def taskRegs (t : Nat) : List Nat := [R.TASK_TCFG t, R.TASK_PERIOD t, R.TASK_OFFSET t, R.TASK_LISTS t, R.TASK_BUDGET t]

/-- Task `t` already has the settings and lists of the package. -/
def State.taskSame (s : State) (b t : Nat) : Bool :=
  let e := s.pkgTask b t
  (taskRegs t).zipIdx.all (fun r => rwBits r.1 (e.getD r.2 0) == s.rd r.1)
    && (List.range (s.fget (F.TASK_LISTS_N_IN t))).all (fun k => s.pkgIn b t k == s.inPid t k)
    && (List.range (s.fget (F.TASK_LISTS_N_OUT t))).all (fun k => s.pkgOut b t k == s.outPid t k)

/-- Task `t` is installed from the package with its counters cleared; the triggers held since the gap stay in its SKIPPED (R264). -/
def State.installTask (s : State) (b t : Nat) : State :=
  let e := s.pkgTask b t
  let s := (taskRegs t).zipIdx.foldl (fun s r => s.wrRw r.1 (e.getD r.2 0)) s
  let s := s.storeWords (taskArea t + 0x4100) (wordsOf 512 (s.bytesAt (ccb b + 0x22000 + t * 0x1000) 4096))
  let en := s.fset (F.TASK_TCFG_EN t)
  let s := (s.enableStart t).taskSet t (fun x => { x with st := if en then .waiting else .disabled, skipped := x.heldTrigs })
  s.ochgSet (fun o => { o with installed := t :: o.installed })

/-- Step 4 of R263 from the package in bank `b`: point changes, forces, task table and lists. -/
def State.installPackage (s : State) (b : Nat) : State :=
  let s := (List.range (s.pkgPchgs b)).foldl (fun s k => s.applyPchg (s.pkgPchg b k)) s
  if s.pkgTasks b then (List.range taskCount).foldl (fun s t => if s.taskSame b t then s else s.installTask b t) s else s

/-- CARRY_OVER_DONE: steps 3 and 4 of R263. -/
def execCarryOverDone (s : State) : Host.Outcome State Fault Refusal :=
  s.whenAwake fun s =>
    if s.ochg.st = .switching then
      let b := s.spareBase
      let n := s.carryBytes b
      ((s.carryOver s.bankBase b).installPackage b).ochgSet (fun o => { o with st := .copied, carried := n })
    else s

/-- The lines that the map of the package in bank `b` writes: the standby module has them with the next unit. -/
def State.carriedLines (s : State) (b : Nat) : List Nat :=
  (List.range (s.pkgMaps b)).flatMap (fun k => let (_, dst, len) := s.pkgMap b k; (List.range ((dst % 64 + len + 63) / 64)).map (fun i => dst / 64 * 64 + 64 * i))

/-- Banks exchanged and AC0 and AC1 restarted at ENTRY; the installed tasks wait their 100 µs (R264). -/
def State.exchangeBanks (s : State) : State :=
  let e := s.spareBase + s.pkgEntry s.spareBase
  let s := s.ochgSet (fun o => { o with bankB := !o.bankB })
  let digest := BitVec.ofNat 256 (leNat (s.ochg.header.drop 32))
  let s : State := { s with
    boot := { s.boot with entry := (s.boot.entry.set 0 e).set 1 e }
    bel := { s.bel with dirty := s.carriedLines s.bankBase, pkgDue := s.bel.pkg, pkg := none, progDigest := digest } }
  s.ochg.installed.foldl (fun s t => s.taskSet t (fun x => { x with notBefore := s.monoNow + 100000 })) s

/-- Held force stores are applied in grant order, and TASK resumes (R277). -/
def State.releaseHold (s : State) : State :=
  let l := s.ochg.heldStores
  let s := s.ochgSet (fun o => { o with heldStores := [], held := false, installed := [] })
  l.foldl (fun s e => s.forceApply e.1 e.2) s

/-- OCHG_SWITCH_DONE: step 5 of R263 ends; answer SWITCHED. -/
def State.ochgSwitched (s : State) : State :=
  let s := s.exchangeBanks
  let s := (s.ochgSet (fun o => { o with st := .idle, recordDue := true })).releaseHold.ochgNote 0
  s.ochgReply s.ochg.core mbDone 0 0 s.ochg.changeId.toNat s.ochg.gapTime s.ochg.carried s.ochg.fRel s.ochg.trigSkip

def execOchgSwitchDone (s : State) : Host.Outcome State Fault Refusal :=
  s.whenAwake fun s => if s.ochg.st = .copied then s.ochgSwitched else s

/-! ### The program record (R267, R551) -/

def State.prog (s : State) (k : Nat) : ProgRec := s.flash.progs.toList.getD k {}

/-- The program record of the active image bank that the anchor did not write last. -/
def State.nextProg (s : State) : Nat :=
  let k := 2 * boolNat s.flash.boot.activeB
  if (s.prog k).seq ≤ (s.prog (k + 1)).seq then k else k + 1

/-- OCHG_RECORD_DONE: header, signature block and bank of the package as it was armed are in flash, the validity marker last. -/
def execOchgRecordDone (s : State) : Host.Outcome State Fault Refusal :=
  s.whenAwake fun s =>
    if s.ochg.recordDue then
      let k := s.nextProg
      let seq := max (s.prog (k / 2 * 2)).seq (s.prog (k / 2 * 2 + 1)).seq + 1
      let r : ProgRec := { valid := true, seq := seq, header := s.ochg.header, block := s.ochg.block, bank := s.ochg.bank }
      { s.ochgSet (fun o => { o with recordDue := false }) with flash := { s.flash with progs := s.flash.progs.setIfInBounds k r } }
    else s

end Sys2Proof.Machine
end

