-- ==== Sys2Proof/Machine/Can.lean ====
section
/-! DEFINITION. The field-bus controllers CAN0 to CAN3 (05 R143 to R176): states and modes, the receive ring, the transmit queues, errors. -/
namespace Sys2Proof.Machine

def State.canx (s : State) (n : Nat) : CanX := s.can.toList.getD n {}
def State.canSet (s : State) (n : Nat) (f : CanX → CanX) : State := { s with can := s.can.setIfInBounds n (f (s.canx n)) }

def canOff : Nat := 0
def canIntegrating : Nat := 1
def canActive : Nat := 2
def canPassive : Nat := 3
def canBusOff : Nat := 4
def canRecovering : Nat := 5
def canSleepPending : Nat := 6
def canSleep : Nat := 7

def State.canState (s : State) (n : Nat) : Nat := s.fget (F.CAN_STATE_STATE n)

/-- ERROR_ACTIVE or ERROR_PASSIVE. -/
def State.canOpen (s : State) (n : Nat) : Bool := s.canState n == canActive || s.canState n == canPassive

/-- CK_CAN runs: without it all four channels stop (R41). -/
def State.canClock (s : State) : Bool := !s.bit R.CLK_LOST 4

/-- R151, R477: BEL reports standby of a pair (STANDBY or WAIT), and the channel listens. -/
def State.standby (s : State) : Bool := !s.isActive

/-- The channel behaves as in LISTEN, by MODE while it runs or as a standby module's whatever MODE.REQ holds (R151). -/
def State.canListens (s : State) (n : Nat) : Bool := ((s.canx n).mode == 1 && s.canState n != canOff) || s.standby

/-! ### Ring indices (R155, R157, R158) -/

/-- Unread entries of a consumer whose index is at register `k`. -/
def State.unread (s : State) (n k : Nat) : Nat := (s.fget (F.CAN_RX_WR_INDEX n) + 65536 - (s.rd k).toNat % 65536) % 65536

def State.unreadFw (s : State) (n : Nat) : Nat := s.unread n (R.CAN_RX_RD_FW n)
def State.unreadIos (s : State) (n : Nat) : Nat := s.unread n (R.CAN_RX_RD_IOS n)

def ringSize : Nat := 4096

/-- The ring has no free entry for the consumer that is further behind. -/
def State.ringFull (s : State) (n : Nat) : Bool :=
  decide (ringSize ≤ s.unreadIos n) || (s.fset (F.CAN_RX_CFG_FW_CONSUMER n) && decide (ringSize ≤ s.unreadFw n))

/-- BLK_STAT, STATE's derived bits, WIN_VALID and the pins follow the channel (R58, R157, R174, R175). -/
def State.canStat (s : State) (n : Nat) : State :=
  let st := s.canState n
  let tec := s.fget (F.CAN_ERR_CNT_TEC n)
  let rec_ := s.fget (F.CAN_ERR_CNT_REC n)
  let s := ((s.fput (F.CAN_STAT_OPEN n) (boolNat (s.canOpen n))).fput (F.CAN_STAT_STANDBY_LISTEN n) (boolNat s.standby)).fput
    (F.CAN_STAT_RX_FULL n) (boolNat (s.ringFull n))
  let s := (s.fput (F.CAN_STATE_WARN n) (boolNat (decide (96 ≤ tec) || decide (96 ≤ rec_)))).fput
    (F.CAN_STATE_LISTEN_ACT n) (boolNat (s.canListens n))
  let win := s.fset (F.CAN_RX_CFG_FW_CONSUMER n) && s.unreadFw n != 0
  let s := s.fput (F.CAN_RX_RD_FW_WIN_VALID n) (boolNat win)
  let stb := if st = canOff then false else if st = canSleep then s.fset (F.CAN_WAKE_CFG_SEL n) else true
  let quiet := (s.canx n).tx.isNone || (s.canx n).mode != 0 || s.standby
  { s with pins := { s.pins with canStbN := s.pins.canStbN.setIfInBounds n stb, canTxd := s.pins.canTxd.setIfInBounds n quiet } }

/-- The channel enters a state. -/
def State.canGo (s : State) (n st : Nat) : State := (s.fput (F.CAN_STATE_STATE n) st).canStat n

/-- A change of MODE.REQ that does not involve sleep takes effect at the next bus idle (R149): after the own frame in progress, and for a frame that is
being received after that frame, which runs under the mode before. -/
def State.canAdopt (s : State) (n : Nat) : State :=
  let req := s.fget (F.CAN_MODE_REQ n)
  if (s.canx n).tx.isNone ∧ req ≠ 3 ∧ req ≠ (s.canx n).mode then
    (s.canSet n (fun x => { x with mode := req, modeOld := x.mode, modeAt := s.now })).canStat n
  else s.canStat n

/-- MODE.REQ is SLEEP: the frame in progress is completed and no new one starts (R148). -/
def State.canSleepBegin (s : State) (n : Nat) : State :=
  (s.canSet n (fun x => { x with stateBefore := s.canState n })).canGo n canSleepPending

/-- BUS_OFF is entered (R148, R166). -/
def State.canBusOffEnter (s : State) (n : Nat) : State :=
  let s := if s.canState n = canSleepPending then s.fput (F.CAN_MODE_REQ n) (s.canx n).reqBefore else s
  let s := (s.canSet n (fun x => { x with tx := none })).canGo n canBusOff
  ((s.fput (F.CAN_ERR_CNT_TEC n) 256).raise (Pg.CAN n) Ev.CAN_BUS_OFF).note (Pg.CAN n) Ev.CAN_BUS_OFF [BitVec.ofNat 8 n]

/-- The error state follows the counters (R148). -/
def State.canErrState (s : State) (n : Nat) : State :=
  let st := s.canState n
  let tec := s.fget (F.CAN_ERR_CNT_TEC n)
  let high := decide (127 < tec) || decide (127 < s.fget (F.CAN_ERR_CNT_REC n))
  if 255 < tec ∧ (st = canActive ∨ st = canPassive ∨ st = canSleepPending) then s.canBusOffEnter n
  else if st = canActive ∧ high = true then (s.canGo n canPassive).raise (Pg.CAN n) Ev.CAN_ERR_PASSIVE
  else if st = canPassive ∧ high = false then s.canGo n canActive
  else s.canStat n

/-! ### Bit timing and enabling (R145, R147, R148) -/

/-- A bit timing (R145): the prescaler in CK_CAN cycles of 12.5 ns, the segments, the jump width and the delay compensation in tq. -/
structure Timing where
  brp : Nat
  tseg1 : Nat
  tseg2 : Nat
  sjw : Nat
  tdc : Nat
deriving DecidableEq, Repr

/-- The bit length in CK_CAN cycles. -/
def Timing.cycles (t : Timing) : Nat := t.brp * (1 + t.tseg1 + t.tseg2)

/-- The sample point, in CK_CAN cycles after the bit's start. -/
def Timing.sample (t : Timing) : Nat := t.brp * (1 + t.tseg1)

/-- The presets of R145: nominal, at 500 kbit/s and 1 Mbit/s. -/
def presetNom (oneMbit : Bool) : Timing := { brp := if oneMbit then 1 else 2, tseg1 := 63, tseg2 := 16, sjw := 16, tdc := 0 }

/-- And of the data phase, by RATE.DATA; none without bit-rate switching. -/
def presetData : Nat → Option Timing
  | 1 => some { brp := 1, tseg1 := 29, tseg2 := 10, sjw := 10, tdc := 30 }
  | 2 => some { brp := 1, tseg1 := 11, tseg2 := 4, sjw := 4, tdc := 12 }
  | 3 => some { brp := 1, tseg1 := 6, tseg2 := 3, sjw := 3, tdc := 7 }
  | _ => none

/-- The timing that an expert bit-timing register spells (R176). -/
def btTiming (v : Word) : Timing :=
  let f (hi lo : Nat) : Nat := v.toNat / 2 ^ lo % 2 ^ (hi + 1 - lo)
  { brp := f 28 24, tseg1 := f 7 0, tseg2 := f 14 8, sjw := f 22 16, tdc := 0 }

/-- Length of a nominal bit in CK_CAN cycles, and in ns. -/
def State.nomCycles (s : State) (n : Nat) : Nat := (presetNom (s.fset (F.CAN_RATE_NOM n))).cycles
def State.nomNs (s : State) (n : Nat) : Nat := if s.fset (F.CAN_RATE_NOM n) then 1000 else 2000

/-- Length of a data bit: 0 when the rate is not switched. -/
def State.dataCycles (s : State) (n : Nat) : Nat := ((presetData (s.fget (F.CAN_RATE_DATA n))).map Timing.cycles).getD 0

/-- A nonzero expert timing keeps the preset bit length, SJW at most TSEG2 and TSEG2 at least `least` (R147). SJW 0 and TSEG1 0 lie outside the ranges that
R176 gives and are refused too. DESIGN CHOICE, log entry 49. -/
def btValid (v : Word) (cycles least : Nat) : Bool :=
  let t := btTiming v
  decide (1 ≤ t.brp) && decide (t.brp ≤ 16) && t.cycles == cycles && decide (1 ≤ t.sjw) && decide (t.sjw ≤ t.tseg2) && decide (least ≤ t.tseg2) &&
    t.tseg1 != 0

/-- The timings in force: the expert register's where it passed the check at the enable, the preset otherwise (R147). -/
def State.nomTiming (s : State) (n : Nat) : Timing :=
  if (s.canx n).btNomOk then btTiming (s.rd (R.CAN_BT_NOM n)) else presetNom (s.fset (F.CAN_RATE_NOM n))

def State.dataTiming (s : State) (n : Nat) : Option Timing :=
  (presetData (s.fget (F.CAN_RATE_DATA n))).map (fun p => if (s.canx n).btDataOk then { (btTiming (s.rd (R.CAN_BT_DATA n))) with tdc := p.tdc } else p)

/-- The secondary sample point of a frame whose transmitter delay measures `m` CK_CAN cycles: the delay plus TDC.OFFSET, or the preset offset where that
is 0 (R146, R176). -/
def State.sspOf (s : State) (n m : Nat) : Nat :=
  match s.dataTiming n with
  | none => 0
  | some t => m + t.brp * (if s.fget (F.CAN_TDC_OFFSET n) = 0 then t.tdc else s.fget (F.CAN_TDC_OFFSET n))

/-- The check of the expert timings at the enable. -/
def State.canBtCheck (s : State) (n : Nat) : State :=
  let nom := s.rd (R.CAN_BT_NOM n)
  let dat := s.rd (R.CAN_BT_DATA n)
  let dc := s.dataCycles n
  let nomOk := nom != 0 && btValid nom (s.nomCycles n) 2
  let datOk := dc != 0 && dat != 0 && btValid dat dc 1
  let bad := (nom != 0 && !nomOk) || (dc != 0 && dat != 0 && !datOk)
  let s := if bad then s.flag (F.CAN_FAULT_BT_INVALID n) else s
  s.canSet n (fun x => { x with btNomOk := nomOk, btDataOk := datOk })

/-- The channel integrates. -/
def State.canStart (s : State) (n : Nat) : State :=
  let s := s.canSet n (fun x => { x with mode := if s.fget (F.CAN_MODE_REQ n) = 3 then x.reqBefore else s.fget (F.CAN_MODE_REQ n) })
  ((s.fput (F.CAN_ERR_CNT_TEC n) 0).fput (F.CAN_ERR_CNT_REC n) 0).canGo n canIntegrating

/-- ENABLE changes from 0 to 1. An own frame that was in progress when ENABLE was cleared ends first. -/
def State.canEnable (s : State) (n : Nat) : State :=
  let s := s.canBtCheck n
  if (s.canx n).tx.isSome then s else s.canStart n

/-- ENABLE is cleared: OFF, after an own frame in progress. A frame being received is completed and stored, with STATE reading OFF already (DESIGN CHOICE,
log entry 55). -/
def State.canDisable (s : State) (n : Nat) : State :=
  if (s.canx n).tx.isSome then s.canSet n (fun x => { x with closing := true })
  else (s.canSet n (fun x => { x with closeAt := if s.canOpen n || s.canState n == canSleepPending then some s.now else none })).canGo n canOff

/-- The frame in progress has ended. -/
def State.canIdle (s : State) (n : Nat) : State :=
  let s := s.canSet n (fun x => { x with tx := none })
  if (s.canx n).closing then
    let s := (s.canSet n (fun x => { x with closing := false })).canGo n canOff
    if s.enabled (Pg.CAN n) then s.canStart n else s
  else s.canAdopt n

/-! ### The receive ring (R152 to R159) -/

def ringBase (n : Nat) : Nat := 0x10B00000 + n * 0x50000

/-- Data bytes of a DLC (R153). -/
def dlcLen (fdf : Bool) (dlc : Nat) : Nat :=
  if dlc ≤ 8 then dlc
  else if fdf then (match dlc with | 9 => 12 | 10 => 16 | 11 => 20 | 12 => 24 | 13 => 32 | 14 => 48 | _ => 64)
  else 8

/-- The 80 bytes of a ring entry. -/
def ringEntry (ts : Nat) (f : CanFrame) (own ovf : Bool) (seq tag : Nat) : List Byte :=
  let len := if f.rtr then 0 else dlcLen f.fdf f.dlc
  let id := if f.ide then f.id.toNat else f.id.toNat % 0x800
  natLe 8 ts ++ natLe 4 (id + boolNat f.ide * 2 ^ 29 + boolNat f.rtr * 2 ^ 30)
    ++ natLe 4 (f.dlc % 16 + len * 16 + boolNat f.fdf * 2 ^ 11 + boolNat f.brs * 2 ^ 12 + boolNat f.esi * 2 ^ 13 + boolNat own * 2 ^ 14
      + boolNat ovf * 2 ^ 15 + seq % 256 * 2 ^ 16 + tag % 256 * 2 ^ 24)
    ++ padTo 64 (f.data.take len)

/-- A frame finds the ring full and is discarded (R158). -/
def State.ringLose (s : State) (n : Nat) : State :=
  let l := match (s.canx n).lost with
    | none => (1, s.now)
    | some (k, t) => (k + 1, t)
  (((s.canSet n (fun x => { x with lost := some l })).countSat (R.CAN_RX_OVF n) 1).raise (Pg.CAN n) Ev.CAN_RX_OVF).canStat n

def State.wmLevel (s : State) (n : Nat) : Nat := clampN 1 4096 (s.fget (F.CAN_RX_WM_LEVEL n))

/-- The entry at RX_RD_FW is loaded into the head window. One with an uncorrectable word is discarded and counted as a frame lost (R131; log entry 48). -/
def State.winLoad (s : State) (n : Nat) : Nat → State
  | 0 => s.canStat n
  | fuel + 1 =>
    if s.fset (F.CAN_RX_CFG_FW_CONSUMER n) && s.unreadFw n != 0 then
      let idx := s.fget (F.CAN_RX_RD_FW_INDEX n)
      let (ok, t) := s.eccScan .can (wordsIn (ringBase n + 80 * (idx % ringSize)) 80)
      if ok then t.canStat n
      else (((t.countSat (R.CAN_RX_OVF n) 1).raise (Pg.CAN n) Ev.CAN_RX_OVF).fput (F.CAN_RX_RD_FW_INDEX n) ((idx + 1) % 65536)).winLoad n fuel
    else s.canStat n

/-- The word at `k` of the head window (R157): the entry at RX_RD_FW, which stays in the ring while it is unread; 0 while WIN_VALID is 0. -/
def State.canWindow (s : State) (n k : Nat) : Option Nat :=
  if R.CAN_RXW n 0 ≤ k ∧ k ≤ R.CAN_RXW n 19 then
    some (if s.fset (F.CAN_RX_RD_FW_WIN_VALID n) then
      s.le (ringBase n + 80 * (s.fget (F.CAN_RX_RD_FW_INDEX n) % ringSize) + (k - R.CAN_RXW n 0)) 4 else 0)
  else none

/-- An entry is stored: RX_WR, the record of a run of losses, the watermark and its timer, and a disabled scan engine's index. -/
def State.ringStore (s : State) (n ts : Nat) (f : CanFrame) (own : Bool) (tag : Nat) : State :=
  let x := s.canx n
  let wr := s.fget (F.CAN_RX_WR_INDEX n)
  let a := ringBase n + 80 * (wr % ringSize)
  let s := s.storeWords a (wordsOf 10 (ringEntry ts f own x.lost.isSome x.seq tag))
  let s := match x.lost with
    | some (k, t) => s.note (Pg.CAN n) Ev.CAN_RX_OVF ([BitVec.ofNat 8 n] ++ natLe 4 k ++ natLe 8 t ++ natLe 8 ts)
    | none => s
  let s := (s.fput (F.CAN_RX_WR_INDEX n) ((wr + 1) % 65536)).countWrap (R.CAN_RX_FRAMES n) 1
  let s := s.canSet n (fun x => { x with seq := (x.seq + 1) % 256, lost := none })
  let s := if s.enabled Pg.IOS then s else s.fput (F.CAN_RX_RD_IOS_INDEX n) (s.fget (F.CAN_RX_WR_INDEX n))
  let s :=
    if s.fset (F.CAN_RX_CFG_FW_CONSUMER n) then
      let s := if s.unreadFw n = 1 then (s.canSet n (fun x => { x with wmFrom := s.cyc, wmDone := false })).winLoad n 1 else s
      if s.wmLevel n ≤ s.unreadFw n then s.raise (Pg.CAN n) Ev.CAN_RX_WM else s
    else s
  s.canStat n

/-- A frame becomes valid: stored or lost. -/
def State.ringTake (s : State) (n ts : Nat) (f : CanFrame) (own : Bool) (tag : Nat) : State :=
  if s.ringFull n then s.ringLose n else s.ringStore n ts f own tag

/-- The mode under which a frame whose SOF came at `sof` runs (R149, R151): LISTEN on a standby module. -/
def State.modeFor (s : State) (n sof : Nat) : Nat :=
  if s.standby then 1 else if sof < (s.canx n).modeAt then (s.canx n).modeOld else (s.canx n).mode

/-- ENABLE was cleared while the frame was being received. -/
def State.canFinishes (s : State) (n sof : Nat) : Bool :=
  (s.canState n == canOff || s.canState n == canIntegrating) && (match (s.canx n).closeAt with | some t => decide (sof < t) | none => false)

/-- A frame of another node is stored in these states and modes (R144, R148, R150, R166). -/
def State.canReceives (s : State) (n sof : Nat) : Bool :=
  s.canClock && (s.canOpen n || s.canState n == canSleepPending || s.canFinishes n sof) && s.modeFor n sof != 2

/-- REC falls after a reception: by 1 up to 127; above that ISO 11898-1 leaves a value from 119 to 127, which is free here (log entry 16). -/
def State.recDown (s : State) (n : Nat) : State :=
  let r := s.fget (F.CAN_ERR_CNT_REC n)
  if r = 0 then s
  else if r ≤ 127 then s.fput (F.CAN_ERR_CNT_REC n) (r - 1)
  else
    let (v, s) := s.draw
    s.fput (F.CAN_ERR_CNT_REC n) (119 + v.toNat % 9)

/-- CAN_RX_WM_TIMEOUT (R159). -/
def execCanRxWmTimeout (ch : Fin 4) (s : State) : Host.Outcome State Fault Refusal :=
  s.whenAwake fun s =>
    let t := s.fget (F.CAN_RX_WM_TIMEOUT_US ch)
    if t = 0 ∨ s.unreadFw ch = 0 ∨ s.fset (F.CAN_RX_CFG_FW_CONSUMER ch) = false ∨ (s.canx ch).wmDone = true then s
    else ((s.reachCyc ((s.canx ch).wmFrom + cycUs t)).canSet ch (fun x => { x with wmDone := true })).raise (Pg.CAN ch) Ev.CAN_RX_WM

/-- RX_RD_FW moves to `idx`: entries are released, the timeout starts again where it advances, and the window is loaded. -/
def State.rdFwMove (s : State) (n idx : Nat) : State :=
  if s.fget (F.CAN_RX_RD_FW_INDEX n) = idx then s
  else ((s.fput (F.CAN_RX_RD_FW_INDEX n) idx).canSet n (fun x => { x with wmFrom := s.cyc, wmDone := false })).winLoad n ringSize

/-- CMD.POP. -/
def State.canPop (s : State) (n : Nat) : State :=
  if s.fset (F.CAN_RX_RD_FW_WIN_VALID n) then s.rdFwMove n ((s.fget (F.CAN_RX_RD_FW_INDEX n) + 1) % 65536) else s.flag (F.CAN_FAULT_BAD_CMD n)

/-- A write of RX_RD_FW: never backward, never beyond RX_WR (R173); writable only while FW_CONSUMER is 1 (R155). -/
def State.rdFwWrite (s : State) (n idx : Nat) : State :=
  if s.fset (F.CAN_RX_CFG_FW_CONSUMER n) = false then s.flag (F.CAN_FAULT_BAD_WRITE n)
  else if (idx + 65536 - s.fget (F.CAN_RX_RD_FW_INDEX n)) % 65536 ≤ s.unreadFw n then s.rdFwMove n idx
  else s.flag (F.CAN_FAULT_RING_PTR n)

/-- A write of RX_CFG: firmware starts with an empty ring (R155). -/
def State.rxCfgWrite (s : State) (n : Nat) (fw : Bool) : State :=
  let s := if fw && !s.fset (F.CAN_RX_CFG_FW_CONSUMER n) then s.fput (F.CAN_RX_RD_FW_INDEX n) (s.fget (F.CAN_RX_WR_INDEX n)) else s
  (s.fput (F.CAN_RX_CFG_FW_CONSUMER n) (boolNat fw)).canStat n

/-- CAN_POP. -/
def execCanPop (req : Req) (ch : Fin 4) (s : State) : Host.Outcome State Fault Refusal := s.regCmd req (R.CAN_CMD ch) (fun s => s.canPop ch)
/-- CAN_RX_RD_FW_WRITE. -/
def execCanRxRdFwWrite (req : Req) (ch : Fin 4) (index : BitVec 16) (s : State) : Host.Outcome State Fault Refusal :=
  s.regCmd req (R.CAN_RX_RD_FW ch) (fun s => s.rdFwWrite ch index.toNat)
/-- CAN_RX_CFG_WRITE. -/
def execCanRxCfgWrite (req : Req) (ch : Fin 4) (fwConsumer : Bool) (s : State) : Host.Outcome State Fault Refusal :=
  s.regCmd req (R.CAN_RX_CFG ch) (fun s => s.rxCfgWrite ch fwConsumer)

/-! ### Transmit queues (R160 to R165) -/

def qBase (n q : Nat) : Nat := 0x10C40000 + n * 0x8000 + (if q = 0 then 0 else if q = 1 then 0x5000 else 0x6400)
def qSize (q : Nat) : Nat := if q = 0 then 256 else 64
def qWr (n q : Nat) : Nat := if q = 0 then R.CAN_TXQ0_WR n else if q = 1 then R.CAN_TXQ1_WR n else R.CAN_TXQ2_WR n
def qRd (n q : Nat) : Nat := if q = 0 then R.CAN_TXQ0_RD n else if q = 1 then R.CAN_TXQ1_RD n else R.CAN_TXQ2_RD n
def qCfg (n q : Nat) : Nat := if q = 1 then R.CAN_TXQ1_CFG n else R.CAN_TXQ2_CFG n

/-- Descriptors waiting in a queue. -/
def State.qCount (s : State) (n q : Nat) : Nat := ((s.rd (qWr n q)).toNat + 65536 - (s.rd (qRd n q)).toNat) % 65536

/-- Address of the descriptor with index `i`. -/
def descAddr (n q i : Nat) : Nat := qBase n q + 80 * (i % qSize q)

/-- Address of the head descriptor, if any. -/
def State.qHead (s : State) (n q : Nat) : Option Nat := if s.qCount n q = 0 then none else some (descAddr n q (s.rd (qRd n q)).toNat)

/-- The fields of a descriptor (R161). -/
structure Desc where
  launch : Nat
  id : Nat
  ide : Bool
  rtr : Bool
  dlc : Nat
  fdf : Bool
  brs : Bool
  dropLate : Bool
  tag : Nat
deriving DecidableEq, Repr

def State.desc (s : State) (a : Nat) : Desc :=
  let w8 := s.le (a + 8) 4
  let w12 := s.le (a + 12) 4
  { launch := s.le a 8, id := w8 % 2 ^ 29, ide := w8 / 2 ^ 29 % 2 == 1, rtr := w8 / 2 ^ 30 % 2 == 1, dlc := w12 % 16,
    fdf := w12 / 2 ^ 11 % 2 == 1, brs := w12 / 2 ^ 12 % 2 == 1, dropLate := w12 / 2 ^ 14 % 2 == 1, tag := w12 / 2 ^ 24 % 256 }

/-- The controller refuses the descriptor (R161). -/
def State.descRefused (s : State) (n : Nat) (d : Desc) : Bool :=
  !d.ide || d.rtr || (d.brs && !d.fdf) || (d.brs && s.fget (F.CAN_RATE_DATA n) == 0)

/-- Worst-case time of a frame in ns: R194 for a CAN FD frame, the family's bound with stuff bits for a classical one (log entry 15). -/
def State.frameNs (s : State) (n : Nat) (d : Desc) : Nat :=
  let b := dlcLen d.fdf d.dlc
  let dataNs := if d.brs then (match s.fget (F.CAN_RATE_DATA n) with | 1 => 500 | 2 => 200 | 3 => 125 | _ => s.nomNs n) else s.nomNs n
  if d.fdf then 81 * s.nomNs n + (10 * b + 50) * dataNs else (67 + 8 * b + (53 + 8 * b) / 4) * s.nomNs n

/-- The queue's heads may be offered. -/
def State.qOffered (s : State) (n q : Nat) : Bool := q == 0 || (s.rd (qCfg n q)).getLsbD 0

/-- SYNC has the lowest identifier and leaves through Q0 (R181, R182). -/
def isSync (q : Nat) (d : Desc) : Bool := q == 0 && d.id == 0

/-- Lateness limit of a descriptor, in ns after LAUNCH (R163, R182, R191); SYNC_CFG.LATE_US of 0 is taken as 1 (R215). -/
def State.maxLate (s : State) (n q : Nat) (d : Desc) : Nat :=
  let us := if isSync q d then max 1 (s.fget F.FNET_SYNC_CFG_LATE_US)
    else if q = 0 then s.fget F.FNET_Q0_CFG_MAX_LATE_US
    else if q = 1 then s.fget (F.CAN_TXQ1_CFG_MAX_LATE_US n) else s.fget (F.CAN_TXQ2_CFG_MAX_LATE_US n)
  if us = 0 then s.nomNs n else us * 1000

def stSent : Nat := 1
def stSentLate : Nat := 2
def stDroppedLate : Nat := 3
def stAborted : Nat := 4
def stRefused : Nat := 5

/-- The head of a queue retires: write-back, RD, TX_DONE and TX_LATE (R161, R163, R165). -/
def State.retire (s : State) (n q status ts len : Nat) (esi : Bool) : State :=
  match s.qHead n q with
  | none => s
  | some a =>
    let w := s.le (a + 12) 4
    let w' := w - w / 16 % 128 * 16 - w / 2 ^ 13 % 2 * 2 ^ 13 - w / 2 ^ 16 % 256 * 2 ^ 16 + len * 16 + boolNat esi * 2 ^ 13 + status * 2 ^ 16
    let s := (s.storeWord a (BitVec.ofNat 64 ts)).storeWord (a + 8) (BitVec.ofNat 64 (s.le (a + 8) 4 + w' * 2 ^ 32))
    let s := s.wr (qRd n q) (BitVec.ofNat 32 (((s.rd (qRd n q)).toNat + 1) % 65536))
    let s := s.canSet n (fun x => { x with tried := x.tried.setIfInBounds q false })
    let s := if q != 0 && (s.rd (qCfg n q)).getLsbD 1 then s.raise (Pg.CAN n) Ev.CAN_TX_DONE else s
    if status = stSentLate ∨ status = stDroppedLate then s.raise (Pg.CAN n) Ev.CAN_TX_LATE else s

/-- Retire `k` heads as ABORTED. -/
def State.abortHeads (s : State) (n q : Nat) : Nat → State
  | 0 => s
  | k + 1 => (s.retire n q stAborted 0 0 false).abortHeads n q k

/-- CMD.ABORT_Qm (R164): a descriptor whose attempt is on the bus finishes it first. -/
def State.canAbort (s : State) (n q : Nat) : State :=
  match (s.canx n).tx with
  | some t =>
    if t.queue = q then s.canSet n (fun x => { x with tx := some { t with abortTo := some (s.rd (qWr n q)).toNat } })
    else s.abortHeads n q (s.qCount n q)
  | none => s.abortHeads n q (s.qCount n q)

/-- After an attempt that an abort named, the descriptors up to the abort retire. -/
def State.abortRest (s : State) (n : Nat) (t : TxAtt) : State :=
  match t.abortTo with
  | some w => s.abortHeads n t.queue ((w + 65536 - (s.rd (qRd n t.queue)).toNat) % 65536)
  | none => s

/-- The attempt on the bus fails, by an error or a lost arbitration: its frame is offered again at the next point, or retires ABORTED where an abort
named it (R162, R164). -/
def State.attemptFails (s : State) (n : Nat) : State :=
  match (s.canx n).tx with
  | none => s
  | some t =>
    let s := if t.abortTo.isSome then (s.retire n t.queue stAborted 0 0 false).abortRest n t else s
    s.canIdle n

/-- A frame of another node becomes valid, its SOF at module time `sof`. An own attempt on the bus lost arbitration to it. -/
def State.canRx (s : State) (n : Nat) (f : CanFrame) (sof : Nat) : State :=
  if s.canReceives n sof then (((s.recDown n).ringTake n sof f false 0).attemptFails n).canErrState n else s

/-- CAN_ABORT_Q1. -/
def execCanAbortQ1 (req : Req) (ch : Fin 4) (s : State) : Host.Outcome State Fault Refusal := s.regCmd req (R.CAN_CMD ch) (fun s => s.canAbort ch 1)
/-- CAN_ABORT_Q2. -/
def execCanAbortQ2 (req : Req) (ch : Fin 4) (s : State) : Host.Outcome State Fault Refusal := s.regCmd req (R.CAN_CMD ch) (fun s => s.canAbort ch 2)

/-- A write of TXQm_WR (R160): within the queue, and never backward. -/
def State.txqWrWrite (s : State) (n q idx : Nat) : State :=
  let d := (idx + 65536 - (s.rd (qRd n q)).toNat) % 65536
  if d ≤ qSize q ∧ s.qCount n q ≤ d then s.wr (qWr n q) (BitVec.ofNat 32 idx) else s.flag (F.CAN_FAULT_RING_PTR n)

/-- CAN_TXQ_WR_WRITE: of Q1, or of Q2. -/
def execCanTxqWrWrite (req : Req) (ch : Fin 4) (second : Bool) (index : BitVec 16) (s : State) : Host.Outcome State Fault Refusal :=
  s.regCmd req (qWr ch (if second then 2 else 1)) (fun s => s.txqWrWrite ch (if second then 2 else 1) index.toNat)

/-- Refused descriptors at the heads retire with STATUS 5. So does one with an uncorrectable word: its frame is discarded and counted with the frames lost
(R131; log entry 48). -/
def State.retireRefused (s : State) (n q : Nat) : Nat → State
  | 0 => s
  | k + 1 =>
    match s.qHead n q with
    | none => s
    | some a =>
      if s.qOffered n q then
        let (ok, t) := s.eccScan .can (wordsIn a 80)
        if ok = false then (((t.countSat (R.CAN_RX_OVF n) 1).raise (Pg.CAN n) Ev.CAN_RX_OVF).retire n q stRefused 0 0 false).retireRefused n q k
        else if s.descRefused n (s.desc a) then (t.retire n q stRefused 0 0 false).retireRefused n q k
        else t
      else s

/-- The head of queue `q` is ready (R162). -/
def State.headReady (s : State) (n q : Nat) : Option Desc :=
  match s.qHead n q with
  | none => none
  | some a => if s.qOffered n q && decide ((s.desc a).launch ≤ s.now) then some (s.desc a) else none

/-- A frame started now would run past the launch time of another head that waits (R163). -/
def State.wouldBlock (s : State) (n : Nat) (d : Desc) : Bool :=
  [0, 1, 2].any (fun q =>
    match s.qHead n q with
    | none => false
    | some a => s.qOffered n q && decide (s.now < (s.desc a).launch) && decide ((s.desc a).launch < s.now + s.frameNs n d))

/-- The choice of R162: the lowest identifier, then Q0 before Q1 before Q2. -/
def State.txChoice (s : State) (n : Nat) : Option (Nat × Desc) :=
  [0, 1, 2].foldl (fun best q =>
    match s.headReady n q, best with
    | none, b => b
    | some d, none => some (q, d)
    | some d, some (p, e) => if d.id < e.id then some (q, d) else some (p, e)) none

/-- The channel may start a frame: open, idle, NORMAL or LOOPBACK, not held in listen, and past the bit time of a handover (R151). -/
def State.canSends (s : State) (n : Nat) : Bool :=
  s.canOpen n && (s.canx n).tx.isNone && ((s.canx n).mode == 0 || (s.canx n).mode == 2) && !s.standby && s.canClock && !s.sup.asleep &&
    decide ((s.canx n).notBefore ≤ s.cyc)

/-- BEL reports the module active: no frame starts within a nominal bit time of that instant (R151; log entry 55). -/
def State.canActivate (s : State) (n : Nat) : State :=
  (s.canSet n (fun x => { x with notBefore := s.cyc + s.nomCycles n * 5 })).canAdopt n

/-- BEL reports the module standby: its transmitter falls silent, and an attempt on the bus ends (R59, R151). -/
def State.canQuiet (s : State) (n : Nat) : State := (s.attemptFails n).canStat n

/-- CAN_TX_START: a point at which the controller may start a frame; the SOF is stamped by the channel's follower counter (R36, R161). -/
def State.canTxStart (s : State) (n : Nat) : State :=
  if s.canSends n then
    let s := [0, 1, 2].foldl (fun s q => s.retireRefused n q (qSize q)) s
    match s.txChoice n with
    | none => s
    | some (q, d) =>
      if s.wouldBlock n d then s
      else
        let (sof, s) := s.follower 4
        (s.canSet n (fun x => { x with tx := some { queue := q, sof := sof }, tried := x.tried.setIfInBounds q true })).canStat n
  else s

def execCanTxStart (ch : Fin 4) (s : State) : Host.Outcome State Fault Refusal := s.whenAwake fun s => s.canTxStart ch

/-- The frame that descriptor `d` at `a` sends. -/
def State.descFrame (s : State) (n : Nat) (a : Nat) (d : Desc) : CanFrame :=
  { id := BitVec.ofNat 29 d.id, ide := true, rtr := false, dlc := d.dlc, fdf := d.fdf, brs := d.brs, esi := s.canState n == canPassive && d.fdf,
    data := s.bytesAt (a + 16) (dlcLen d.fdf d.dlc) }

/-- The transmitter delay of a BRS frame is measured: TDC.MEAS and the secondary sample point (R146). -/
def State.tdcMeasured (s : State) (n : Nat) (d : Desc) (m : Nat) : State :=
  if d.brs then (s.fput (F.CAN_TDC_MEAS n) (min 127 m)).canSet n (fun x => { x with ssp := s.sspOf n m }) else s

/-- The frame on the bus becomes valid for the transmitter (R154, R161, R163): its OWN entry, the descriptor's write-back and the counters.
Answers the queue, the SOF and the descriptor, for the rules of SYNC. -/
def State.canSentNow (s : State) (n loopDelay measured : Nat) : State × Option (Nat × Nat × Desc) :=
  match (s.canx n).tx with
  | none => (s, none)
  | some t =>
    match s.qHead n t.queue with
    | none => (s, none)
    | some a =>
      let d := s.desc a
      let f := s.descFrame n a d
      let ts := if (s.canx n).mode = 2 then t.sof else t.sof + loopDelay
      let late := d.launch != 0 && (decide (d.launch + s.nomNs n < t.sof))
      let s := s.ringTake n ts f true d.tag
      let s := s.retire n t.queue (if late then stSentLate else stSent) t.sof (dlcLen d.fdf d.dlc) f.esi
      let s := (s.countWrap (R.CAN_TX_FRAMES n) 1).fput (F.CAN_ERR_CNT_TEC n) (s.fget (F.CAN_ERR_CNT_TEC n) - 1)
      let s := s.tdcMeasured n d measured
      (((s.abortRest n t).canIdle n).canErrState n, some (t.queue, t.sof, d))

/-- The head of a queue is to be dropped for lateness (R163): its limit, if the rule applies to it. -/
def State.dropLimit (s : State) (n q : Nat) : Option (Nat × Desc) :=
  match s.qHead n q with
  | none => none
  | some a =>
    let d := s.desc a
    if d.dropLate && d.launch != 0 && !(s.canx n).tried.toList.getD q false then some (d.launch + s.maxLate n q d, d) else none

/-! ### Errors (R148, R166, R167) -/

def lecCode : CanErr → Nat
  | .stuff => 1 | .form => 2 | .ack => 3 | .bitRecessive => 4 | .bitDominant => 5 | .crc => 6

/-- The counter of ERR_TYPE that an error adds to. -/
def errField (n : Nat) : CanErr → Fld
  | .stuff => F.CAN_ERR_TYPE_STUFF n
  | .form => F.CAN_ERR_TYPE_FORM n
  | .crc => F.CAN_ERR_TYPE_CRC n
  | _ => F.CAN_ERR_TYPE_ACK_BIT n

/-- CAN_PROTOCOL_ERROR: the increments of TEC and REC are those of ISO 11898-1 for the error, given with it (log entry 16). -/
def State.canError (s : State) (n : Nat) (k : CanErr) (inData : Bool) (tecInc recInc : Nat) : State :=
  if s.canClock && (s.canOpen n || s.canState n == canSleepPending) then
    let s := ((s.fput (F.CAN_STATE_LEC n) (lecCode k)).fput (F.CAN_STATE_LEC_DATA n) (boolNat inData)).addSat (errField n k) 1
    let s := (s.fput (F.CAN_ERR_CNT_TEC n) (min 256 (s.fget (F.CAN_ERR_CNT_TEC n) + tecInc))).addSat (F.CAN_ERR_CNT_REC n) recInc
    (s.attemptFails n).canErrState n
  else s

/-- The descriptor of the attempt on the bus. -/
def State.attemptDesc (s : State) (n : Nat) : Option Desc :=
  match (s.canx n).tx with
  | none => none
  | some t => (s.qHead n t.queue).map s.desc

/-- A measured transmitter delay above 100 cycles is a bit error in the data phase (R146): 8 more in TEC (log entry 16); whether a recessive or a dominant
bit failed is a free value. -/
def State.delayError (s : State) (n : Nat) (d : Desc) (m : Nat) : State :=
  let (v, s) := (s.tdcMeasured n d m).draw
  s.canError n (if v.getLsbD 0 then .bitRecessive else .bitDominant) true 8 0

/-- An own frame ends as a success on the bus, unless its measured transmitter delay is too long; nothing while CK_CAN is lost (R41). -/
def State.canSent (s : State) (n loopDelay measured : Nat) : State × Option (Nat × Nat × Desc) :=
  if s.canClock then
    match s.attemptDesc n with
    | some d => if d.brs && decide (100 < measured) then (s.delayError n d measured, none) else s.canSentNow n loopDelay measured
    | none => (s, none)
  else (s, none)

def execCanProtocolError (ch : Fin 4) (kind : CanErr) (inData : Bool) (tecInc recInc : Nat) (s : State) : Host.Outcome State Fault Refusal :=
  s.whenAwake fun s => s.canError ch kind inData tecInc recInc

/-- CMD.RECOVER (R166). -/
def State.canRecover (s : State) (n : Nat) : State :=
  if s.canState n = canBusOff then s.canGo n canRecovering else s.flag (F.CAN_FAULT_BAD_CMD n)

/-- CAN_RECOVER. -/
def execCanRecover (req : Req) (ch : Fin 4) (s : State) : Host.Outcome State Fault Refusal := s.regCmd req (R.CAN_CMD ch) (fun s => s.canRecover ch)

/-- CAN_RECOVERY_DONE: 128 occurrences of 11 consecutive recessive bits in RECOVERING. -/
def execCanRecoveryDone (ch : Fin 4) (s : State) : Host.Outcome State Fault Refusal :=
  s.whenAwake fun s =>
    if s.canState ch = canRecovering ∧ s.canClock = true then
      let s := (s.fput (F.CAN_ERR_CNT_TEC ch) 0).fput (F.CAN_ERR_CNT_REC ch) 0
      ((s.canGo ch canActive).canAdopt ch).raise (Pg.CAN ch) Ev.CAN_MODE_DONE
    else s

/-! ### Modes and sleep (R148, R149, R151) -/

/-- MODE.REQ is written SLEEP. -/
def State.canModeSleep (s : State) (n : Nat) : State :=
  let st := s.canState n
  if st = canBusOff ∨ st = canRecovering then s.flag (F.CAN_FAULT_BAD_WRITE n)
  else if s.fget (F.CAN_MODE_REQ n) = 3 then s
  else
    let s := (s.canSet n (fun x => { x with reqBefore := s.fget (F.CAN_MODE_REQ n) })).fput (F.CAN_MODE_REQ n) 3
    if s.canOpen n then s.canSleepBegin n else s

/-- MODE.REQ is written NORMAL, LISTEN or LOOPBACK. -/
def State.canModeWake (s : State) (n m : Nat) : State :=
  let st := s.canState n
  let s := s.fput (F.CAN_MODE_REQ n) m
  if st = canSleepPending then (((s.canGo n (s.canx n).stateBefore).canAdopt n).canErrState n).raise (Pg.CAN n) Ev.CAN_MODE_DONE
  else if st = canSleep then ((s.canGo n canIntegrating).canAdopt n).raise (Pg.CAN n) Ev.CAN_MODE_DONE
  else s.canAdopt n

/-- A write of MODE; with ENABLE 0 it is the request for the next enable. -/
def State.canModeWrite (s : State) (n m : Nat) : State :=
  if s.enabled (Pg.CAN n) = false ∧ m < 4 then
    (s.canSet n (fun x => { x with reqBefore := if m = 3 ∧ s.fget (F.CAN_MODE_REQ n) ≠ 3 then s.fget (F.CAN_MODE_REQ n) else x.reqBefore })).fput
      (F.CAN_MODE_REQ n) m
  else if m = 3 then s.canModeSleep n else if m < 3 then s.canModeWake n m else s.flag (F.CAN_FAULT_BAD_WRITE n)

/-- CAN_MODE_NORMAL. -/
def execCanModeNormal (req : Req) (ch : Fin 4) (s : State) : Host.Outcome State Fault Refusal := s.regCmd req (R.CAN_MODE ch) (fun s => s.canModeWrite ch 0)
/-- CAN_MODE_LISTEN. -/
def execCanModeListen (req : Req) (ch : Fin 4) (s : State) : Host.Outcome State Fault Refusal := s.regCmd req (R.CAN_MODE ch) (fun s => s.canModeWrite ch 1)
/-- CAN_MODE_LOOPBACK. -/
def execCanModeLoopback (req : Req) (ch : Fin 4) (s : State) : Host.Outcome State Fault Refusal :=
  s.regCmd req (R.CAN_MODE ch) (fun s => s.canModeWrite ch 2)
/-- CAN_MODE_SLEEP. -/
def execCanModeSleep (req : Req) (ch : Fin 4) (s : State) : Host.Outcome State Fault Refusal := s.regCmd req (R.CAN_MODE ch) (fun s => s.canModeWrite ch 3)

/-- CLK flags clock `d` lost (R42). -/
def State.clockLost (s : State) (d : Nat) : Bool := s.bit R.CLK_LOST d

/-- READY rises or falls, with its mirror in SYS.BLK_STAT (R73, R103). -/
def State.ready (s : State) (b : Bool) : State :=
  let s := s.fput F.SYS_STAT_READY (boolNat b)
  { s with pins := { s.pins with ready := b }, upd := { s.upd with trialFrom := if b then s.monoNow else s.upd.trialFrom } }

/-- 11 consecutive recessive bits in INTEGRATING, or without SOF in SLEEP_PENDING (R148, R149). -/
def State.canIdleRun (s : State) (n : Nat) : State :=
  if s.canState n = canIntegrating ∧ s.canClock = true then
    let high := decide (127 < s.fget (F.CAN_ERR_CNT_TEC n)) || decide (127 < s.fget (F.CAN_ERR_CNT_REC n))
    let s := (s.canGo n (if high then canPassive else canActive)).canAdopt n
    let s := if high then s.raise (Pg.CAN n) Ev.CAN_ERR_PASSIVE else s
    if s.fget (F.CAN_MODE_REQ n) = 3 then s.canSleepBegin n else s
  else if s.canState n = canSleepPending ∧ (s.canx n).tx.isNone = true ∧ s.canClock = true then
    if s.clockLost 9 then s.flag (F.CAN_FAULT_SLEEP_REFUSED n) else (s.canGo n canSleep).raise (Pg.CAN n) Ev.CAN_MODE_DONE
  else s

/-- What the wake detector makes of the bus (R168, R169): none where the spec lets it wake or not. -/
def State.wakeMatch (s : State) (n : Nat) (c : CanWakeCause) : Option Bool :=
  match c with
  | .dominant ns =>
    if s.fset (F.CAN_WAKE_CFG_SEL n) then some false else if 5400 ≤ ns then some true else if ns < 4700 then some false else none
  | .frame plain id dlc d0 =>
    let m := s.fget (F.CAN_WAKE_MASK_MASK n)
    let dm := BitVec.ofNat 8 (s.fget (F.CAN_WAKE_DATA_DMASK n))
    let mask : BitVec 29 := BitVec.ofNat 29 m
    let idOk := (id &&& mask) == (BitVec.ofNat 29 (s.fget (F.CAN_WAKE_ID_ID n)) &&& mask)
    let dOk := dm == 0 || (dlc != 0 && (d0 &&& dm) == (BitVec.ofNat 8 (s.fget (F.CAN_WAKE_DATA_DATA n)) &&& dm))
    some (s.fset (F.CAN_WAKE_CFG_SEL n) && plain && idOk && dOk)

/-- The channel wakes (R148, R166, R170). -/
def State.canWakeUp (s : State) (n : Nat) : State :=
  let s := ((s.put64 (R.CAN_WAKE_TS_LO n) s.now).countSat (R.CAN_WAKE_COUNT n) 1).raise (Pg.CAN n) Ev.CAN_WAKE
  ((s.fput (F.CAN_MODE_REQ n) (s.canx n).reqBefore).canGo n canIntegrating).canAdopt n

/-- A write of RATE or a bit-timing register: only while ENABLE is 0 (R147). -/
def State.canRateWrite (s : State) (n k : Nat) (v : Word) : State :=
  if s.enabled (Pg.CAN n) then s.flag (F.CAN_FAULT_BAD_WRITE n) else s.wrRw k v

/-- A write of a wake register (R172). -/
def State.canWakeWrite (s : State) (n k : Nat) (v : Word) : State :=
  if s.canState n = canSleepPending ∨ s.canState n = canSleep then s.flag (F.CAN_FAULT_BAD_WRITE n) else s.wr k v

/-- A write of CMD, whose bits act in the order POP, RECOVER, ABORT_Q1, ABORT_Q2. -/
def State.canCmdWrite (s : State) (n : Nat) (v : Word) : State :=
  let s := if v.getLsbD 0 then s.canPop n else s
  let s := if v.getLsbD 1 then s.canRecover n else s
  let s := if v.getLsbD 2 then s.canAbort n 1 else s
  if v.getLsbD 3 then s.canAbort n 2 else s

end Sys2Proof.Machine
end

