-- ==== Sys2Proof/Machine/Fnet.lean ====
section
/-! DEFINITION. FNET and the frames of MFP (06 R177 to R197, R202, R205, R215, R218): identifiers, transmit queue Q0, SYNC, TIME and
DISC_OPEN, the instants of SYNC, and the load of a schedule. -/
namespace Sys2Proof.Machine

def State.mfpSet (s : State) (f : Mfp → Mfp) : State := { s with mfp := f s.mfp }

/-! ### Frames and Q0 (R177, R180, R191) -/

/-- The smallest valid CAN FD length that holds `n` bytes, and its DLC. -/
def fdLen (n : Nat) : Nat :=
  if n ≤ 8 then n else if n ≤ 12 then 12 else if n ≤ 16 then 16 else if n ≤ 20 then 20 else if n ≤ 24 then 24
  else if n ≤ 32 then 32 else if n ≤ 48 then 48 else 64

def fdDlc (n : Nat) : Nat :=
  if n ≤ 8 then n else if n ≤ 12 then 9 else if n ≤ 16 then 10 else if n ≤ 20 then 11 else if n ≤ 24 then 12
  else if n ≤ 32 then 13 else if n ≤ 48 then 14 else 15

/-- The identifier of R177 of a frame that the module sends (DIR 0). -/
def mfpId (prio addr func group : Nat) : Nat := prio * 2 ^ 26 + addr * 2 ^ 18 + func * 2 ^ 12 + group

/-- A frame of the module on channel `ch`: extended CAN FD, BRS by RATE.DATA. -/
def State.mfpFrame (s : State) (ch prio addr func group launch : Nat) (dropLate : Bool) (data : List Byte) : Q0Frame :=
  { ch := ch, addr := addr, launch := launch,
    word8 := BitVec.ofNat 32 (mfpId prio addr func group + 2 ^ 29),
    word12 := BitVec.ofNat 32 (fdDlc data.length + 2 ^ 11 + boolNat (s.fget (F.CAN_RATE_DATA ch) != 0) * 2 ^ 12 + boolNat dropLate * 2 ^ 14),
    data := padTo (fdLen data.length) data }

/-- The frame becomes a descriptor at the tail of Q0. -/
def State.q0Store (s : State) (f : Q0Frame) : State :=
  let wr := (s.rd (R.CAN_TXQ0_WR f.ch)).toNat
  let s := s.storeWords (descAddr f.ch 0 wr) (wordsOf 10 (natLe 8 f.launch ++ natLe 4 f.word8.toNat ++ natLe 4 f.word12.toNat ++ padTo 64 f.data))
  s.wr (R.CAN_TXQ0_WR f.ch) (BitVec.ofNat 32 ((wr + 1) % 65536))

/-- Q0 of a channel has a free entry. -/
def State.q0Free (s : State) (ch : Nat) : Bool := decide (s.qCount ch 0 < 256)

/-- The page of the block that builds a frame: FNET for SYNC, TIME and DISC_OPEN, IOS for every other (R215, R218). -/
def q0Page (f : Q0Frame) : Nat :=
  let id := f.word8.toNat % 2 ^ 29
  if id / 2 ^ 26 = 0 ∨ (id / 2 ^ 26 = 6 ∧ id / 2 ^ 12 % 32 = 0) then Pg.FNET else Pg.IOS

/-- No frame is built for a station that is LOST (R210), or whose address stays unused after a duplicate (R201). -/
def State.addrSilent (s : State) (ch addr : Nat) : Bool :=
  match tabFind s.mfp.stations (ch * 256 + addr) with
  | some x => addr != 0 && (x.st == .lost || x.unused)
  | none => false

/-- A frame of the scan engine or of FNET goes into Q0, or waits in order for a free entry. A standby module queues nothing (R182), nor does a block whose
ENABLE is 0 (R218). -/
def State.q0 (s : State) (f : Q0Frame) : State :=
  if s.standby || !s.enabled (q0Page f) then s
  else if s.addrSilent f.ch f.addr then s.countSat R.IOS_DROP_LOST 1
  else if s.q0Free f.ch && s.mfp.waiting.all (fun g => g.ch != f.ch) then s.q0Store f
  else ((s.mfpSet (fun m => { m with waiting := m.waiting ++ [f] })).countSat R.IOS_Q0_FULL 1).raise Pg.IOS Ev.IOS_Q0_FULL

/-- The oldest waiting frame of a channel enters Q0, when an entry is free and its block is enabled. -/
def State.q0Enqueue (s : State) (ch : Nat) : State :=
  match s.mfp.waiting.find? (fun g => g.ch == ch) with
  | none => s
  | some f => if s.q0Free ch && s.enabled (q0Page f) then (s.mfpSet (fun m => { m with waiting := m.waiting.erase f })).q0Store f else s

/-- IOS_Q0_ENQUEUE. -/
def execIosQ0Enqueue (ch : Fin 4) (s : State) : Host.Outcome State Fault Refusal := s.whenAwake fun s => s.q0Enqueue ch

/-! ### SYNC (R181, R182, R186) -/

def msNs : Nat := 1000000

/-- SYNC_CFG.LAUNCH_US, at most 200, in ns (R215). -/
def State.launchNs (s : State) : Nat := min 200 (s.fget F.FNET_SYNC_CFG_LAUNCH_US) * 1000

/-- LAUNCH of the SYNC of cycle `n`. -/
def State.syncLaunch (s : State) (n : Nat) : Nat := n * msNs + s.launchNs

/-- First cycle whose launch instant is `t` or later. -/
def State.cycleFrom (s : State) (t : Nat) : Nat := (t - s.launchNs + msNs - 1) / msNs

/-- Channels of CH_EN. -/
def State.syncChannels (s : State) : List Nat := [0, 1, 2, 3].filter (fun c => (s.rd R.FNET_SYNC_CFG).getLsbD (8 + c))



/-- The payload of SYNC. -/
def State.syncData (s : State) (ch n : Nat) : List Byte :=
  let flags := boolNat (n % 50 == 0) + 2 * boolNat (n % 500 == 0) + 4 * boolNat s.timeInvalid + 8 * boolNat (s.mfp.prevSkew.toList.getD ch false)
  natLe 6 n ++ [BitVec.ofNat 8 flags, 0]

/-- FNET queues: it is enabled, and the module is no standby. -/
def State.fnetRuns (s : State) : Bool := s.enabled Pg.FNET && !s.standby

/-- SYNC of the next cycle is queued on every channel of CH_EN, 100 µs before its launch (log entry 17). -/
def State.syncQueue (s : State) : State :=
  let n := max s.mfp.nextCycle (s.cycleFrom s.now)
  let s := s.reach (s.syncLaunch n - 100000)
  let s := s.syncChannels.foldl (fun s c => s.q0 (s.mfpFrame c 0 0 0 0 (s.syncLaunch n) true (s.syncData c n))) s
  (s.mfpSet (fun m => { m with nextCycle := n + 1 })).fput F.FNET_STAT_RUN (s.fget F.FNET_SYNC_CFG_CH_EN)

/-- FNET_SYNC_QUEUE. -/
def execFnetSyncQueue (s : State) : Host.Outcome State Fault Refusal := s.whenAwake fun s => if s.fnetRuns then s.syncQueue else s

/-- The cycle that a SYNC descriptor launched at `launch` is for. -/
def State.syncCycle (launch : Nat) : Nat := launch / msNs

/-- Instants of SYNC kept: those of every cycle that a 16-bit SEQ can name (R190). -/
def syncKeep (n : Nat) (t : Tab (Nat × Bool)) : Tab (Nat × Bool) := tabKeep (fun k => decide (n < k + 65536) && decide (k ≤ n)) t

/-- T_S of cycle `n` on channel `ch` becomes known: SOF + 250 µs, and whether it takes SKEW. -/
def State.syncHeard (s : State) (ch n sof : Nat) (skew : Bool) : State :=
  s.mfpSet (fun m => { m with syncs := m.syncs.setIfInBounds ch (syncKeep n (tabPut (m.syncs.toList.getD ch []) n (sof + 250000, skew))) })

/-- A SYNC of this module has become valid, its SOF at `sof` (R186). -/
def State.syncSent (s : State) (ch sof : Nat) (d : Desc) : State :=
  let late := decide (d.launch + 1000 < sof)
  let s := (s.syncHeard ch (State.syncCycle d.launch) sof late).wr (R.FNET_SYNC_ERR ch) (word32 ((sof : Int) - d.launch))
  let s := s.mfpSet (fun m => { m with prevSkew := m.prevSkew.setIfInBounds ch late, synced := m.synced.setIfInBounds ch true })
  if late then (s.addSat (F.FNET_SYNC_CNT_LATE ch) 1).raise Pg.FNET Ev.FNET_SYNC_LATE else s

/-- A SYNC of this module was not started in time (R186). -/
def State.syncDropped (s : State) (ch : Nat) : State :=
  let s := s.mfpSet (fun m => { m with prevSkew := m.prevSkew.setIfInBounds ch false })
  (s.addSat (F.FNET_SYNC_CNT_DROPPED ch) 1).raise Pg.FNET Ev.FNET_SYNC_DROP

/-- The head of a queue has not started by LAUNCH + MAX_LATE_US (R163). -/
def State.canDropLate (s : State) (ch q : Nat) : State :=
  match s.dropLimit ch q with
  | none => s
  | some (t, d) =>
    let s := (s.reach t).retire ch q stDroppedLate 0 0 false
    if isSync q d then s.syncDropped ch else s

/-- CAN_TX_DROP_LATE. -/
def execCanTxDropLate (ch : Fin 4) (queue : Fin 3) (s : State) : Host.Outcome State Fault Refusal :=
  s.whenAwake fun s => s.canDropLate ch queue

/-! ### TIME and DISC_OPEN (R202, R205) -/

/-- TIME of a whole second follows the SYNC of the cycle after it (R205). -/
def State.timeQueue (s : State) : State :=
  let sec := (s.mfp.nextCycle - 2) / 1000
  if s.mfp.timeNext * 1000 + 1 < s.mfp.nextCycle then
    let data := natLe 6 sec ++ [BitVec.ofNat 8 (boolNat s.timeInvalid), BitVec.ofNat 8 (s.fget F.PTP_UTC_OFFSET)]
    (s.syncChannels.foldl (fun s c => s.q0 (s.mfpFrame c 0 0 1 0 0 false data)) s).mfpSet (fun m => { m with timeNext := sec + 1 })
  else s

/-- FNET_TIME_QUEUE. -/
def execFnetTimeQueue (s : State) : Host.Outcome State Fault Refusal := s.whenAwake fun s => if s.fnetRuns then s.timeQueue else s

/-- A table station of the channel is ABSENT or LOST. -/
def State.stationMissing (s : State) (ch : Nat) : Bool :=
  s.mfp.stations.any (fun e => e.1 / 256 == ch && (e.2.st == .absent || e.2.st == .lost))

/-- DISC_OPEN is sent; UNPARK is set in the first since the configuration was loaded. -/
def State.discSend (s : State) (ch : Nat) : State :=
  let first := !s.mfp.unparked.toList.getD ch false
  let s := s.q0 (s.mfpFrame ch 6 0 0 0 0 false (padTo 8 [BitVec.ofNat 8 (boolNat first)]))
  s.mfpSet (fun m => { m with discAt := m.discAt.setIfInBounds ch (some s.monoNow), unparked := m.unparked.setIfInBounds ch true })

/-- DISC_OPEN after the first SYNC of the channel, then every PERIOD_S while a table station of it is ABSENT or LOST. -/
def State.discOpen (s : State) (ch : Nat) : State :=
  if s.mfp.synced.toList.getD ch false then
    match s.mfp.discAt.toList.getD ch none with
    | none => s.discSend ch
    | some t => if s.stationMissing ch then (s.reachMono (t + max 1 (s.fget F.FNET_DISC_CFG_PERIOD_S) * 1000000000)).discSend ch else s
  else s

/-- DISC_OPEN. -/
def execDiscOpen (ch : Fin 4) (s : State) : Host.Outcome State Fault Refusal := s.whenAwake fun s => if s.fnetRuns then s.discOpen ch else s

/-! ### ENABLE of FNET, writes, and a step of module time (R215, R218, R428) -/

/-- SYNC starts with the first boundary whose launch lies at least 100 µs ahead, and TIME with the first second whose next cycle is sent. -/
def State.syncRestart (s : State) : State :=
  let n := s.cycleFrom (s.now + 100000)
  s.mfpSet (fun m => { m with nextCycle := n, timeNext := (n + 998) / 1000 })

def State.fnetEnable (s : State) : State :=
  s.syncRestart.mfpSet (fun m => { m with synced := Vector.replicate 4 false, discAt := Vector.replicate 4 none, prevSkew := Vector.replicate 4 false })

def State.fnetDisable (s : State) : State := s.fput F.FNET_STAT_RUN 0

/-- A write of SYNC_CFG, DISC_CFG, START_TMO or Q0_CFG. -/
def State.fnetWrite (s : State) (k : Nat) (v : Word) : State :=
  if s.enabled Pg.FNET then s.flag F.FNET_FAULT_BAD_WRITE else s.wrRw k v

/-- START_TMO.MS and Q0_CFG.LEAD_US within their limits (R215). -/
def State.startTmoMs (s : State) : Nat := clampN 1000 60000 (s.fget F.FNET_START_TMO_MS)
def State.leadNs (s : State) : Nat := clampN 50 1000 (s.fget F.FNET_Q0_CFG_LEAD_US) * 1000

/-! ### The load of a schedule (R194, R195) -/

/-- t_frame of `b` bytes, in ns, on a channel whose RATE register reads `rate`. -/
def frameTime (rate : Word) (b : Nat) : Nat :=
  let nom := if fieldOf (F.CAN_RATE_NOM 0) rate = 1 then 1000 else 2000
  let dat := match fieldOf (F.CAN_RATE_DATA 0) rate with | 1 => 500 | 2 => 200 | 3 => 125 | _ => nom
  81 * nom + (10 * b + 50) * dat

/-- Class, output flag and COS flag of record `r` of a station image (R203). -/
def recCls (img : List Byte) (r : Nat) : Nat := byteOf img (64 + 8 * r) % 4
def recOut (img : List Byte) (r : Nat) : Bool := byteOf img (64 + 8 * r) / 4 % 2 == 1
def recCos (img : List Byte) (r : Nat) : Bool := byteOf img (64 + 8 * r) / 8 % 2 == 1
def recCount (img : List Byte) : Nat := byteOf img 3

/-- Records of a class and direction, in order. -/
def recsOf (img : List Byte) (c : Nat) (out : Bool) : List Nat :=
  (List.range (recCount img)).filter (fun r => recCls img r == c && recOut img r == out)

/-- Payload lengths of the frames that carry `n` points (R187). -/
def ioLens : Nat → Nat → List Nat
  | 0, _ => []
  | k + 1, n => if n ≤ 24 then [fdLen (10 + 2 * n)] else fdLen 58 :: ioLens k (n - 24)

def ioFrames (n : Nat) : List Nat := if n = 0 then [] else ioLens 4 n

/-- Period of a class in ms (R192). -/
def classMs (c : Nat) : Nat := if c = 0 then 1 else if c = 1 then 50 else 500

/-- First position of a station's outputs of class `c` in the broadcast of GROUP `g`, if it takes them from there (R188, R203). -/
def outFirst (img : List Byte) (c g : Nat) : Option Nat :=
  let first := byteOf img (if c = 0 then 16 else if c = 1 then 18 else 20)
  let frame := if c = 0 then (if first = 0xFF then 0xFF else 0) else byteOf img (if c = 1 then 17 else 19)
  if frame = g ∧ g ≠ 0xFF then some first else none

/-- Positions used in the broadcast of class `c` and GROUP `g`: number of points of the frame. -/
def bcastCount (imgs : List (List Byte)) (c g : Nat) : Nat :=
  imgs.foldl (fun n img =>
    match outFirst img c g with
    | some a => max n (if (recsOf img c true).isEmpty then 0 else a + (recsOf img c true).length)
    | none => n) 0

/-- The scheduled frames of a channel: payload bytes and period in ms. SYNC is one where CH_EN sends it. -/
def schedFrames (sync : Bool) (imgs : List (List Byte)) (outs : List (Nat × Nat × Nat)) (imgOf : Nat → List Byte) : List (Nat × Nat) :=
  let ins := imgs.flatMap (fun img =>
    (ioFrames (recsOf img 0 false).length).map (fun b => (b, 1))
      ++ ((if (recsOf img 1 false).isEmpty then [12] else ioFrames (recsOf img 1 false).length).map (fun b => (b, 50)))
      ++ (ioFrames (recsOf img 2 false).length).map (fun b => (b, 500)))
  let os := outs.map (fun (c, addr, g) =>
    let n := if addr = 0 then bcastCount imgs c g else min 24 ((recsOf (imgOf addr) c true).length - 24 * g)
    (fdLen (10 + 2 * n), classMs c))
  (if sync then [(8, 1)] else []) ++ ins ++ os

/-- A sum of fractions. -/
def addFrac (a b : Nat × Nat) : Nat × Nat :=
  let n := a.1 * b.2 + b.1 * a.2
  let d := a.2 * b.2
  (n / Nat.gcd n d, d / Nat.gcd n d)

/-- U in units of 0.01 %, rounded up: the scheduled frames, the COS stations at their full rate, and the reserve of 0.05. -/
def loadOf (rate : Word) (frames : List (Nat × Nat)) (cosMs : List Nat) : Nat :=
  let u := frames.foldl (fun a (b, p) => addFrac a (frameTime rate b, p * msNs)) (5, 100)
  let u := cosMs.foldl (fun a p => addFrac a (frameTime rate 64, p * msNs)) u
  (u.1 * 10000 + u.2 - 1) / u.2

end Sys2Proof.Machine
end

