-- ==== Sys2Proof/Machine/Mfp.lean ====
section
/-! DEFINITION. The I/O scan engine (06 R179, R187 to R217): the receive ring's consumer, discovery, the configuration exchange, START, the dating of
inputs, output frames, lost stations and rejoin. -/
namespace Sys2Proof.Machine

/-! ### Stations and events (R209, R216, R217) -/

/-- The key of station `addr` of channel `ch`. -/
def stnKey (ch addr : Nat) : Nat := ch * 256 + addr

def State.stn (s : State) (k : Nat) : Option Stn := tabFind s.mfp.stations k

def State.stnSet (s : State) (k : Nat) (f : Stn → Stn) : State :=
  match s.stn k with
  | none => s
  | some x => s.mfpSet (fun m => { m with stations := tabPut m.stations k (f x) })

/-- The state of a table station. -/
def State.stnState (s : State) (k : Nat) : SState := ((s.stn k).map (·.st)).getD .absent

/-- STN_STAT.STATE. -/
def sstateCode : SState → Nat
  | .absent => 0 | .assigned => 1 | .configuring => 2 | .ready => 3 | .present => 4 | .lost => 5 | .rejoining => 6 | .cfgFail => 7

def evLost : Nat := 0
def evRejoined : Nat := 1
def evJoined : Nat := 2
def evParked : Nat := 3
def evDuplicate : Nat := 4
def evMiswired : Nat := 5
def evCfgFail : Nat := 6

/-- An event: the FIFO or EVT_OVF, INT_RAW, the recorder, and the triggers of event tasks. -/
def State.iosEvent (s : State) (kind ch addr : Nat) (fields : List Byte) : State :=
  let s :=
    if s.mfp.events.length < 64 then
      s.mfpSet (fun m => { m with events := m.events ++ [BitVec.ofNat 32 (2 ^ 31 + kind * 2 ^ 27 + ch * 256 + addr)] })
    else s.raise Pg.IOS Ev.IOS_EVT_OVF
  let s := (s.raise Pg.IOS kind).note Pg.IOS kind ([BitVec.ofNat 8 ch, BitVec.ofNat 8 addr] ++ fields)
  if kind ≤ 2 then s.trigger 3 (stnKey ch addr) (BitVec.ofNat 32 kind) false else s

/-- The 6 bytes of a serial, most significant first (R198). -/
def serialBytes (x : BitVec 48) : List Byte := (natLe 6 x.toNat).reverse
def serialOf (b : List Byte) : BitVec 48 := BitVec.ofNat 48 (leNat (b.take 6).reverse)

/-- An event that is raised once per serial and configuration (R201). -/
def State.eventOnce (s : State) (kind : Nat) (serial : BitVec 48) (ch addr : Nat) (fields : List Byte) : State :=
  if s.mfp.raised.contains (serial.toNat, kind) then s
  else (s.mfpSet (fun m => { m with raised := (serial.toNat, kind) :: m.raised })).iosEvent kind ch addr (serialBytes serial ++ fields)

/-- The scan engine runs: IOS is enabled. -/
def State.iosRuns (s : State) : Bool := s.enabled Pg.IOS

/-- It also sends and keeps station states: the module is no standby, whose states come from BG units (R486). -/
def State.iosSends (s : State) : Bool := s.iosRuns && !s.standby

/-! ### The receive ring's consumer (R153, R179, R191, R213) -/

/-- The kinds of frame that stations send, and the rest. -/
inductive MfpKind where
  /-- nothing for the scan engine: a frame of its own, or one that another module sends under the table -/
  | module
  | bad
  | announce | hello | cfgAck | initReport | input (cls : Nat) | cos | alarm | fwAck | fwStat
deriving DecidableEq, Repr

/-- A ring entry. -/
structure Heard where
  ts : Nat
  kind : MfpKind
  addr : Nat
  group : Nat
  data : List Byte
deriving DecidableEq, Repr

/-- The frame layouts of R187 and R189 hold, with the length that the count gives. -/
def ioFrameOk (d : List Byte) : Bool := decide (byteOf d 3 ≤ 24) && d.length == fdLen (10 + 2 * byteOf d 3) && decide (12 ≤ d.length)
def cosFrameOk (d : List Byte) : Bool := decide (1 ≤ byteOf d 0) && decide (byteOf d 0 ≤ 7) && d.length == fdLen (4 + 8 * byteOf d 0)

/-- Frames of a module under R178: class, FUNC, whether ADDR may be 0 or a station, and the length. -/
def moduleFrame (prio func addr : Nat) (d : List Byte) : Bool :=
  let b := addr == 0
  let st := decide (1 ≤ addr ∧ addr ≤ 64)
  let n := d.length
  match prio, func with
  | 0, 0 => b && n == 8 | 0, 1 => b && n == 8 | 1, 1 => b && ioFrameOk d | 3, 1 => (b || st) && ioFrameOk d | 4, 1 => (b || st) && ioFrameOk d
  | 5, 0 => st && n == 64 | 5, 2 => st && n == 8 | 5, 3 => st && n == 0 | 5, 5 => b && n == 8 | 5, 6 => st && ioFrameOk d
  | 6, 0 => b && n == 8 | 6, 1 => b && n == 8 | 7, 0 => st && n == 64 | 7, 2 => st && n == 8
  | _, _ => false

/-- What a frame of the ring is (R178, R179, R180). A frame with DIR 0 fits its sender only where another module sends: on a standby module, and a foreign
SYNC (R480); elsewhere a station has sent it, and it is bad (log entry 57). -/
def mfpKind (standby : Bool) (id : Nat) (plain : Bool) (d : List Byte) : MfpKind :=
  let prio := id / 2 ^ 26
  let addr := id / 2 ^ 18 % 256
  let dir := id / 2 ^ 17 % 2
  let func := id / 2 ^ 12 % 32
  if plain = false then .bad
  else if addr = 255 then (if prio = 6 ∧ d.length = 16 then .announce else .bad)
  else if dir = 0 then (if moduleFrame prio func addr d && (standby || id == 0) then .module else .bad)
  else if addr = 0 ∨ 64 < addr then .bad
  else match prio, func with
    | 1, 0 => if ioFrameOk d then .input 0 else .bad
    | 3, 0 => if ioFrameOk d then .input 1 else .bad
    | 4, 0 => if ioFrameOk d then .input 2 else .bad
    | 2, 0 => if cosFrameOk d then .cos else .bad
    | 2, 1 => if d.length = 8 then .alarm else .bad
    | 5, 1 => if d.length = 8 then .cfgAck else .bad
    | 5, 4 => if ioFrameOk d then .initReport else .bad
    | 6, 2 => if d.length = 8 then .hello else .bad
    | 7, 1 => if d.length = 8 then .fwAck else .bad
    | 7, 3 => if d.length = 8 then .fwStat else .bad
    | _, _ => .bad

/-- Read `n` words as the scan engine: whether all were readable, their bytes, and the counting of R135. -/
def State.readWords (s : State) (a : Nat) (req : Req) : Nat → Bool × List Byte × State
  | 0 => (true, [], s)
  | n + 1 =>
    let (v, s1) := s.eccRead a req
    let w := natLe 8 (s.readWord a).toNat
    let (ok, b, s2) := s1.readWords (a + 8) req n
    (ok && v != .uncorrectable, w ++ b, s2)

/-- The entry at RX_RD_IOS; an entry with an uncorrectable word is discarded as a bad frame (R131). -/
def State.ringHead (s : State) (n : Nat) : Heard × State :=
  let (ok, b, s) := s.readWords (ringBase n + 80 * (s.fget (F.CAN_RX_RD_IOS_INDEX n) % ringSize)) .ios 10
  let w8 := leOf b 8 4
  let w12 := leOf b 12 4
  let id := w8 % 2 ^ 29
  let d := (b.drop 16).take (min 64 (w12 / 16 % 128))
  let plain := w8 / 2 ^ 29 % 2 == 1 && w8 / 2 ^ 30 % 2 == 0 && w12 / 2 ^ 11 % 2 == 1
  let kind := if ok = false then .bad else if w12 / 2 ^ 14 % 2 = 1 then .module else mfpKind s.standby id plain d
  ({ ts := leOf b 0 8, kind := kind, addr := id / 2 ^ 18 % 256, group := id % 4096, data := d }, s)

/-- The scan engine is done with the entry. -/
def State.ringNext (s : State) (n : Nat) : State :=
  (s.fput (F.CAN_RX_RD_IOS_INDEX n) ((s.fget (F.CAN_RX_RD_IOS_INDEX n) + 1) % 65536)).canStat n

/-- A frame that breaks R179. -/
def State.badFrame (s : State) : State := (s.countSat R.IOS_BAD_FRAME 1).raise Pg.IOS Ev.IOS_BAD_FRAME

/-- Read on in ring order past the frames that have no command of their own, up to the first that has. -/
def State.ringSkip (s : State) (n : Nat) : Nat → Option Heard × State
  | 0 => (none, s)
  | fuel + 1 =>
    if s.unreadIos n = 0 then (none, s)
    else
      let (h, s1) := s.ringHead n
      match h.kind with
      | .module => (s1.ringNext n).ringSkip n fuel
      | .bad => (s1.badFrame.ringNext n).ringSkip n fuel
      | _ => (some h, s1)

/-- Take the next frame of the ring, if it is of kind `k`. -/
def State.ringTakeKind (s : State) (n : Nat) (k : MfpKind → Bool) (f : Heard → State → State) : State :=
  if s.iosRuns then
    match s.ringSkip n (s.unreadIos n) with
    | (some h, s1) => if k h.kind then f h (s1.ringNext n) else s1
    | (none, s1) => s1
  else s

/-! ### The configuration exchange (R203, R204) -/

def msMono (n : Nat) : Nat := n * msNs

/-- CFG_CHECK begins the exchange. -/
def State.cfgCheck (s : State) (k : Nat) : State :=
  let s := s.stnSet k (fun x => { x with st := .configuring, exch := .check, inits := [], groups := [], sent := false })
  s.q0 (s.mfpFrame (k / 256) 5 (k % 256) 3 0 0 false [])

/-- CFG_CHECK after a HELLO or the return of a lost station: the attempts count anew. -/
def State.cfgBegin (s : State) (k : Nat) : State := (s.stnSet k (fun x => { x with attempts := 0, outTries := 0 })).cfgCheck k

/-- CFG_COMMIT, after every CFG_WRITE block where the station's image differs. -/
def State.cfgCommit (s : State) (k : Nat) (x : Stn) (blocks : Bool) : State :=
  let ch := k / 256
  let a := k % 256
  let n := x.image.length
  let s := if blocks then (List.range ((n + 63) / 64)).foldl (fun s g => s.q0 (s.mfpFrame ch 5 a 0 g 0 false (padTo 64 (x.image.drop (64 * g))))) s else s
  let s := s.q0 (s.mfpFrame ch 5 a 2 0 0 false (natLe 4 n ++ natLe 4 (crc32c x.image).toNat))
  s.stnSet k (fun x => { x with exch := .commit, sent := false })

/-- An attempt has failed: the exchange is repeated, or the third failure ends in CFG_FAIL. -/
def State.cfgFailed (s : State) (k : Nat) : State :=
  match s.stn k with
  | none => s
  | some x =>
    if x.attempts + 1 < 3 then (s.stnSet k (fun x => { x with attempts := x.attempts + 1 })).cfgCheck k
    else (s.stnSet k (fun x => { x with attempts := 3, exch := .none, st := .cfgFail })).iosEvent evCfgFail (k / 256) (k % 256) (serialBytes x.serial)

/-! ### Images sent to stations (R187, R188, R205) -/

/-- The layout of R187. -/
def ioFrame (seq flags : Nat) (pts : List (Nat × Nat)) : List Byte :=
  let qual := pts.reverse.foldl (fun a p => a * 4 + p.2 % 4) 0
  natLe 2 seq ++ [BitVec.ofNat 8 flags, BitVec.ofNat 8 pts.length] ++ natLe 6 qual ++ pts.flatMap (fun p => natLe 2 p.1)

/-- The value and quality code of an output point as a frame build sees it (R28): HOLD while its image quality is BAD. -/
def State.outPoint (s : State) (p : Nat) : Nat × Nat := let v := s.seen p; (v.value.toNat % 65536, if v.q = 2 then 2 else 0)

/-- Points of a station's records. -/
def Stn.pidsOf (x : Stn) (recs : List Nat) : List Nat := recs.map (fun r => x.pids.getD r 0)

def allOuts (img : List Byte) : List Nat := (List.range (recCount img)).filter (fun r => recOut img r)
def allIns (img : List Byte) : List Nat := (List.range (recCount img)).filter (fun r => !recOut img r)

/-- Number of frames that carry `n` points; a station without outputs receives one. -/
def groupsOf (n : Nat) : Nat := max 1 ((n + 23) / 24)

/-- OUT_SET: the whole set, with the current values. -/
def State.outSet (s : State) (k : Nat) (x : Stn) : State :=
  let pids := x.pidsOf (allOuts x.image)
  let s := s.stnSet k (fun x => { x with st := .rejoining, exch := .none, sent := false })
  (List.range (groupsOf pids.length)).foldl (fun s g =>
    s.q0 (s.mfpFrame (k / 256) 5 (k % 256) 6 g 0 false (ioFrame 0 0 (((pids.drop (24 * g)).take 24).map s.outPoint)))) s

/-- The channel's stations. -/
def State.stnsOf (s : State) (ch : Nat) : List (Nat × Stn) := s.mfp.stations.filter (fun e => e.1 / 256 == ch)

/-- The point at position `i` of the broadcast of class `c` and GROUP `g`. -/
def bcastPoint (stns : List (Nat × Stn)) (c g i : Nat) : Option Nat :=
  stns.findSome? (fun e =>
    match outFirst e.2.image c g with
    | none => none
    | some a => if a ≤ i then ((e.2.pidsOf (recsOf e.2.image c true))[i - a]?) else none)

/-- The points of an output frame; a position that no station uses carries VALUE 0 with HOLD. -/
def State.outPoints (s : State) (ch : Nat) (f : OutSlot) : List (Nat × Nat) :=
  if f.addr = 0 then
    let stns := s.stnsOf ch
    (List.range (min 24 (bcastCount (stns.map (·.2.image)) f.cls f.group))).map (fun i =>
      match bcastPoint stns f.cls f.group i with
      | some p => s.outPoint p
      | none => (0, 2))
  else
    match s.stn (stnKey ch f.addr) with
    | none => []
    | some x => (((x.pidsOf (recsOf x.image f.cls true)).drop (24 * f.group)).take 24).map s.outPoint

/-- Class number in the identifier and FUNC of an output frame (R178). -/
def outPrio (cls : Nat) : Nat := if cls = 0 then 1 else if cls = 1 then 3 else 4

/-- One frame for a station that is LOST, discarded (R210). -/
def State.dropLost (s : State) (n : Nat) : State := s.countSat R.IOS_DROP_LOST n

/-- The period for which the frame is built next: the first that is not built, is not past, and does not start before cycle N_s. -/
def State.outPeriod (s : State) (f : OutSlot) (ns : Nat) : Nat :=
  let p := classMs f.cls
  let fromNow := (s.now - f.slotUs * 1000 + p * msNs - 1) / (p * msNs)
  let after := match f.last with | some l => l + 1 | none => 0
  max (max fromNow after) ((ns + p - 1) / p)

/-- IOS_OUTPUT_BUILD: output frame `i` of channel `ch`, LEAD_US before its slot (R191); nothing before N_s (R206). -/
def State.outputBuild (s : State) (ch i : Nat) : State :=
  match s.mfp.startCycle, (s.mfp.outs.toList.getD ch [])[i]? with
  | some ns, some f =>
    let k := s.outPeriod f ns
    let start := k * classMs f.cls
    let slot := start * msNs + f.slotUs * 1000
    let s := s.reach (slot - s.leadNs)
    let s := s.mfpSet (fun m => { m with outs := m.outs.setIfInBounds ch ((m.outs.toList.getD ch []).set i { f with last := some k }) })
    s.q0 (s.mfpFrame ch (outPrio f.cls) f.addr 1 f.group slot true (ioFrame start 0 (s.outPoints ch f)))
  | _, _ => s

/-- IOS_OUTPUT_BUILD. -/
def execIosOutputBuild (ch : Fin 4) (frame : Nat) (s : State) : Host.Outcome State Fault Refusal :=
  s.whenAwake fun s => if s.iosSends then s.outputBuild ch frame else s

/-! ### The dating of inputs (R190) -/

/-- The full cycle that the low 16 bits name, seen from an arrival at `ts`. -/
def fullCycle (ts seq : Nat) : Nat := ts / msNs - (ts / msNs + 65536 - seq % 65536) % 65536

/-- T_S of cycle `n` on the channel and SKEW; without an SOF, the nominal instant with SKEW. -/
def State.snapshot (s : State) (ch n : Nat) : Nat × Bool :=
  match tabFind (s.mfp.syncs.toList.getD ch []) n with
  | some x => x
  | none => (s.syncLaunch n + 250000, true)

/-- A module-time instant in monotonic time. -/
def State.toMono (s : State) (t : Nat) : Nat := ((t : Int) - s.mtOff).toNat

/-- The bound of SRC_AGE, in ns (R187). -/
def srcAgeNs (a : Nat) : Nat := if a = 0 then 0 else 2 ^ (a - 1) * msNs

/-- Input quality code 3 is read as BAD. -/
def inQ (q : Nat) : Nat := min 2 q

/-- A station's value is written to the image, unless the point holds a newer one; true when written. -/
def State.inputWrite (s : State) (p v q inst : Nat) (skew miss init : Bool) : State × Bool :=
  let x := s.point p
  if x.written ∧ inst < x.inst then (s, false)
  else (s.pointMod p (fun s => s.pointStore p (fun x =>
    { x with value := extend16 x.ptype v, q := inQ q, inst := inst, skew := skew, latchMiss := miss, init := init })), true)

/-- Points `i` onward of a frame: value and quality. -/
def framePoint (d : List Byte) (i : Nat) : Nat × Nat := (leOf d (10 + 2 * i) 2, leOf d 4 6 / 4 ^ i % 4)

/-- Record `r` of the station has been written, from a SYNC of cycle `n` where it is a FAST input. -/
def State.noteGot (s : State) (k r : Nat) (cycle : Option Nat) : State :=
  s.stnSet k (fun x =>
    let fast := match cycle, s.mfp.startCycle with | some n, some ns => decide (ns ≤ n) | _, _ => false
    { x with got := if x.got.contains r then x.got else r :: x.got
             gotFast := if fast && recCls x.image r == 0 && !x.gotFast.contains r then r :: x.gotFast else x.gotFast })

/-! ### The first full image (R206 to R208) -/

/-- Every input of every table station has been written, and every FAST input from a SYNC of N_s or later. -/
def State.allWritten (s : State) : Bool :=
  s.mfp.stations.all (fun e => (allIns e.2.image).all (fun r => e.2.got.contains r && (recCls e.2.image r != 0 || e.2.gotFast.contains r)))

/-- START_MS: ms from the release of the reset that began this start-up, set once in it (R216; log entry 57). -/
def State.startMs (s : State) : State :=
  if s.mfp.startNoted then s else (s.wr R.IOS_START_MS (BitVec.ofNat 32 (s.cyc / 400000))).mfpSet (fun m => { m with startNoted := true })

/-- IMAGE_FULL is reached. -/
def State.imageFull (s : State) : State :=
  let s := (s.fput F.IOS_STAT_IMAGE_FULL 1).raise Pg.IOS Ev.IOS_IMAGE_FULL
  if s.fset F.IOS_STAT_TIMEOUT then s else ((s.fput F.IOS_STAT_PHASE 4).startMs).releaseOk

def State.fullCheck (s : State) : State :=
  match s.mfp.startCycle with
  | none => s
  | some ns => if s.fset F.IOS_STAT_IMAGE_FULL = false ∧ ns * msNs ≤ s.now ∧ s.allWritten = true then s.imageFull else s

/-! ### LOST, PRESENT (R209, R210, R212) -/

/-- The actions of R210 but for the event. -/
def State.lostActions (s : State) (k : Nat) (x : Stn) : State :=
  let s := (x.pidsOf (allIns x.image)).foldl (fun s p =>
    if (s.point p).written then s.pointMod p (fun s => s.pointPut p { s.point p with q := 2 }) else s) s
  let dropped := s.mfp.waiting.countP (fun f => f.ch == k / 256 && f.addr == k % 256)
  (s.mfpSet (fun m => { m with waiting := m.waiting.filter (fun f => !(f.ch == k / 256 && f.addr == k % 256)) })).dropLost dropped

/-- The station becomes LOST: the actions of R210, and the event LOST, which counts in LOST_COUNT. -/
def State.stationLost (s : State) (k : Nat) : State :=
  match s.stn k with
  | none => s
  | some x =>
    let s := (s.stnSet k (fun x => { x with st := .lost, exch := .none, lostCount := min 0xFFFF (x.lostCount + 1) })).lostActions k x
    s.iosEvent evLost (k / 256) (k % 256) (serialBytes x.serial)

/-- The INIT values are written with their own instants. -/
def State.writeInits (s : State) (k : Nat) (x : Stn) : State :=
  let s := x.inits.foldl (fun s v =>
    let (s, ok) := s.inputWrite (x.pids.getD v.index 0) v.value v.q v.inst v.skew v.miss true
    if ok then s.noteGot k v.index none else s) s
  s.stnSet k (fun x => { x with inits := [] })

/-- The station is marked PRESENT, and its INIT values are written in the same cycle. -/
def State.stationPresent (s : State) (k : Nat) : State :=
  match s.stn k with
  | none => s
  | some x =>
    let first := (s.now + 49999999) / 50000000
    let s := s.stnSet k (fun x => { x with st := .present, exch := .none, missed := 0, seenStd := [], stdFrom := first, everPresent := true })
    s.writeInits k x

/-! ### Discovery (R198 to R202, R209) -/

/-- ASSIGN. -/
def State.assign (s : State) (ch : Nat) (serial : BitVec 48) (addr reason : Nat) : State :=
  s.q0 (s.mfpFrame ch 6 0 1 0 0 false (serialBytes serial ++ [BitVec.ofNat 8 addr, BitVec.ofNat 8 reason]))

/-- The table station with a serial. -/
def State.stnBySerial (s : State) (x : BitVec 48) : Option (Nat × Stn) := s.mfp.stations.find? (fun e => e.2.serial == x)

/-- Two HELLOs with different NONCEs have arrived (R201). -/
def Stn.isDuplicate (x : Stn) : Bool := decide (2 ≤ x.nonces.length)

/-- An ANNOUNCE of a serial not in the table is answered once more after it has been counted as parked. -/
def State.parkedCount (s : State) (serial : BitVec 48) : State :=
  if s.mfp.raised.contains (serial.toNat, evParked) then s else s.mfpSet (fun m => { m with parked := m.parked + 1 })

/-- What an ANNOUNCE tells of a table station: its TYPE, CAPS and firmware version; a station activated that reports another version than the one
staged is recorded (R543). -/
def State.announceNote (s : State) (ch : Nat) (d : List Byte) : State :=
  match s.stnBySerial (serialOf d) with
  | none => s
  | some (k, _) =>
    let v := leOf d 12 4
    let s := s.stnSet k (fun x => { x with stype := leOf d 8 2, caps := byteOf d 11, fwVer := v })
    match s.upd.stations.find? (fun g => g.ch * 256 + g.addr == k && g.phase == .activated) with
    | some g =>
      let s := { s with upd := { s.upd with stations := s.upd.stations.filter (· != g) } }
      if v = g.version then s else s.note Pg.UPD noBit ([BitVec.ofNat 8 ch, BitVec.ofNat 8 (k % 256)] ++ natLe 4 g.version ++ natLe 4 v)
    | none => s

/-- The answer to an ANNOUNCE. -/
def State.announced (s : State) (ch : Nat) (d : List Byte) : State :=
  let serial := serialOf d
  match s.stnBySerial serial with
  | none => ((s.parkedCount serial).assign ch serial 255 1).eventOnce evParked serial ch 255 []
  | some (k, x) =>
    if x.isDuplicate then
      let s := if x.st = .present then s.lostActions k x else s
      let s := s.stnSet k (fun x => { x with st := .absent, exch := .none, unused := true })
      (s.assign ch serial 255 3).eventOnce evDuplicate serial ch 255 []
    else if k / 256 ≠ ch then
      (s.assign ch serial 255 2).eventOnce evMiswired serial ch (k % 256) [BitVec.ofNat 8 ch, BitVec.ofNat 8 (k / 256), BitVec.ofNat 8 (k % 256)]
    else
      let s := if x.st = .present then s.lostActions k x else s
      let s := s.stnSet k (fun x => { x with st := .assigned, exch := .none, sent := false })
      s.assign ch serial (k % 256) 0

/-- ANNOUNCE. -/
def execAnnounce (ch : Fin 4) (s : State) : Host.Outcome State Fault Refusal :=
  s.whenAwake fun s => s.ringTakeKind ch (· == .announce) (fun h s =>
    let s := s.announceNote ch h.data
    if s.iosSends then s.announced ch h.data else s)

/-- Any valid frame of a LOST station begins the exchange anew; a frame of another station goes to `f`. At an address that stays unused after a duplicate
nothing is taken (R201). -/
def State.fromStation (s : State) (k : Nat) (f : Stn → State → State) : State :=
  match s.stn k with
  | none => s
  | some x => if x.unused then s else if x.st = .lost ∧ s.iosSends = true then s.cfgBegin k else f x s

/-- The HELLO of every table station has been received (R206, step 2). -/
def State.helloCheck (s : State) : State :=
  if s.mfp.helloAll = false ∧ s.mfp.stations.all (fun e => e.2.greeted) = true then
    let s := (s.mfpSet (fun m => { m with helloAll := true })).raise Pg.FNET Ev.FNET_DISC_DONE
    if s.fget F.IOS_STAT_PHASE = 1 then s.fput F.IOS_STAT_PHASE 2 else s
  else s

/-- A HELLO: another serial is ignored and counted in BAD_FRAME. -/
def State.hello (s : State) (k : Nat) (d : List Byte) : State :=
  match s.stn k with
  | none => s
  | some x =>
    if serialOf d ≠ x.serial then s.badFrame
    else
      let nonce := leOf d 6 2
      let s := s.stnSet k (fun x => { x with greeted := true, nonces := if x.nonces.contains nonce then x.nonces else nonce :: x.nonces })
      let s := if x.unused = false ∧ (x.st = .assigned ∨ x.st = .lost) then s.cfgBegin k else s
      s.helloCheck

/-- HELLO. -/
def execHello (ch : Fin 4) (s : State) : Host.Outcome State Fault Refusal :=
  s.whenAwake fun s => s.ringTakeKind ch (· == .hello) (fun h s => if s.iosSends then s.hello (stnKey ch h.addr) h.data else s)

/-- A wait of station `k` that has begun ends. -/
def State.waitOver (s : State) (k : Nat) (ok : Stn → Bool) (f : State → State) : State :=
  match s.stn k with
  | none => s
  | some x => if s.iosSends && x.sent && ok x then f (s.reachMono x.waitEnd) else s

/-- HELLO_TIMEOUT: no HELLO within 20 ms of the ASSIGN. -/
def execHelloTimeout (ch : Fin 4) (addr : Nat) (s : State) : Host.Outcome State Fault Refusal :=
  s.whenAwake fun s => s.waitOver (stnKey ch addr) (·.st == .assigned) (fun s => s.stnSet (stnKey ch addr) (fun x => { x with st := .absent }))

/-! ### CFG_ACK, INIT_REPORT, OUT_SET (R204, R205, R209) -/

/-- The third failed OUT_SET makes the station LOST; the first and second are sent again. -/
def State.outSetFailed (s : State) (k : Nat) (x : Stn) : State :=
  let s := s.stnSet k (fun x => { x with outTries := x.outTries + 1 })
  if x.outTries + 1 < 3 then s.outSet k x else s.stationLost k

/-- The OUT_SET is acknowledged: PRESENT, with REJOINED, or JOINED when the station was never PRESENT. -/
def State.rejoined (s : State) (k : Nat) (x : Stn) : State :=
  ((s.stationPresent k).iosEvent (if x.everPresent then evRejoined else evJoined) (k / 256) (k % 256) (serialBytes x.serial)).fullCheck

/-- A CFG_ACK in the station's state. -/
def State.cfgAck (s : State) (k : Nat) (d : List Byte) (x : Stn) : State :=
  if x.st = .configuring then
    match x.exch with
    | .check => s.cfgCommit k x (decide (leOf d 4 4 ≠ (crc32c x.image).toNat))
    | .commit =>
      if byteOf d 0 = 0 then s.stnSet k (fun x => { x with exch := .initWait, sent := true, waitEnd := s.monoNow + msMono 20 }) else s.cfgFailed k
    | _ => s
  else if x.st = .rejoining then (if byteOf d 0 = 0 then s.rejoined k x else s.outSetFailed k x)
  else s

/-- CFG_ACK. -/
def execCfgAck (ch : Fin 4) (s : State) : Host.Outcome State Fault Refusal :=
  s.whenAwake fun s => s.ringTakeKind ch (· == .cfgAck) (fun h s =>
    if s.iosSends then s.fromStation (stnKey ch h.addr) (fun x s => s.cfgAck (stnKey ch h.addr) h.data x) else s)

/-- CFG_TIMEOUT: no answer to CFG_CHECK or CFG_COMMIT in 10 ms, or no INIT_REPORT in 20 ms. -/
def execCfgTimeout (ch : Fin 4) (addr : Nat) (s : State) : Host.Outcome State Fault Refusal :=
  s.whenAwake fun s => s.waitOver (stnKey ch addr) (·.st == .configuring) (fun s => s.cfgFailed (stnKey ch addr))

/-- OUT_SET_TIMEOUT. -/
def execOutSetTimeout (ch : Fin 4) (addr : Nat) (s : State) : Host.Outcome State Fault Refusal :=
  s.whenAwake fun s => s.waitOver (stnKey ch addr) (·.st == .rejoining) (fun s =>
    match s.stn (stnKey ch addr) with
    | some x => s.outSetFailed (stnKey ch addr) x
    | none => s)

def State.staleFrame (s : State) : State := (s.countSat R.IOS_STALE_FRAME 1).raise Pg.IOS Ev.IOS_STALE_FRAME
def State.latchMissed (s : State) (flags : Nat) : State :=
  if flags % 2 = 1 then (s.countSat R.IOS_LATCH_MISS 1).raise Pg.IOS Ev.IOS_LATCH_MISS else s

/-- The INIT values of a frame of INIT_REPORT. -/
def State.initVals (s : State) (ch n group : Nat) (x : Stn) (d : List Byte) : List InitVal :=
  let (t, skew) := s.snapshot ch n
  let inst := s.toMono (t - srcAgeNs (byteOf d 2 / 16))
  (List.range (byteOf d 3)).filterMap (fun i =>
    match (allIns x.image)[24 * group + i]? with
    | none => none
    | some r => some { index := r, value := (framePoint d i).1, q := (framePoint d i).2, inst := inst, skew := skew, miss := byteOf d 2 % 2 == 1 })

/-- A frame of INIT_REPORT; complete, it makes the station READY, or REJOINING once START has been sent. -/
def State.initReport (s : State) (k : Nat) (h : Heard) (x : Stn) : State :=
  if x.st = .configuring ∧ x.exch = .initWait then
    let n := fullCycle h.ts (leOf h.data 0 2)
    if h.ts / msNs < n + 64 then
      let vals := s.initVals (k / 256) n h.group x h.data
      let groups := if x.groups.contains h.group then x.groups else h.group :: x.groups
      let x' := { x with inits := x.inits ++ vals, groups := groups }
      let s := s.stnSet k (fun _ => x')
      if groups.length < groupsOf (allIns x.image).length then s
      else if s.mfp.startCycle.isNone then s.stnSet k (fun x => { x with st := .ready, exch := .none })
      else s.outSet k x'
    else s.staleFrame
  else s

/-- INIT_REPORT. -/
def execInitReport (ch : Fin 4) (s : State) : Host.Outcome State Fault Refusal :=
  s.whenAwake fun s => s.ringTakeKind ch (· == .initReport) (fun h s =>
    let s := s.latchMissed (byteOf h.data 2)
    if s.iosSends then s.fromStation (stnKey ch h.addr) (fun x s => s.initReport (stnKey ch h.addr) h x) else s)

/-! ### START (R205, R206, R208) -/

/-- START is sent on every channel: launched 100 µs from now, with N_s the first cycle whose boundary lies 2 ms after that (log entry 17). -/
def State.startSend (s : State) : State :=
  let launch := s.now + 100000
  let ns := (launch + 2000000 + msNs - 1) / msNs
  let s := s.syncChannels.foldl (fun s c => s.q0 (s.mfpFrame c 5 0 5 0 launch false (padTo 8 (natLe 6 ns)))) s
  (s.mfpSet (fun m => { m with startCycle := some ns })).fput F.IOS_STAT_PHASE 3

/-- START: every table station is READY. -/
def execStart (s : State) : Host.Outcome State Fault Refusal :=
  s.whenAwake fun s =>
    if s.iosSends && s.mfp.hasTable && s.mfp.startCycle.isNone && s.mfp.stations.all (fun e => e.2.st == .ready) then s.startSend else s

/-- Every READY station becomes PRESENT. -/
def State.presentReady (s : State) : State :=
  ((s.mfp.stations.filter (fun e => e.2.st == .ready)).foldl (fun s e => s.stationPresent e.1) s).fullCheck

/-- STATION_PRESENT: cycle N_s begins. -/
def execStationPresent (s : State) : Host.Outcome State Fault Refusal :=
  s.whenAwake fun s =>
    match s.mfp.startCycle with
    | none => s
    | some ns => if s.iosSends then (s.reach (ns * msNs)).presentReady else s

/-- Steps 1 and 2 of R208: START, and the stations that have not been configured become LOST. -/
def State.tmoFloor (s : State) : State :=
  let s := if s.mfp.startCycle.isNone then s.startSend else s
  (s.mfp.stations.filter (fun e => e.2.st == .absent || e.2.st == .assigned || e.2.st == .configuring)).foldl (fun s e => s.stationLost e.1) s

/-- START_TMO expires before IMAGE_FULL (R208). While IOS is disabled it sends nothing and keeps the station states (R218): steps 1 and 2 then wait for its
enable. -/
def State.startTimeout (s : State) : State :=
  let s := if s.iosRuns then s.tmoFloor else s.mfpSet (fun m => { m with tmoDue := true })
  let s := (s.fput F.IOS_STAT_TIMEOUT 1).raise Pg.FNET Ev.FNET_START_TMO
  ((s.fput F.IOS_STAT_PHASE 4).startMs).releaseOk

/-- START_TMO: counts from the release of the reset that began this start-up (log entry 57), also while IOS is disabled; IMAGE_FULL reached in the same cycle wins (R214). -/
def execStartTmo (s : State) : Host.Outcome State Fault Refusal :=
  s.whenAwake fun s =>
    if !s.standby && s.mfp.hasTable && !s.fset F.IOS_STAT_TIMEOUT && !s.fset F.IOS_STAT_IMAGE_FULL then
      let s := (s.reachCyc (cycMs s.startTmoMs)).fullCheck
      if s.fset F.IOS_STAT_IMAGE_FULL then s else s.startTimeout
    else s

/-! ### Inputs (R189, R190, R197, R212) -/

/-- A STD_IN is stamped: it counts for its STD cycle, and its offset is observed. -/
def State.stdStamp (s : State) (k ts : Nat) (x : Stn) : State :=
  let off := ts % 50000000
  let s := s.stnSet k (fun x => { x with maxOff := max x.maxOff (off / 1000), seenStd := if x.st = .present then ts / 50000000 :: x.seenStd else x.seenStd })
  if x.stdOffset * 1000 < off then s.raise Pg.IOS Ev.IOS_SLOT_LATE else s

/-- SEQ names a SYNC of the current or the previous period of the class. -/
def seqFresh (c ts n : Nat) : Bool := decide (ts / msNs / classMs c ≤ n / classMs c + 1)

/-- The points of a FAST_IN, STD_IN or SLOW_IN are written. -/
def State.inputPoints (s : State) (k c : Nat) (h : Heard) (x : Stn) : State :=
  let n := fullCycle h.ts (leOf h.data 0 2)
  let (t, skew) := s.snapshot (k / 256) n
  let inst := s.toMono (t - srcAgeNs (byteOf h.data 2 / 16))
  let recs := recsOf x.image c false
  ((List.range (byteOf h.data 3)).foldl (fun s i =>
    match recs[24 * h.group + i]? with
    | none => s
    | some r =>
      let (v, q) := framePoint h.data i
      let (s, ok) := s.inputWrite (x.pids.getD r 0) v q inst skew (byteOf h.data 2 % 2 == 1) false
      if ok then s.noteGot k r (some n) else s) s).fullCheck

/-- A periodic input frame of a station. -/
def State.inputFrame (s : State) (k c : Nat) (h : Heard) (x : Stn) : State :=
  if x.st = .present then
    if seqFresh c h.ts (fullCycle h.ts (leOf h.data 0 2)) then s.inputPoints k c h x else s.staleFrame
  else s

/-- A STD_IN is stamped whatever the state of its station. -/
def State.stdHeard (s : State) (k c ts : Nat) : State :=
  match s.stn k with
  | some x => if c = 1 ∧ x.unused = false then s.stdStamp k ts x else s
  | none => s

/-- The class of an input frame. -/
def MfpKind.inputClass : MfpKind → Option Nat
  | .input c => some c
  | _ => none

/-- MFP_INPUT_FRAME. -/
def execMfpInputFrame (ch : Fin 4) (s : State) : Host.Outcome State Fault Refusal :=
  s.whenAwake fun s => s.ringTakeKind ch (fun k => k.inputClass.isSome) (fun h s =>
    let c := h.kind.inputClass.getD 0
    let s := (s.latchMissed (byteOf h.data 2)).stdHeard (stnKey ch h.addr) c h.ts
    s.fromStation (stnKey ch h.addr) (fun x s => s.inputFrame (stnKey ch h.addr) c h x))

/-- One entry of a COS frame: dated by SEQ and DT, with its trigger, changed or not (R240). -/
def State.cosEntry (s : State) (k : Nat) (h : Heard) (x : Stn) (i : Nat) : State :=
  let b := 4 + 8 * i
  let r := byteOf h.data b
  if r < recCount x.image ∧ recOut x.image r = false then
    let n := fullCycle h.ts (leOf h.data (b + 4) 2)
    let (t, skew) := s.snapshot (k / 256) n
    let p := x.pids.getD r 0
    let (s, ok) := s.inputWrite p (leOf h.data (b + 2) 2) (byteOf h.data (b + 1) % 4) (s.toMono (t - 250000 + leOf h.data (b + 6) 2 * 1000)) skew false false
    if ok then (s.noteGot k r (some n)).trigger 2 p (s.view p).value false else s
  else s

/-- MFP_COS_FRAME. -/
def execMfpCosFrame (ch : Fin 4) (s : State) : Host.Outcome State Fault Refusal :=
  s.whenAwake fun s => s.ringTakeKind ch (· == .cos) (fun h s =>
    s.fromStation (stnKey ch h.addr) (fun x s =>
      if x.st = .present then ((List.range (byteOf h.data 0)).foldl (fun s i => s.cosEntry (stnKey ch h.addr) h x i) s).fullCheck else s))

/-- MFP_ALARM_FRAME: the frame is taken; the spec gives an alarm no effect on the image (R189, R190). -/
def execMfpAlarmFrame (ch : Fin 4) (s : State) : Host.Outcome State Fault Refusal :=
  s.whenAwake fun s => s.ringTakeKind ch (· == .alarm) (fun h s => s.fromStation (stnKey ch h.addr) (fun _ s => s))

/-! ### Missed cycles (R209) -/

/-- One station's STD cycle `c` is judged. -/
def State.stdJudge (s : State) (c k : Nat) (x : Stn) : State :=
  let s := s.stnSet k (fun x => { x with seenStd := x.seenStd.filter (fun v => decide (c < v)) })
  if x.st = .present ∧ x.stdFrom ≤ c then
    if x.seenStd.contains c then s.stnSet k (fun x => { x with missed := 0 })
    else
      let s := s.stnSet k (fun x => { x with missed := x.missed + 1 })
      if x.missed + 1 < 3 then s else s.stationLost k
  else s

/-- STATION_MISSED_CYCLE: 1 ms after the end of the STD cycle being watched. -/
def State.missedCycle (s : State) : State :=
  let c := max s.mfp.stdCycle ((s.now - msNs) / 50000000)
  let s := s.reach ((c + 1) * 50000000 + msNs)
  let s := s.mfp.stations.foldl (fun s e => s.stdJudge c e.1 e.2) s
  s.mfpSet (fun m => { m with stdCycle := c + 1 })

def execStationMissedCycle (s : State) : Host.Outcome State Fault Refusal :=
  s.whenAwake fun s => if s.iosSends then s.missedCycle else s

/-! ### The IOS page (R216, R217) -/

/-- A read of EVT removes the head of the event FIFO. -/
def State.evtRead (s : State) : State × Word :=
  match s.mfp.events with
  | [] => (s, 0)
  | e :: l => (s.mfpSet (fun m => { m with events := l }), e)

/-- IOS_EVT_READ. -/
def execIosEvtRead (req : Req) (s : State) : Host.Outcome State Fault Refusal := s.regReadCmd req R.IOS_EVT (fun s => s.evtRead)

/-- Table stations in one of some states. -/
def State.stnCount (s : State) (p : SState → Bool) : Nat := s.mfp.stations.countP (fun e => p e.2.st)

/-- The station that STN_SEL names. -/
def State.stnSelected (s : State) : Option Stn :=
  let a := s.fget F.IOS_STN_SEL_ADDR
  if 1 ≤ a ∧ a ≤ 64 then s.stn (stnKey (s.fget F.IOS_STN_SEL_CH) a) else none

/-- Registers of IOS that are formed from the stations when they are read; none for the others. -/
def State.iosValue (s : State) (k : Nat) : Option Nat :=
  let sel (f : Stn → Nat) : Option Nat := some ((s.stnSelected.map f).getD 0)
  if k = R.IOS_STN_STAT then sel (fun x => x.lostCount * 65536 + min 255 x.missed * 256 + sstateCode x.st)
  else if k = R.IOS_STN_SER_LO then sel (fun x => x.serial.toNat % 2 ^ 32)
  else if k = R.IOS_STN_SER_HI then sel (fun x => x.serial.toNat / 2 ^ 32)
  else if k = R.IOS_STN_MAXOFF then sel (fun x => x.maxOff)
  else if k = R.IOS_COUNTS then
    some (min 255 s.mfp.parked * 2 ^ 24 + min 255 (s.stnCount (fun t => t == .absent || t == .assigned || t == .configuring)) * 65536
      + min 255 (s.stnCount (fun t => t == .lost || t == .cfgFail)) * 256 + min 255 (s.stnCount (fun t => t == .present)))
  else if R.IOS_LOST_MAP 0 ≤ k ∧ k ≤ R.IOS_LOST_MAP 7 then
    let m := (k - R.IOS_LOST_MAP 0) / 4
    some ((List.range 32).foldl (fun a j => a + boolNat (s.stnState (stnKey (m / 2) (32 * (m % 2) + j + 1)) == .lost) * 2 ^ j) 0)
  else none

/-! ### Frames that have left (R204, R205, R209) -/

/-- The wait for the answer of station `k` begins, `ms` from now. -/
def State.waitBegin (s : State) (k ms : Nat) (ok : Stn → Bool) : State :=
  s.stnSet k (fun x => if !x.sent && ok x then { x with sent := true, waitEnd := s.monoNow + msMono ms } else x)

/-- A frame of Q0 has become valid: CFG_CHECK, CFG_COMMIT and the last OUT_SET are answered within 10 ms, ASSIGN within 20 ms. -/
def State.q0Sent (s : State) (ch : Nat) (d : Desc) (b : List Byte) : State :=
  let addr := d.id / 2 ^ 18 % 256
  match d.id / 2 ^ 26, d.id / 2 ^ 12 % 32 with
  | 5, 3 => s.waitBegin (stnKey ch addr) 10 (fun x => x.st == .configuring && x.exch == .check)
  | 5, 2 => s.waitBegin (stnKey ch addr) 10 (fun x => x.st == .configuring && x.exch == .commit)
  | 5, 6 => s.waitBegin (stnKey ch addr) 10 (fun x => x.st == .rejoining && d.id % 4096 + 1 == groupsOf (allOuts x.image).length)
  | 6, 1 => s.waitBegin (stnKey ch (byteOf b 6)) 20 (fun x => x.st == .assigned)
  | _, _ => s

/-- The data bytes of the attempt on the bus. -/
def State.attemptData (s : State) (n : Nat) : List Byte :=
  match (s.canx n).tx with
  | none => []
  | some t => match s.qHead n t.queue with | some a => s.bytesAt (a + 16) 8 | none => []

/-- CAN_TX_SUCCESS: an own frame becomes valid; SYNC has the rules of R186 beside, and frames of Q0 start the waits of the scan engine. -/
def execCanTxSuccess (ch : Fin 4) (loopDelay measured : Nat) (s : State) : Host.Outcome State Fault Refusal :=
  s.whenAwake fun s =>
    let b := s.attemptData ch
    match s.canSent ch loopDelay measured with
    | (s, some (q, sof, d)) => if isSync q d then s.syncSent ch sof d else if q = 0 then s.q0Sent ch d b else s
    | (s, none) => s

/-! ### ENABLE of IOS, and a step of module time (R218, R428) -/

/-- The period of an output frame in progress counts as built, so that the frame goes in the next one. -/
def State.outSkip (s : State) (f : OutSlot) : OutSlot := { f with last := some (s.now / (classMs f.cls * msNs)) }

/-- Outputs go in the next period; STD cycles count from the first that starts now. -/
def State.iosRestart (s : State) : State :=
  let first := (s.now + 49999999) / 50000000
  s.mfpSet (fun m => { m with
    stations := m.stations.map (fun e => (e.1, { e.2 with missed := 0, seenStd := [], stdFrom := first }))
    outs := m.outs.map (fun l => l.map s.outSkip)
    stdCycle := first })

/-- ENABLE returns to 1; what START_TMO left to do is done (R208, R218). -/
def State.iosEnable (s : State) : State :=
  if s.mfp.tmoDue then (s.iosRestart.mfpSet (fun m => { m with tmoDue := false })).tmoFloor else s.iosRestart

/-- RX_RD_IOS follows RX_WR while IOS is disabled. -/
def State.iosDisable (s : State) : State :=
  [0, 1, 2, 3].foldl (fun s n => (s.fput (F.CAN_RX_RD_IOS_INDEX n) (s.fget (F.CAN_RX_WR_INDEX n))).canStat n) s

/-- A step makes no station LOST: the cycles that it leaves or enters part way are not judged; SYNC and output frames follow the new time. -/
def State.mfpStepped (s : State) : State :=
  let first := (s.now + 49999999) / 50000000
  s.syncRestart.mfpSet (fun m => { m with
    stations := m.stations.map (fun e => (e.1, { e.2 with seenStd := [], stdFrom := first }))
    outs := m.outs.map (fun l => l.map (fun f => { f with last := none }))
    stdCycle := first })

end Sys2Proof.Machine
end

