-- ==== Sys2Proof/Machine/Tune.lean ====
section
/-! DEFINITION. The TUNE page (10 R324 to R334): injection and capture units. -/
namespace Sys2Proof.Machine

def State.injx (s : State) (i : Nat) : InjX := s.inj.toList.getD i {}
def State.injSet (s : State) (i : Nat) (f : InjX → InjX) : State := { s with inj := s.inj.setIfInBounds i (f (s.injx i)) }
def State.capx (s : State) (j : Nat) : CapX := s.cap.toList.getD j {}
def State.capSet (s : State) (j : Nat) (f : CapX → CapX) : State := { s with cap := s.cap.setIfInBounds j (f (s.capx j)) }

def State.injRuns (s : State) (i : Nat) : Bool := s.fget (F.TUNE_INJ_STAT_STATE i) != 0
def State.capRuns (s : State) (j : Nat) : Bool := s.fget (F.TUNE_CAP_STAT_STATE j) == 1 || s.fget (F.TUNE_CAP_STAT_STATE j) == 2

/-- BLK_STAT follows the units (R333). -/
def State.tuneStat (s : State) : State :=
  (s.fput F.TUNE_STAT_INJ_RUN ([0, 1, 2, 3].foldl (fun a i => a + boolNat (s.injRuns i) * 2 ^ i) 0)).fput
    F.TUNE_STAT_CAP_RUN ([0, 1, 2, 3].foldl (fun a j => a + boolNat (s.capRuns j) * 2 ^ j) 0)

/-- Injection unit `i` ends, or is refused (R324, R327). -/
def State.injEnd (s : State) (i reason : Nat) : State :=
  (((s.fput (F.TUNE_INJ_STAT_STATE i) 0).fput (F.TUNE_INJ_STAT_REASON i) reason).raise Pg.TUNE (Ev.TUNE_INJ_END + i)).tuneStat

/-- Capture unit `j` ends (R330). -/
def State.capEnd (s : State) (j reason : Nat) : State :=
  (((s.fput (F.TUNE_CAP_STAT_STATE j) 3).fput (F.TUNE_CAP_STAT_REASON j) reason).raise Pg.TUNE (Ev.TUNE_CAP_END + j)).tuneStat

/-- Every running unit on a slot that satisfies `p` ends. -/
def State.unitsEnd (s : State) (p : Nat → Bool) (reason : Nat) : State :=
  let s := [0, 1, 2, 3].foldl (fun s i => if s.injRuns i && p (s.fget (F.TUNE_INJ_CFG_SLOT i)) then s.injEnd i reason else s) s
  [0, 1, 2, 3].foldl (fun s j => if s.capRuns j && p (s.fget (F.TUNE_CAP_CFG_SLOT j)) then s.capEnd j reason else s) s

/-- The slot enters STALE: its injections end, its captures do not. -/
def State.injStale (s : State) (slot : Nat) : State :=
  [0, 1, 2, 3].foldl (fun s i => if s.injRuns i && s.fget (F.TUNE_INJ_CFG_SLOT i) == slot then s.injEnd i 4 else s) s

/-- A module that becomes active starts with every unit IDLE and REASON 0 (R331). -/
def State.unitsFresh (s : State) : State :=
  ([0, 1, 2, 3].foldl (fun s i => ((((s.wr (R.TUNE_INJ_STAT i) 0).wr (R.TUNE_CAP_STAT i) 0).injSet i (fun _ => {})).capSet i (fun _ => {}))) s).tuneStat

/-! ### Injection (R324 to R326) -/

/-- Law of a slot as its block holds it. -/
def slotBase (k : Nat) : Nat := 0x109C0000 + 0x200 * k
def State.slotLaw (s : State) (k : Nat) : Nat := (s.readWord (slotBase k)).toNat % 8
def State.slotOn (s : State) (k : Nat) : Bool := (s.rd (R.LOOP_EN (k / 32))).getLsbD (k % 32)
def State.laneFailed (s : State) (l : Nat) : Bool := (s.rd R.LOOP_LANE_STAT).getLsbD l

/-- A START is refused. -/
def State.injRefused (s : State) (i : Nat) : Bool :=
  let k := s.fget (F.TUNE_INJ_CFG_SLOT i)
  let sig := s.fget (F.TUNE_INJ_CFG_SIG i)
  let order := s.fget (F.TUNE_INJ_CFG_ORDER i)
  let point := s.fget (F.TUNE_INJ_CFG_POINT i)
  !s.slotOn k || s.laneFailed (k % 4) || sig == 3 || (sig == 1 && (decide (order < 5) || decide (15 < order)))
    || (point == 0 && (s.slotLaw k == 3 || s.slotLaw k == 4)) || s.standby
    || [0, 1, 2, 3].any (fun n => n != i && s.injRuns n && s.fget (F.TUNE_INJ_CFG_SLOT n) == k && s.fget (F.TUNE_INJ_CFG_POINT n) == point)

/-- INJi_CMD.START. -/
def State.injStart (s : State) (i : Nat) : State :=
  if s.injRuns i then s.flag F.TUNE_FAULT_BAD_CMD
  else if s.injRefused i then s.injEnd i 6
  else
    let inc0 := min (2 ^ 31) (s.rd (R.TUNE_INJ_INC0 i)).toNat
    let s := s.injSet i (fun _ => { amp := sgn32 (s.rd (R.TUNE_INJ_AMP i)), lfsr := 2 ^ s.fget (F.TUNE_INJ_CFG_ORDER i) - 1, inc := inc0, notBefore := s.monoNow + 10000 })
    let s := (s.wr (R.TUNE_INJ_STAT i) 0).fput (F.TUNE_INJ_STAT_STATE i) (if s.fget (F.TUNE_INJ_DELAY_DELAY i) = 0 then 2 else 1)
    ([0, 1, 2, 3].foldl (fun s j =>
      if s.fget (F.TUNE_CAP_STAT_STATE j) == 1 && s.fget (F.TUNE_CAP_CFG_TRIG j) == i + 1 then s.capSet j (fun x => { x with triggered := true }) else s) s).tuneStat

/-- INJi_CMD.STOP. -/
def State.injStop (s : State) (i : Nat) : State := if s.injRuns i then s.injEnd i 2 else s

/-- A write of INJi_CMD. -/
def State.injCmd (s : State) (i : Nat) (v : Word) : State :=
  let s := if v.getLsbD 0 then s.injStart i else s
  if v.getLsbD 1 then s.injStop i else s

/-- INJ_START. -/
def execInjStart (req : Req) (i : Fin 4) (s : State) : Host.Outcome State Fault Refusal := s.regCmd req (R.TUNE_INJ_CMD i) (fun s => s.injStart i)
/-- INJ_STOP. -/
def execInjStop (req : Req) (i : Fin 4) (s : State) : Host.Outcome State Fault Refusal := s.regCmd req (R.TUNE_INJ_CMD i) (fun s => s.injStop i)

/-- Unit `i` injects at this published instant of the slot. -/
def State.injHere (s : State) (i slot mono : Nat) : Bool :=
  s.injRuns i && s.fget (F.TUNE_INJ_CFG_SLOT i) == slot && decide ((s.injx i).notBefore ≤ mono)

/-- The injected value at the present sample (R325). -/
def State.injValue (s : State) (i : Nat) : Int :=
  let x := s.injx i
  let d := s.fget (F.TUNE_INJ_DELAY_DELAY i)
  if x.k < d then 0
  else
    match s.fget (F.TUNE_INJ_CFG_SIG i) with
    | 0 => x.amp
    | 1 =>
      let n := s.fget (F.TUNE_INJ_CFG_ORDER i)
      let j := x.k - d
      let r := if 0 < j ∧ j % max 1 (s.fget (F.TUNE_INJ_CFG_HOLD_SMP i)) = 0 then prbsNext n x.lfsr else x.lfsr
      if r / 2 ^ (n - 1) % 2 = 1 then x.amp else -x.amp
    | _ => rnd (x.amp * sinTab (x.phase / 2 ^ 20)) 15

/-- Sum of what the units of a POINT inject at the slot: at most one does. -/
def State.injAt (s : State) (slot point mono : Nat) : Int :=
  [0, 1, 2, 3].foldl (fun a i => if s.injHere i slot mono && s.fget (F.TUNE_INJ_CFG_POINT i) == point then a + s.injValue i else a) 0

/-- The sample has been published: the signal advances, and the unit ends after its last sample. -/
def State.injNext (s : State) (i : Nat) : State :=
  let x := s.injx i
  let d := s.fget (F.TUNE_INJ_DELAY_DELAY i)
  let n := s.fget (F.TUNE_INJ_CFG_ORDER i)
  let j := x.k - d
  let x' :=
    if x.k < d then x
    else
      match s.fget (F.TUNE_INJ_CFG_SIG i) with
      | 1 => if 0 < j ∧ j % max 1 (s.fget (F.TUNE_INJ_CFG_HOLD_SMP i)) = 0 then { x with lfsr := prbsNext n x.lfsr } else x
      | 2 => { x with phase := (x.phase + x.inc) % 2 ^ 32, inc := (clampI 0 (2 ^ 31) ((x.inc : Int) + sgn32 (s.rd (R.TUNE_INJ_DINC i)))).toNat }
      | _ => x
  let s :=
    if x.k = 0 then
      [0, 1, 2, 3].foldl (fun s c =>
        if (s.capx c).triggered && s.fget (F.TUNE_CAP_STAT_STATE c) == 1 && s.fget (F.TUNE_CAP_CFG_TRIG c) == i + 1 then
          (s.capSet c (fun y => { y with skip := 0 })).fput (F.TUNE_CAP_STAT_STATE c) 2
        else s) s
    else s
  let s := (s.injSet i (fun _ => { x' with k := x.k + 1 })).fput (F.TUNE_INJ_STAT_K i) (min 0xFFFFFF (x.k + 1))
  let s := if d ≤ x.k + 1 then s.fput (F.TUNE_INJ_STAT_STATE i) 2 else s
  let len := (s.rd (R.TUNE_INJ_LEN i)).toNat
  if 0 < len ∧ d + len ≤ x.k + 1 then s.injEnd i 1 else s

/-! ### Capture (R328 to R330) -/

def capBase (j : Nat) : Nat := 0x10C80000 + j * 0x80000

/-- Records of the unit's buffer in use. -/
def State.capLen (s : State) (j : Nat) : Nat :=
  let n := s.fget (F.TUNE_CAP_LEN_LEN j)
  if n = 0 ∨ 65536 < n then 65536 else n

/-- The injection unit that TRIG names was started in this cycle: the capture takes that start (R332). -/
def State.capCaught (s : State) (j : Nat) : Bool :=
  match s.fget (F.TUNE_CAP_CFG_TRIG j) with
  | 0 => false
  | i + 1 => s.injRuns i && (s.injx i).k == 0 && (s.injx i).notBefore == s.monoNow + 10000

/-- CAPj_CMD.ARM. -/
def State.capArm (s : State) (j : Nat) : State :=
  let k := s.fget (F.TUNE_CAP_CFG_SLOT j)
  if s.capRuns j then s.flag F.TUNE_FAULT_BAD_CMD
  else if !s.slotOn k || decide (5 ≤ s.fget (F.TUNE_CAP_CFG_TRIG j)) || s.laneFailed (k % 4) || s.standby then
    ((s.fput (F.TUNE_CAP_STAT_REASON j) 6).raise Pg.TUNE (Ev.TUNE_CAP_END + j)).tuneStat
  else
    let s := s.capSet j (fun _ => { notBefore := s.monoNow + 10000, triggered := s.capCaught j })
    let s := (s.wr (R.TUNE_CAP_COUNT j) 0).wr (R.TUNE_CAP_NEXT j) 0
    ((s.wr (R.TUNE_CAP_STAT j) 0).fput (F.TUNE_CAP_STAT_STATE j) 1).tuneStat

/-- CAPj_CMD.STOP. -/
def State.capStop (s : State) (j : Nat) : State := if s.capRuns j then s.capEnd j 2 else s

/-- A write of CAPj_CMD. -/
def State.capCmd (s : State) (j : Nat) (v : Word) : State :=
  let s := if v.getLsbD 0 then s.capArm j else s
  if v.getLsbD 1 then s.capStop j else s

/-- CAP_ARM. -/
def execCapArm (req : Req) (j : Fin 4) (s : State) : Host.Outcome State Fault Refusal := s.regCmd req (R.TUNE_CAP_CMD j) (fun s => s.capArm j)
/-- CAP_STOP. -/
def execCapStop (req : Req) (j : Fin 4) (s : State) : Host.Outcome State Fault Refusal := s.regCmd req (R.TUNE_CAP_CMD j) (fun s => s.capStop j)

/-- The signals of a published instant: PV, SP, OUT, ERR (R329). -/
structure Signals where
  pv : Int
  sp : Int
  out : Int
  err : Int
deriving DecidableEq, Repr

/-- One record. -/
def State.capRecord (s : State) (j inst : Nat) (g : Signals) : State :=
  let v := match s.fget (F.TUNE_CAP_CFG_SEL j) with | 0 => g.pv | 1 => g.sp | 2 => g.out | _ => g.err
  let n := (s.rd (R.TUNE_CAP_COUNT j)).toNat
  let idx := s.fget (F.TUNE_CAP_NEXT_INDEX j)
  let s := s.storeWord (capBase j + 8 * idx) (BitVec.ofNat 64 ((word32 v).toNat + inst / 10000 % 2 ^ 32 * 2 ^ 32))
  let s := if n = 0 ∧ s.fset (F.TUNE_CAP_STAT_WRAPPED j) = false then s.put64 (R.TUNE_CAP_T0_LO j) inst else s
  let s := s.countWrap (R.TUNE_CAP_COUNT j) 1
  let s := if s.capLen j ≤ n then s.fput (F.TUNE_CAP_STAT_WRAPPED j) 1 else s
  let s := s.fput (F.TUNE_CAP_NEXT_INDEX j) ((idx + 1) % s.capLen j)
  if s.fget (F.TUNE_CAP_CFG_MODE j) = 0 ∧ s.capLen j ≤ n + 1 then
    (s.fput (F.TUNE_CAP_NEXT_INDEX j) (idx + 1)).capEnd j 1
  else s

/-- Unit `j` at a published instant of its slot. -/
def State.capInstant (s : State) (j inst mono : Nat) (g : Signals) : State :=
  let s :=
    if s.fget (F.TUNE_CAP_STAT_STATE j) = 1 ∧ s.fget (F.TUNE_CAP_CFG_TRIG j) = 0 ∧ (s.capx j).notBefore ≤ mono then
      (s.capSet j (fun x => { x with skip := 0 })).fput (F.TUNE_CAP_STAT_STATE j) 2
    else s
  if s.fget (F.TUNE_CAP_STAT_STATE j) = 2 then
    let k := (s.capx j).skip
    let s := s.capSet j (fun x => { x with skip := (k + 1) % max 1 (s.fget (F.TUNE_CAP_CFG_DECIM j)) })
    if k = 0 then s.capRecord j inst g else s
  else s

/-- A published instant of the slot: the injections advance, then the captures record. -/
def State.tuneInstant (s : State) (slot inst mono : Nat) (g : Signals) : State :=
  let s := [0, 1, 2, 3].foldl (fun s i => if s.injHere i slot mono then s.injNext i else s) s
  ([0, 1, 2, 3].foldl (fun s j => if s.fget (F.TUNE_CAP_CFG_SLOT j) == slot then s.capInstant j inst mono g else s) s).tuneStat

/-- A write of a configuration register of a unit: only while the unit is IDLE or DONE. -/
def State.tuneWrite (s : State) (running : Bool) (k : Nat) (v : Word) : State :=
  if running then s.flag F.TUNE_FAULT_BAD_WRITE else s.wr k v

end Sys2Proof.Machine
end

