-- ==== Sys2Proof/Machine/Loop.lean ====
section
/-! DEFINITION. The loop engine (09 R279 to R314, 10 R316 to R323, R335) and local I/O (09 R301 to R303, R315, R568). -/
namespace Sys2Proof.Machine

def slotCount : Nat := 512
def isFixed (k : Nat) : Bool := decide (k < 16)

def State.loopx (s : State) (k : Nat) : LoopX := tabGet (fun _ => {}) s.loops k
def State.loopSet (s : State) (k : Nat) (f : LoopX → LoopX) : State := { s with loops := tabSet (fun _ => ({} : LoopX)) s.loops k (f (s.loopx k)) }

/-! ### The slot block (R282 to R285) -/

/-- Word `i` of the block of slot `k`, as the engine reads it. -/
def State.lw (s : State) (k i : Nat) : Word64 := s.readWord (slotBase k + 8 * i)
def State.lwPut (s : State) (k i : Nat) (v : Word64) : State := s.storeWord (slotBase k + 8 * i) v

/-- Parameter word `i` as a read cycle sees it: a store of the same cycle is not seen (R305, R310). -/
def State.lwSeen (s : State) (k i : Nat) : Word64 :=
  if s.blkAt = s.cyc then (tabFind s.blkPrior (slotBase k + 8 * i)).getD (s.lw k i) else s.lw k i

/-- A store to the block word at `a` is about to be made. -/
def State.keepBlk (s : State) (a : Nat) : State :=
  let old : Tab Word64 := if s.blkAt = s.cyc then s.blkPrior else []
  { s with blkAt := s.cyc, blkPrior := if (tabFind old a).isSome then old else tabPut old a (s.readWord a) }

def wTiming : Nat := 2
def wSrc : Nat := 3
def wSrc2 : Nat := 4
def wIacc : Nat := 32
def wDst : Nat := 33
def wUprev : Nat := 34
def wYst : Nat := 35
def wLast : Nat := 36
def wFlags : Nat := 37
def wTime : Nat := 38
def wNEval : Nat := 48
def wNMiss : Nat := 49
def wPv : Nat := 50
def wSince : Nat := 51

/-- Period and offset in ns, and the deadline in ns after the sample instant (R283): at most the period. -/
def State.loopPeriod (s : State) (k : Nat) : Nat := (s.lw k wTiming).toNat % 2 ^ 24 * 10000
def State.loopOffset (s : State) (k : Nat) : Nat := (s.lw k wTiming).toNat / 2 ^ 24 % 2 ^ 24 * 10000
def State.loopDeadline (s : State) (k : Nat) : Nat := min ((s.lw k wTiming).toNat / 2 ^ 48 * 1000) (s.loopPeriod k)
def State.loopPrio (s : State) (k : Nat) : Nat := (s.lw k 0).toNat / 16 % 8

/-- A descriptor: KIND and INDEX, and its reserved bits. -/
def dKind (d : Nat) : Nat := d / 65536 % 8
def dIndex (d : Nat) : Nat := d % 65536

def State.pvSrc (s : State) (k : Nat) : Nat := (s.lw k wSrc).toNat % 2 ^ 32
def State.spSrc (s : State) (k : Nat) : Nat := (s.lw k wSrc).toNat / 2 ^ 32
def State.ffSrc (s : State) (k : Nat) : Nat := (s.lw k wSrc2).toNat % 2 ^ 32
def State.outDst (s : State) (k : Nat) : Nat := (s.lw k wSrc2).toNat / 2 ^ 32

/-- The point of the output, if it has one. -/
def State.outPoint? (s : State) (k : Nat) : Option Nat :=
  let d := s.outDst k
  if dKind d = 1 then some (dIndex d) else if dKind d = 2 then tabFind s.lioPids (8 + dIndex d) else none

/-- Least and greatest value of an output's type. -/
def typeRange (t : Nat) : Int × Int := if t = 1 then (-32768, 32767) else if t = 2 then (0, 65535) else (-2147483648, 2147483647)

def State.outRange (s : State) (k : Nat) : Int × Int :=
  match s.outPoint? k with
  | some p => typeRange (s.point p).ptype
  | none => (-2147483648, 2147483647)

/-- LO and HI of R293. -/
def State.loopLimits (s : State) (k : Nat) : Int × Int :=
  (max (loI (s.lwSeen k 6)) (s.outRange k).1, min (hiI (s.lwSeen k 6)) (s.outRange k).2)

/-- Parameters and state, read in one cycle (R305). -/
def State.blk (s : State) (k : Nat) : Blk :=
  { cfg := s.lwSeen k 0, ctl := s.lwSeen k 1, src2 := s.lwSeen k 4, spi := s.lwSeen k 5, lim := s.lwSeen k 6, rdb := s.lwSeen k 7, bag := s.lwSeen k 8
    c := (List.range 8).map (fun i => s.lwSeen k (9 + i))
    iacc := (s.lw k wIacc).toInt, dst := loI (s.lw k wDst), edp := hiI (s.lw k wDst), uprev := loI (s.lw k wUprev)
    yst := loI (s.lw k wYst), xprev := hiI (s.lw k wYst) }

/-- The words that the engine reads of a block: false when one is uncorrectable (R309). -/
def State.blkCheck (s : State) (k : Nat) : Bool × State :=
  (List.range 17 ++ (List.range 7).map (· + 32) ++ (List.range 4).map (· + 48)).foldl (fun a i =>
    let (v, s) := a.2.eccRead (slotBase k + 8 * i) .loop
    (a.1 && v != EccVerdict.uncorrectable, s)) (true, s)

/-! ### Lanes (R279, R288, R309, R311) -/

/-- The lane takes instants and evaluates. -/
def State.laneRuns (s : State) (l : Nat) : Bool := s.enabled Pg.LOOP && !s.standby && !s.laneFailed l

/-- BLK_STAT.LANE_RUN. -/
def State.laneStat (s : State) : State :=
  s.fput F.LOOP_STAT_LANE_RUN ([0, 1, 2, 3].foldl (fun a l => a + boolNat (s.laneRuns l) * 2 ^ l) 0)

/-- Slots of a lane in which something is held. -/
def State.laneSlots (s : State) (l : Nat) : List Nat := (s.loops.map (·.1)).filter (fun k => k % 4 == l)

/-- The engine publishes `v` to the slot's output (R295). -/
def State.loopPublish (s : State) (k : Nat) (v : Int) (q : Nat) : State :=
  match s.outPoint? k with
  | some p => s.sourceWrite p (word32 v) q s.monoNow
  | none => s

/-- Lane `l` fails (R309): cause 1 uncorrectable error, 2 self-check. -/
def State.laneFail (s : State) (l cause : Nat) : State :=
  if s.laneFailed l then s
  else
    let s := (s.setBit R.LOOP_LANE_STAT l true).fput ⟨R.LOOP_LANE_STAT, 2 * l + 5, 2 * l + 4⟩ cause
    let s := (s.raise Pg.LOOP (Ev.LOOP_LANE_FAULT + l)).note Pg.LOOP (Ev.LOOP_LANE_FAULT + l) [BitVec.ofNat 8 l, BitVec.ofNat 8 cause]
    let s := (s.laneSlots l).foldl (fun s k => s.loopSet k (fun x => { x with due := none, out := none })) s
    let s := s.unitsEnd (fun k => k % 4 == l) 5
    let s := (List.range 16).foldl (fun s i => s.wr (R.LOOP_EN i) (s.rd (R.LOOP_EN i) &&& ~~~(BitVec.ofNat 32 (0x11111111 * 2 ^ l)))) s
    let s := s.points.foldl (fun s e =>
      match e.2.src with
      | .loop k => if k % 4 = l then s.sourceWrite e.1 (s.point e.1).value 2 s.monoNow else s
      | _ => s) s
    s.laneStat

/-- Some block of the lane has an uncorrectable word. -/
def State.laneBad (s : State) (l : Nat) : Bool :=
  s.ecc.any (fun e => slotBase 0 ≤ e.1 && e.1 < slotBase 512 && (e.1 - slotBase 0) / 0x200 % 4 == l && s.eccAt e.1 == .uncorrectable)

/-- LOOP_LANE_FAULT: a self-check mismatch, or an uncorrectable error in a slot block. -/
def execLoopLaneFault (lane : Fin 4) (selfCheck : Bool) (s : State) : Host.Outcome State Fault Refusal :=
  s.whenAwake fun s =>
    if s.laneRuns lane then (if selfCheck then s.laneFail lane 2 else if s.laneBad lane then s.laneFail lane 1 else s) else s

/-! ### Cascades (R299, R300) -/

/-- The outer slot of `k`. -/
def State.outerOf (s : State) (k : Nat) : Option Nat := if dKind (s.spSrc k) = 3 then some (dIndex (s.spSrc k)) else none

/-- Number of outer loops above a slot. -/
def State.depth (s : State) (k : Nat) : Nat → Nat
  | 0 => 0
  | fuel + 1 =>
    match s.outerOf k with
    | none => 0
    | some o => 1 + s.depth o fuel

/-- The chain above a slot comes to an end. -/
def State.chainEnds (s : State) (k : Nat) : Nat → Bool
  | 0 => false
  | fuel + 1 =>
    match s.outerOf k with
    | none => true
    | some o => s.chainEnds o fuel

/-- Enabled inner slots of `k`. -/
def State.innersOf (s : State) (k : Nat) : List Nat := (List.range slotCount).filter (fun i => s.slotOn i && s.outerOf i == some k)

/-! ### Sample instants (R286, R290, R307) -/

/-- The next sample instant of slot `k`. -/
def State.nextSample (s : State) (k : Nat) : Nat :=
  let x := s.loopx k
  let b := ((x.notBefore : Int) + s.mtOff).toNat
  firstInstant (s.loopPeriod k) (s.loopOffset k % s.loopPeriod k) (max (max s.instFrom b) (if x.stepped then 0 else x.lastInst + 1))

/-- A due slot was not evaluated by its deadline (R288). -/
def State.loopMiss (s : State) (k : Nat) : State :=
  let s := s.loopSet k (fun x => { x with due := none })
  let s := s.lwPut k wFlags (s.lw k wFlags ||| 8)
  let n := min 0xFFFFFFFF ((s.lw k wNMiss).toNat % 2 ^ 32 + 1)
  let s := s.lwPut k wNMiss (BitVec.ofNat 64 ((s.lw k wNMiss).toNat / 2 ^ 32 * 2 ^ 32 + n))
  ((s.setBit (R.LOOP_MISS (k / 32)) (k % 32) true).countSat R.LOOP_MISS_TOTAL 1).raise Pg.LOOP Ev.LOOP_MISS

/-- Image words that a fixed-phase slot latches at its sample cycle. -/
def State.loopSnap (s : State) (k : Nat) : List (Nat × Word64) :=
  [(0, s.pvSrc k), (1, s.spSrc k), (2, s.ffSrc k)].filterMap (fun (r, d) => if dKind d = 1 then some (r, s.pointWord (dIndex d)) else none)

/-- The instant `t` is taken. -/
def State.loopTake (s : State) (k t : Nat) : State :=
  let s := s.reach t
  let s := if (s.loopx k).due.isSome && !isFixed k then s.loopMiss k else s
  s.loopSet k (fun x => { x with
    due := some t, dueCyc := s.cyc, dueMono := s.monoNow, dueLag := s.now - t, snap := if isFixed k then s.loopSnap k else []
    rephased := x.stepped, stepped := false, lastInst := t, lastMono := some s.monoNow })

/-- LOOP_SAMPLE: the next sample instant of the slot comes. -/
def execLoopSample (slot : Fin 512) (s : State) : Host.Outcome State Fault Refusal :=
  s.whenReady fun s => if s.laneRuns (slot % 4) && s.slotOn slot then s.loopTake slot (s.nextSample slot) else s

/-- A step of module time (R290): REPHASE once, and the next instant of each slot at least half a period after its previous sample cycle. -/
def State.loopStepped (s : State) : State :=
  let on := (s.loops.map (·.1)).filter s.slotOn
  let s := on.foldl (fun s k =>
    let x := s.loopx k
    let nb := match x.lastMono with
      | some m => max x.notBefore (m + s.loopPeriod k / 2)
      | none => x.notBefore
    s.loopSet k (fun x => { x with stepped := true, notBefore := nb })) s
  if on.isEmpty then s else s.raise Pg.LOOP Ev.LOOP_REPHASE

/-! ### Judging the inputs (R316 to R319) -/

/-- An input as read. -/
structure InVal where
  v : Int := 0
  q : Nat := 0
  stale : Bool := false
deriving DecidableEq, Repr

/-- A point word judged. -/
def wordVal (w : Word64) (lim : Nat) : InVal :=
  let q := w.toNat / 2 ^ 32 % 4
  { v := loI w, q := q, stale := q == 2 || (lim != 0 && !w.getLsbD 36 && decide (lim < w.toNat / 2 ^ 40)) }

/-- AIN `i`: a fixed-phase slot on the grid has the conversion held at its instant, another the latest result. -/
def State.ainVal (s : State) (x : LoopX) (k i lim : Nat) : InVal :=
  let held := isFixed k && x.due == some s.lio.heldAt
  let (v, clip) := if held then s.lio.held.getD i (0, false) else (sgn16 (s.fget (F.LIO_AIN_CODE i)), s.fset (F.LIO_AIN_CLIP i))
  let at_ := if held then s.lio.heldMono else s.lio.resMono
  { v := v, q := boolNat clip, stale := lim != 0 && decide (lim * 8192 < s.monoNow - at_) }

/-- Input `role` of slot `k`, of descriptor `d`. -/
def State.loopInput (s : State) (k role d : Nat) : InVal :=
  let x := s.loopx k
  let lim := (s.lwSeen k 8).toNat / 2 ^ 32 % 2 ^ 24
  match dKind d with
  | 1 => wordVal (if isFixed k then (tabFind x.snap role).getD 0 else s.pointWord (dIndex d)) lim
  | 2 => s.ainVal x k (dIndex d) lim
  | 3 =>
    let o := s.loopx (dIndex d)
    if o.evaluated then { v := o.u, q := o.q, stale := o.q == 2 } else {}
  | 4 => { v := loI (s.lwSeen k 5) }
  | _ => {}

/-- Reads of image words by the engine are checked by ECC2 (R131). -/
def State.loopReads (s : State) (k : Nat) : State :=
  [s.pvSrc k, s.spSrc k, s.ffSrc k].foldl (fun s d => if dKind d = 1 then (s.eccRead (pointAddr (dIndex d)) .loop).2 else s) s

/-- The slot's judgement: entry into STALE and exit from it, with their records (R318). -/
def State.loopJudge (s : State) (k : Nat) (bad : Option Nat) : State :=
  let was := s.bit (R.LOOP_STALE (k / 32)) (k % 32)
  let s := s.setBit (R.LOOP_STALE (k / 32)) (k % 32) bad.isSome
  let s := s.lwPut k wFlags (if bad.isSome then s.lw k wFlags ||| 16 else s.lw k wFlags &&& ~~~16)
  match bad with
  | some r =>
    let n := min 0xFFFFFFFF ((s.lw k wNMiss).toNat / 2 ^ 32 + 1)
    let s := s.lwPut k wNMiss (BitVec.ofNat 64 ((s.lw k wNMiss).toNat % 2 ^ 32 + n * 2 ^ 32))
    if was then s
    else ((s.raise Pg.LOOP Ev.LOOP_STALE).noteAs (recClass Pg.LOOP Ev.LOOP_STALE) (recSev Pg.LOOP Ev.LOOP_STALE) (tabGet (fun _ => 0) s.ownSlots k)
      Pg.LOOP Ev.LOOP_STALE (natLe 2 k ++ [BitVec.ofNat 8 r])).injStale k
  | none =>
    if was then
      (s.noteAs (recClass Pg.LOOP 0x201) (recSev Pg.LOOP 0x201) (tabGet (fun _ => 0) s.ownSlots k) Pg.LOOP noBit (natLe 2 k)).loopSet k
        (fun x => { x with reseed := true })
    else s

/-! ### One evaluation (R293 to R297, R317, R320 to R326) -/

/-- What an instant of a slot publishes: value, Q, and the signals for TUNE. -/
structure Pub where
  v : Int
  q : Nat
  sig : Signals
deriving DecidableEq, Repr

/-- With an OUT injection at the slot, the published value is clamped again (R326). -/
def State.withOutInj (s : State) (k : Nat) (mono : Nat) (lim : Int × Int) (u : Int) : Int :=
  if [0, 1, 2, 3].any (fun i => s.injHere i k mono && s.fget (F.TUNE_INJ_CFG_POINT i) == 1) then
    min (max (satI32 (u + s.injAt k 1 mono)) lim.1) lim.2
  else u

/-- Y of R320. -/
def State.loopY (s : State) (k : Nat) (b : Blk) (lim : Int × Int) : Int :=
  let y := match s.outPoint? k with
    | some p => (s.seen p).value.toInt
    | none => b.uprev
  min (max y lim.1) lim.2

/-- FLAGS of an instant without an evaluation of R293: bits 0 to 2, 5 and 6 stay. -/
def State.flagsHeld (s : State) (k : Nat) (held reph : Bool) : State :=
  s.lwPut k wFlags ((s.lw k wFlags &&& 0x77) ||| BitVec.ofNat 64 (boolNat held * 128 + boolNat reph * 256))

/-- The forced VALUE on the output, if any. -/
def State.outForced (s : State) (k : Nat) : Option Int :=
  match s.outPoint? k with
  | some p => if (s.seen p).forced then some (s.seen p).value.toInt else none
  | none => none

/-- The statistics of an evaluation that ran (R285, R335). -/
def State.loopStats (s : State) (k : Nat) (pv : Int) (pvStale : Bool) : State :=
  let s := s.lwPut k wNEval (s.lw k wNEval + 1)
  if pvStale then s else s.lwPut k wPv (packI (min (loI (s.lw k wPv)) pv) (max (hiI (s.lw k wPv)) pv))

/-- Under CTL.HOLD (R297, R321). -/
def State.loopHeld (s : State) (k : Nat) (b : Blk) (lim : Int × Int) : Int × State :=
  let x := s.loopx k
  let set := x.first && !x.heldSeen
  let u := if set then s.loopY k b lim else b.uprev
  let s := if set then s.lwPut k wUprev (packI u (hiI (s.lw k wUprev))) else s
  (u, (s.flagsHeld k true x.rephased).loopSet k (fun x => { x with heldSeen := true, reseed := true }))

/-- The limits of the inner loops that an outer loop respects (R300). -/
def State.innerLimit (s : State) (k : Nat) (b : Blk) (bit : Nat) : Bool :=
  b.ctl.getLsbD 3 && !b.aw && (s.innersOf k).any (fun i => (s.lw i wFlags).getLsbD bit)

/-- The evaluation of R293 runs. -/
def State.loopRun (s : State) (k : Nat) (b : Blk) (lim : Int × Int) (pv sp ff : Int) (stale pvStale : Bool) : Int × State :=
  let x := s.loopx k
  let b := if x.first then b.seed pv sp (s.loopY k b lim) else if x.reseed then b.reseed pv sp else b
  let f := s.outForced k
  let o := b.eval { pv := pv, sp := sp, ff := ff, lo := lim.1, hi := lim.2, forced := if b.ctl.getLsbD 1 then f else none
                    innerHi := s.innerLimit k b 0, innerLo := s.innerLimit k b 1 }
  let s := ((s.lwPut k wIacc (BitVec.ofInt 64 o.iacc)).lwPut k wDst (packI o.dst o.edp)).lwPut k wUprev (packI o.u sp)
  let s := ((s.lwPut k wYst (packI o.yst o.xprev)).lwPut k wLast (packI pv o.v)).lwPut k wTime (BitVec.ofNat 64 (x.due.getD 0))
  let flags := boolNat (decide (o.u < o.v)) + 2 * boolNat (decide (o.v < o.u)) + 4 * boolNat o.rateLim + 16 * boolNat stale
    + 64 * boolNat f.isSome + 256 * boolNat x.rephased
  let s := (s.lwPut k wFlags (BitVec.ofNat 64 flags)).loopStats k pv pvStale
  (o.u, s.loopSet k (fun x => { x with first := false, reseed := false, evaluated := true, u := o.u }))

/-- OUT_MIN exceeds OUT_MAX (R294). -/
def State.loopParamErr (s : State) (k : Nat) : State :=
  let x := s.loopx k
  ((s.lwPut k wFlags ((s.lw k wFlags &&& 16) ||| BitVec.ofNat 64 (32 + 256 * boolNat x.rephased))).countSat R.LOOP_PARAM_ERR 1).raise Pg.LOOP Ev.LOOP_PARAM_ERR

/-- The slot's bit of HOS (R313). -/
def State.holdOnStale (s : State) (k : Nat) : Bool := s.bit (R.LOOP_HOS (k / 32)) (k % 32)

/-- The inputs of a slot that its law uses, with their roles. -/
def State.usedInputs (s : State) (k : Nat) (b : Blk) (pv sp ff : InVal) : List (Nat × InVal) :=
  (0, pv) :: (if b.isPi then [(1, sp)] else []) ++ (if dKind (s.ffSrc k) ≠ 0 then [(2, ff)] else [])

/-- The published instant: its value with any injection, and the units of TUNE. -/
def State.loopOut (s : State) (k : Nat) (b : Blk) (lim : Int × Int) (pv sp u : Int) (q : Nat) : Option (Int × Nat) × State :=
  let x := s.loopx k
  let v := s.withOutInj k x.dueMono lim u
  let sig : Signals := { pv := pv, sp := sp, out := v, err := b.error pv sp }
  (some (v, q), (s.loopSet k (fun x => { x with q := q })).tuneInstant k (x.due.getD 0) x.dueMono sig)

/-- The order of R323 at the read cycle: what is published, and the new state. -/
def State.loopEval (s : State) (k : Nat) : Option (Int × Nat) × State :=
  let s := s.loopReads k
  let b := s.blk k
  let lim := s.loopLimits k
  let pv := s.loopInput k 0 (s.pvSrc k)
  let sp0 := s.loopInput k 1 (s.spSrc k)
  let ff := s.loopInput k 2 (s.ffSrc k)
  let used := s.usedInputs k b pv sp0 ff
  let bad := (used.find? (fun e => e.2.stale)).map (·.1)
  let q := if bad.isSome || used.any (fun e => e.2.q != 0) then 1 else 0
  let s := s.loopJudge k bad
  let x := s.loopx k
  let spr := match s.outerOf k with
    | some o => if (s.loopx o).evaluated then sp0.v else pv.v
    | none => sp0.v
  let sp := satI32 (spr + s.injAt k 0 x.dueMono)
  if b.ctl.getLsbD 0 then
    let (u, s) := s.loopHeld k b lim
    s.loopOut k b lim pv.v sp u q
  else if hiI b.lim < loI b.lim then (none, s.loopParamErr k)
  else if bad.isSome && s.holdOnStale k then
    let s := s.flagsHeld k false x.rephased
    if x.first then (none, s) else s.loopOut k b lim pv.v sp b.uprev 1
  else
    let (u, s) := s.loopRun k b lim pv.v sp ff.v bad.isSome pv.stale
    s.loopOut k b lim pv.v sp u q

/-- The evaluation of slot `k` at its read cycle; an uncorrectable word stops the lane. -/
def State.loopAt (s : State) (k : Nat) : Option (Int × Nat) × State :=
  let (ok, s) := s.blkCheck k
  if ok then
    let (p, s) := s.loopEval k
    (p, s.loopSet k (fun x => { x with due := none }))
  else (none, s.laneFail (k % 4) 1)

/-! ### Windows (R279, R287 to R289) -/

/-- First window of lane `l` that starts at or after cycle `c`; windows count from cold reset release (R279). -/
def State.windowFrom (s : State) (l c : Nat) : Nat :=
  (s.cycCold + max (max c s.cyc) (s.laneFree.toList.getD l 0) + 63) / 64 * 64 - s.cycCold

/-- The least element of a list by a key. -/
def leastBy (key : Nat → Nat) (l : List Nat) : Option Nat :=
  l.foldl (fun m k => match m with | none => some k | some j => if key k < key j then some k else some j) none

/-- Due slots of lane `l`, of one kind. -/
def State.dueSlots (s : State) (l : Nat) (fixed : Bool) : List Nat :=
  (s.laneSlots l).filter (fun k => isFixed k == fixed && (s.loopx k).due.isSome)

/-- Start of a window. -/
def State.windowTake (s : State) (l c : Nat) : State := { s.reachCyc c with laneFree := s.laneFree.setIfInBounds l (c + 64) }

/-- The lane evaluates its next fixed-phase slot: by sample cycle, cascade order and slot order. -/
def State.fixedEval (s : State) (l : Nat) : State :=
  match leastBy (fun k => ((s.loopx k).dueCyc * 256 + s.depth k 16) * 512 + k) (s.dueSlots l true) with
  | none => s
  | some k =>
    let s := s.windowTake l (s.windowFrom l ((s.loopx k).dueCyc + 1024))
    let c := (s.loopx k).dueCyc + 2048
    let (p, s) := s.loopAt k
    match p with
    | some (v, q) => s.loopSet k (fun x => { x with out := some (c, v, q) })
    | none => s

/-- LOOP_FIXED_EVALUATION. -/
def execLoopFixedEvaluation (lane : Fin 4) (s : State) : Host.Outcome State Fault Refusal :=
  s.whenReady fun s => if s.laneRuns lane then s.fixedEval lane else s

/-- LOOP_FIXED_OUTPUT: the output cycle s0 + 2,048 of a fixed-phase slot. -/
def execLoopFixedOutput (slot : Fin 16) (s : State) : Host.Outcome State Fault Refusal :=
  s.whenAwake fun s =>
    match (s.loopx slot).out with
    | none => s
    | some (c, v, q) => ((s.reachCyc c).loopSet slot (fun x => { x with out := none })).loopPublish slot v q

/-- Monotonic time of the deadline of a due slot. -/
def State.deadlineMono (s : State) (k : Nat) : Nat := (s.loopx k).dueMono - (s.loopx k).dueLag + s.loopDeadline k

/-- A fixed-phase evaluation is called for in the window of lane `l` that starts at cycle `c` (R287). -/
def State.fixedCalled (s : State) (l c : Nat) : Bool := (s.dueSlots l true).any (fun k => decide ((s.loopx k).dueCyc + 1024 ≤ c))

/-- The lane evaluates the first due deadline slot, in the order of R288, whose window ends by its deadline; a window that a fixed-phase evaluation is
called for in is not its own. -/
def State.deadlineEval (s : State) (l : Nat) : State :=
  let c := s.windowFrom l s.cyc
  if s.fixedCalled l c then s else
  let endMono := (s.reachCyc (c + 63)).monoNow
  match leastBy (fun k => (s.loopPrio k * 1024 + s.depth k 512) * 512 + k) ((s.dueSlots l false).filter (fun k => decide (endMono ≤ s.deadlineMono k))) with
  | none => s
  | some k =>
    let s := s.windowTake l c
    let n := c + 63 - (s.loopx k).dueCyc
    let (p, s) := s.loopAt k
    let s := s.reachCyc (c + 63)
    let s := if s.fget (F.LOOP_WORST_CYCLES l) < n then s.fput (F.LOOP_WORST_CYCLES l) (min 0xFFFF n) else s
    match p with
    | some (v, q) => s.loopPublish k v q
    | none => s

/-- LOOP_EVALUATION. -/
def execLoopEvaluation (lane : Fin 4) (s : State) : Host.Outcome State Fault Refusal :=
  s.whenReady fun s => if s.laneRuns lane then s.deadlineEval lane else s

/-- LOOP_DEADLINE_MISS. -/
def execLoopDeadlineMiss (slot : Fin 512) (s : State) : Host.Outcome State Fault Refusal :=
  s.whenAwake fun s =>
    if s.laneRuns (slot % 4) && !isFixed slot && (s.loopx slot).due.isSome then (s.reachMono (s.deadlineMono slot)).loopMiss slot else s

/-! ### Enable and disable (R298, R307) -/

/-- The descriptor names a point of a type that a loop uses. -/
def State.pointUsable (s : State) (p : Nat) : Bool :=
  decide (p < pointCount) && (s.point p).src != .none && [1, 2, 3].contains (s.point p).ptype

/-- A descriptor of PV (0), SP (1) or FF (2) is valid for the law (R283). -/
def State.inputValid (s : State) (role law d : Nat) : Bool :=
  d / 2 ^ 19 == 0 &&
    match dKind d with
    | 0 => role == 2 || (role == 1 && law != 1 && law != 2)
    | 1 => s.pointUsable (dIndex d)
    | 2 => decide (dIndex d < 8)
    | 3 => role == 1 && decide (dIndex d < slotCount)
    | 4 => role == 1
    | _ => false

/-- OUT_DST is valid. -/
def State.outValid (s : State) (k d : Nat) : Bool :=
  d / 2 ^ 19 == 0 &&
    match dKind d with
    | 0 => (List.range slotCount).any (fun i => s.outerOf i == some k)
    | 1 => s.pointUsable (dIndex d) && (s.point (dIndex d)).src == .loop k
    | 2 =>
      decide (dIndex d < 4) &&
        match tabFind s.lioPids (8 + dIndex d) with
        | some p => (s.point p).src == .loop k && (s.point p).ptype == 2
        | none => false
    | _ => false

/-- The cascade of inner slot `k` and outer slot `o` meets R299. -/
def State.cascadeValid (s : State) (k o : Nat) : Bool :=
  let pi := s.loopPeriod k
  let po := s.loopPeriod o
  k % 4 == o % 4 && isFixed k == isFixed o && po % pi == 0 && decide (1 ≤ po / pi) && decide (po / pi ≤ 256)
    && s.loopOffset o % pi == s.loopOffset k % pi && (isFixed k || decide (s.loopPrio o ≤ s.loopPrio k)) && s.chainEnds k 513 && s.slotOn o

/-- Reason code of a refused enable; 0 when accepted. -/
def State.enableReason (s : State) (k : Nat) : Nat :=
  let law := (s.lw k 0).toNat % 8
  let p := s.loopPeriod k
  if law = 0 ∨ 5 ≤ law then 1
  else if p < 250000 ∨ 60000000000 < p ∨ p ≤ s.loopOffset k then 2
  else if s.inputValid 0 law (s.pvSrc k) = false then 3
  else if s.inputValid 1 law (s.spSrc k) = false then 4
  else if s.inputValid 2 law (s.ffSrc k) = false then 5
  else if s.outValid k (s.outDst k) = false then 6
  else if (s.outerOf k).any (fun o => !s.cascadeValid k o) then 7
  else if s.laneFailed (k % 4) then 8 else 0

/-- The block of slot `k` has changed since the latest BG unit (R484). -/
def State.markSlot (s : State) (k : Nat) : State :=
  if s.bel.seen.slots.contains k then s else { s with bel := { s.bel with seen := { s.bel.seen with slots := k :: s.bel.seen.slots } } }

/-- The statistics of a slot are cleared (R335). -/
def State.statClear (s : State) (k : Nat) : State :=
  ((((s.markSlot k).lwPut k wNEval 0).lwPut k wNMiss 0).lwPut k wPv (packI 0x7FFFFFFF (-0x80000000))).lwPut k wSince (BitVec.ofNat 64 s.now)

/-- A bit of ENk is written 1. FORCE_TRACK is 1 after an enable (R296; log entry 23). -/
def State.slotEnable (s : State) (k : Nat) : State :=
  if s.slotOn k then s
  else
    match s.enableReason k with
    | 0 =>
      (((s.setBit (R.LOOP_EN (k / 32)) (k % 32) true).statClear k).lwPut k 1 (s.lw k 1 ||| 2)).loopSet k (fun x =>
        { first := true, notBefore := s.monoNow + 10000, u := x.u, q := x.q, out := x.out })
    | r =>
      (((s.fput F.LOOP_ENREF_VALID 1).fput F.LOOP_ENREF_REASON r).fput F.LOOP_ENREF_SLOT k).raise Pg.LOOP Ev.LOOP_ENABLE_REF

/-- A bit of ENk is written 0. -/
def State.slotDisable (s : State) (k : Nat) : State :=
  if s.slotOn k then
    ((s.setBit (R.LOOP_EN (k / 32)) (k % 32) false).loopSet k (fun x => { x with due := none })).unitsEnd (· == k) 3
  else s

/-- A write of ENk. -/
def State.loopEnWrite (s : State) (i : Nat) (v : Word) : State :=
  (List.range 32).foldl (fun s j => if v.getLsbD j then s.slotEnable (32 * i + j) else s.slotDisable (32 * i + j)) s

/-- LOOP_SLOT_ENABLE. -/
def execLoopSlotEnable (req : Req) (slot : Fin 512) (s : State) : Host.Outcome State Fault Refusal :=
  s.regCmd req (R.LOOP_EN (slot / 32)) (fun s => s.slotEnable slot)
/-- LOOP_SLOT_DISABLE. -/
def execLoopSlotDisable (req : Req) (slot : Fin 512) (s : State) : Host.Outcome State Fault Refusal :=
  s.regCmd req (R.LOOP_EN (slot / 32)) (fun s => s.slotDisable slot)

/-- A write of STAT_CLR. -/
def State.statClrWrite (s : State) (v : Word) : State :=
  if fieldOf F.LOOP_STAT_CLR_ALL v = 1 then (List.range slotCount).foldl (fun s k => s.statClear k) s else s.statClear (fieldOf F.LOOP_STAT_CLR_SLOT v)

/-- STAT_CLR_SLOT. -/
def execStatClrSlot (req : Req) (slot : Fin 512) (s : State) : Host.Outcome State Fault Refusal := s.regCmd req R.LOOP_STAT_CLR (fun s => s.statClear slot)
/-- STAT_CLR_ALL. -/
def execStatClrAll (req : Req) (s : State) : Host.Outcome State Fault Refusal := s.regCmd req R.LOOP_STAT_CLR (fun s => s.statClrWrite 0x80000000)

/-- ENABLE of LOOP becomes 1 (R314). -/
def State.loopEnable (s : State) : State :=
  ((s.loops.map (·.1)).filter s.slotOn).foldl (fun s k => s.loopSet k (fun x => { x with notBefore := max x.notBefore (s.monoNow + 10000), reseed := true })) s.laneStat

/-- ENABLE of LOOP becomes 0: evaluations whose read cycle is past are published, the others are not due any more. -/
def State.loopDisable (s : State) : State :=
  ((s.loops.map (·.1)).foldl (fun s k => s.loopSet k (fun x => { x with due := none })) s).laneStat.unitsEnd (fun _ => true) 3

/-! ### Local I/O (R301, R302, R315, R568) -/

/-- A conversion limited to 16 bits, and whether it was limited. -/
def ainLimit (v : Int) : Int × Bool := let c := clampI (-32768) 32767 v; (c, c != v)

/-- The next hold instant on the 10 µs grid. -/
def State.nextHold (s : State) : Nat :=
  let b := ((s.lio.notBefore : Int) + s.mtOff).toNat
  firstInstant 10000 0 (max (max s.instFrom b) 1)

/-- The DIO inputs are sampled: points, DIO_IN and DIO_CHG. -/
def State.dioSample (s : State) (levels : BitVec 16) : State :=
  let dir := s.rd R.LIO_DIO_DIR
  let old := s.rd R.LIO_DIO_IN
  let new : Word := (levels.zeroExtend 32 &&& ~~~dir) ||| (s.rd R.LIO_DIO_OUT &&& dir &&& 0xFFFF)
  let s := s.wr R.LIO_DIO_IN new
  let s := if (old ^^^ new) &&& ~~~dir &&& s.rd R.LIO_DIO_CHG_EN &&& 0xFFFF = 0 then s else s.raise Pg.LIO Ev.LIO_DIO_CHG
  (List.range 16).foldl (fun s i =>
    match tabFind s.lioPids (12 + i) with
    | some p => if dir.getLsbD i then s else s.sourceWrite p (BitVec.ofNat 32 (boolNat (levels.getLsbD i))) 0 s.monoNow
    | none => s) s

/-- LIO_AIN_HOLD: a grid instant comes. `volts` are the rounded conversions of AIN0 to AIN7 before their limits, `levels` those of the DIO pins. -/
def execLioAinHold (volts : List Int) (levels : BitVec 16) (s : State) : Host.Outcome State Fault Refusal :=
  s.whenAwake fun s =>
    if s.enabled Pg.LIO then
      let t := s.nextHold
      let s := s.reach t
      let held := (List.range 8).map (fun i => ainLimit (volts.getD i 0))
      ({ s with lio := { s.lio with held := held, heldAt := t, heldMono := s.monoNow, readyAt := some (s.cyc + 1024) } } : State).dioSample levels
    else s

/-- The result of AIN `i` becomes available. -/
def State.ainResult (s : State) (i : Nat) : State :=
  let (v, clip) := s.lio.held.getD i (0, false)
  let s := (s.fput (F.LIO_AIN_CODE i) (BitVec.ofInt 16 v).toNat).fput (F.LIO_AIN_CLIP i) (boolNat clip)
  let s := if clip then s.raise Pg.LIO Ev.LIO_CLIP else s
  match tabFind s.lioPids i with
  | some p => s.sourceWrite p (word32 v) (boolNat clip) s.lio.heldMono
  | none => s

/-- LIO_AIN_RESULT: 1,024 cycles after the hold; while ENABLE is 0 the results keep their contents (R568). -/
def execLioAinResult (s : State) : Host.Outcome State Fault Refusal :=
  s.whenAwake fun s =>
    match s.lio.readyAt, s.enabled Pg.LIO with
    | none, _ => s
    | _, false => s
    | some c, true =>
      let s := (List.range 8).foldl (fun s i => s.ainResult i) (s.reachCyc c)
      let s := s.put64 R.LIO_AIN_TS_LO s.lio.heldAt
      { s with lio := { s.lio with readyAt := none, resMono := s.lio.heldMono } }

/-- LIO_AOUT_SHORT: an output enters current limit. -/
def execLioAoutShort (n : Fin 4) (s : State) : Host.Outcome State Fault Refusal :=
  s.whenAwake fun s => (s.fput (F.LIO_AOUT_SHORT n) 1).raise Pg.LIO Ev.LIO_SHORT

/-- AOUT_SHORT_END: the output leaves current limit. -/
def execAoutShortEnd (n : Fin 4) (s : State) : Host.Outcome State Fault Refusal :=
  s.whenAwake fun s => s.fput (F.LIO_AOUT_SHORT n) 0

/-- ENABLE of LIO becomes 1: each output pin takes its point's visible word (R568). -/
def State.lioEnable (s : State) : State :=
  let s := { s with lio := { s.lio with notBefore := s.monoNow + 10000 } }
  s.lioPids.foldl (fun s e => s.lioPin e.1 (s.view e.2)) s

/-- A write of DIO_DIR: only while ENABLE is 0 (R315). -/
def State.dioDirWrite (s : State) (v : Word) : State := if s.enabled Pg.LIO then s.flag F.LIO_FAULT_BAD_WRITE else s.wr R.LIO_DIO_DIR (v &&& 0xFFFF)

end Sys2Proof.Machine
end

