-- ==== Sys2Proof/Machine/Nrg.lean ====
section
/-! DEFINITION. The energy accumulators (13 R379 to R402): totals, tallies, demand intervals, saves to MRAM and the export record. -/
namespace Sys2Proof.Machine

def State.nrgc (s : State) (m : Nat) : NrgC := tabGet (fun _ => {}) s.nrg.circs m
def State.nrgPut (s : State) (m : Nat) (c : NrgC) : State :=
  { s with nrg := { s.nrg with circs := tabSet (fun _ => ({} : NrgC)) s.nrg.circs m c } }
def State.nrgSet (s : State) (f : Nrg → Nrg) : State := { s with nrg := f s.nrg }

def circCount : Nat := 18
def State.circOwner (s : State) (m : Nat) : Nat := s.fget (F.MTR_CIRC_CFG_OWNER m)
def State.circOn (s : State) (m : Nat) : Bool := s.fset (F.MTR_CIRC_CFG_EN m)

/-- Event `k` of the NRG page, and METER event 16 + k for event tasks; `d` is the circuit, or 0xFF. -/
def State.nrgEvent (s : State) (k d : Nat) : State :=
  if s.enabled Pg.NRG then (s.raise Pg.NRG k).trigger 4 (16 + k) (BitVec.ofNat 32 d) false else s

/-! ### Integration (R379, R380) and tallies (R384) -/

/-- µW·ns in one µWh. -/
def nsPerUnit : Nat := 3600000000000

/-- The tally unit `u` in µWh. -/
def tallyUnitSize (u : Nat) : Nat := 1000 * 10 ^ u
def tallyOf (u total : Nat) : Nat := total / tallyUnitSize u % 2 ^ 32
def wrapOf (u total : Nat) : Nat := total / (tallyUnitSize u * 2 ^ 32) % 256
def State.tallyUnit (s : State) (m : Nat) : Nat := s.fget (F.NRG_CIRC_TCFG_UNIT m)

/-- The accumulators that a record touches, and the magnitude added to each (R380). -/
def accsOf (p q : Int) : List (Nat × Nat) :=
  (if 0 < p then [(0, p.natAbs)] else if p < 0 then [(1, p.natAbs)] else []) ++
  (if 0 ≤ p ∧ 0 < q then [(2, q.natAbs)] else if p < 0 ∧ 0 < q then [(3, q.natAbs)]
   else if p < 0 ∧ q < 0 then [(4, q.natAbs)] else if 0 ≤ p ∧ q < 0 then [(5, q.natAbs)] else [])

def vecGet (v : Vector Nat 6) (i : Nat) : Nat := v.toList.getD i 0

/-- Whole units that `x` over `dur` ns adds to accumulator `a` of the circuit. -/
def NrgC.gain (c : NrgC) (a x dur : Nat) : Nat := (vecGet c.res a + x * dur) / nsPerUnit

/-- Accumulator `a` takes `x` over `dur` ns: the total saturates and the residue keeps the fraction. -/
def NrgC.addAcc (c : NrgC) (a x dur : Nat) : NrgC :=
  { c with
    total := c.total.setIfInBounds a (min (vecGet c.total a + c.gain a x dur) (2 ^ 64 - 1))
    res := c.res.setIfInBounds a ((vecGet c.res a + x * dur) % nsPerUnit) }

/-- Flags of a demand record that a cycle's flags set (R390): TIMED, CAL_CHG and CLIP. -/
def bucketFlags (f : Nat) : Nat := f % 2 * 64 + f / 4 % 2 * 128 + f / 16 % 2 * 256

/-- An interval takes a record, with the units that it added. -/
def Bucket.add (b : Bucket) (r : CycRec) (gains : List (Nat × Nat)) : Bucket :=
  { e := gains.foldl (fun e g => e.setIfInBounds g.1 (vecGet e g.1 + g.2)) b.e
    n := b.n + 1
    flags := b.flags ||| bucketFlags r.flags
    pMax := some (match b.pMax with | some x => max x r.p | none => r.p)
    pMin := some (match b.pMin with | some x => min x r.p | none => r.p) }

/-- A circuit takes a record: totals, and the interval in progress, or the next when T_END is at or after NOM_END (R387). -/
def NrgC.addRecord (c : NrgC) (r : CycRec) : NrgC :=
  let accs := accsOf r.p r.q
  let gains := accs.map (fun a => (a.1, c.gain a.1 a.2 r.dur))
  let c' := accs.foldl (fun c a => c.addAcc a.1 a.2 r.dur) c
  let c' := { c' with tLast := r.tEnd, cycles := min (c.cycles + 1) (2 ^ 64 - 1) }
  if !c.running then c'
  else if c.nomEnd ≤ r.tEnd then { c' with ahead := c.ahead.add r gains }
  else { c' with cur := c.cur.add r gains }

/-- A TALLY of the circuit passes 0xFFFF_FFFF. -/
def tallyWraps (u : Nat) (c c' : NrgC) : Bool :=
  (List.range 6).any (fun a => vecGet c.total a / (tallyUnitSize u * 2 ^ 32) != vecGet c'.total a / (tallyUnitSize u * 2 ^ 32))

def tallyWord (u t : Nat) : Nat := tallyOf u t + wrapOf u t * 2 ^ 32 + u * 2 ^ 40

/-- The mirror block of circuit `m` (R383), written anew at every change. -/
def State.mirror (s : State) (m : Nat) : State :=
  let c := s.nrgc m
  let u := s.tallyUnit m
  s.storeWords (0x10A40000 + 0x100 * m)
    (c.total.toList.map (BitVec.ofNat 64) ++ c.total.toList.map (fun t => BitVec.ofNat 64 (tallyWord u t))
      ++ [BitVec.ofNat 64 c.tLast, BitVec.ofNat 64 c.cycles, BitVec.ofNat 64 c.dmdSeq] ++ List.replicate 17 0)

/-! ### Demand intervals (R386 to R390) -/

/-- L, in ns. -/
def State.dmdLen (s : State) : Nat :=
  let n := s.fget F.NRG_DMD_CFG_LEN_MIN
  (if [1, 2, 3, 4, 5, 6, 10, 12, 15, 20, 30, 60].contains n then n else 15) * 60000000000

/-- The latest nominal boundary at or before module time `t`, modulo 2^64. -/
def State.nominal (s : State) (t : Nat) : Nat :=
  let a : Int := (s.fget F.NRG_DMD_CFG_ALIGN_S % 3600 * 1000000000 : Nat)
  (BitVec.ofInt 64 ((t : Int) - ((t : Int) - a) % (s.dmdLen : Int))).toNat

def fReversed : Nat := 1
def fPartial : Nat := 2
def fStepped : Nat := 4
def fTimeInvalid : Nat := 8
def fPowerLoss : Nat := 16
def fUnsaved : Nat := 32

/-- Flags of an interval from the conditions of this cycle: TIME_INVALID, and PARTIAL without VALID. -/
def State.nowFlags (s : State) (m : Nat) : Nat :=
  (if s.fset F.SYS_STAT_TIME_INVALID then fTimeInvalid else 0) ||| (if s.fset (F.MTR_CIRC_STAT_VALID m) then 0 else fPartial)

/-- An interval opens for circuit `m` at the nominal start `start`; records that came ahead count in it. -/
def State.intervalOpen (s : State) (m start flags : Nat) : State :=
  let c := s.nrgc m
  s.nrgPut m { c with
    running := true, nomStart := start, nomEnd := (start + s.dmdLen) % 2 ^ 64, openMono := s.monoNow, durBase := 0
    cur := { c.ahead with flags := c.ahead.flags ||| flags ||| s.nowFlags m ||| c.carry }, ahead := {}, carry := 0 }

/-- Flags are set in the interval in progress. -/
def State.intervalFlag (s : State) (m flags : Nat) : State :=
  let c := s.nrgc m
  if c.running then s.nrgPut m { c with cur := { c.cur with flags := c.cur.flags ||| flags } } else s

def NrgC.dur (c : NrgC) (mono : Nat) : Nat := c.durBase + (mono - c.openMono)

def reversed (b : Bucket) : Bool := decide (0 < b.pMax.getD 0) && decide (b.pMin.getD 0 < 0)

def le64i (x : Int) : List Byte := natLe 8 (BitVec.ofInt 64 x).toNat

/-- Average power in mW of `e` µWh over `dur` ns. -/
def demand (e dur : Nat) : Int := if dur = 0 then 0 else divr ((e * 3600000000 : Nat) : Int) dur

/-- The 128-byte demand record. -/
def demandRecord (c : NrgC) (seq dur skipped : Nat) : List Byte :=
  let b := c.cur
  natLe 8 c.nomStart ++ natLe 8 c.nomEnd ++ natLe 8 dur ++ natLe 4 seq ++ natLe 4 b.n ++ natLe 2 (b.flags ||| boolNat (reversed b))
    ++ natLe 1 (min skipped 255) ++ natLe 5 0 ++ b.e.toList.flatMap (natLe 8)
    ++ le64i (demand (vecGet b.e 0) dur) ++ le64i (demand (vecGet b.e 1) dur)
    ++ le64i (b.pMax.getD 0) ++ le64i (b.pMin.getD 0) ++ natLe 8 0

/-- The interval of circuit `m` closes: its record, DMD_SEQ and the events. -/
def State.intervalEnd (s : State) (m flags skipped : Nat) : State :=
  let c := s.nrgc m
  if !c.running then s
  else
    let c := { c with cur := { c.cur with flags := c.cur.flags ||| flags } }
    let seq := (c.seq + 1) % 2 ^ 32
    let s := s.storeWords (0x10A60000 + 0x1000 * m + 128 * (seq % 32)) (wordsOf 16 (demandRecord c seq (c.dur s.monoNow) skipped))
    let s := (s.nrgPut m { c with running := false, seq := seq, dmdSeq := seq, cur := {} }).mirror m
    let s := s.nrgEvent Ev.NRG_INTERVAL m
    if reversed c.cur then s.nrgEvent Ev.NRG_REVERSED m else s

/-- The circuit is enabled: an interval opens, or one continued from a save goes on (R388, R395). -/
def State.nrgCircEnable (s : State) (m : Nat) : State :=
  if !s.nrg.loaded then s
  else if (s.nrgc m).running then s.intervalFlag m fPartial
  else s.intervalOpen m (s.nominal s.now) fPartial

/-- The circuit is disabled: its interval closes, with what came ahead of it (R387). -/
def State.nrgCircDisable (s : State) (m : Nat) : State :=
  let c := s.nrgc m
  let b := c.ahead
  let c' := if b.n = 0 then c else { c with ahead := {}, cur :=
    { e := Vector.ofFn (fun i => vecGet c.cur.e i + vecGet b.e i), n := c.cur.n + b.n, flags := c.cur.flags ||| b.flags
      pMax := some (max (c.cur.pMax.getD (b.pMax.getD 0)) (b.pMax.getD 0)), pMin := some (min (c.cur.pMin.getD (b.pMin.getD 0)) (b.pMin.getD 0)) } }
  if c.running then (s.nrgPut m c').intervalEnd m 0 0 else s

/-- INTERVAL_CLOSE: module time reaches NOM_END + 2 ms; the next interval opens in the same cycle for an enabled circuit. -/
def execIntervalClose (m : Fin 18) (s : State) : Host.Outcome State Fault Refusal :=
  s.whenLive fun s =>
    let c := s.nrgc m
    if c.running && s.nrg.loaded then s.atInstant (c.nomEnd + 2000000) fun s =>
      let s := s.intervalEnd m 0 0
      if s.circOn m then s.intervalOpen m c.nomEnd 0 else s.nrgPut m { s.nrgc m with ahead := {} }
    else s

/-- A step of module time to the present (R389). -/
def State.intervalStepped (s : State) (m : Nat) (forward : Bool) : State :=
  let c := s.nrgc m
  if !c.running then s
  else if forward && decide (c.nomEnd + 2000000 ≤ s.now) then
    let start := s.nominal s.now
    let s := s.intervalEnd m fStepped ((start - c.nomEnd) / s.dmdLen)
    if s.circOn m then s.intervalOpen m start (fStepped ||| fPartial) else s.nrgPut m { s.nrgc m with ahead := {} }
  else s.intervalFlag m fStepped

def State.nrgStepped (s : State) (forward : Bool) : State := (List.range circCount).foldl (fun s m => s.intervalStepped m forward) s

/-- TIME_INVALID became 1 (R389), or circuit `m` left VALID (R388). -/
def State.nrgTimeInvalid (s : State) : State := (List.range circCount).foldl (fun s m => s.intervalFlag m fTimeInvalid) s
def State.nrgLeftValid (s : State) (m : Nat) : State := s.intervalFlag m fPartial

/-! ### Saves (R391, R392) -/

/-- Bytes of circuit `m` in a save slot. -/
def State.slotCirc (s : State) (m : Nat) : List Byte :=
  let c := s.nrgc m
  let b := c.cur
  let head := c.total.toList.flatMap (natLe 8) ++ c.res.toList.flatMap (natLe 8)
  let body := if c.running then b.e.toList.flatMap (natLe 8) ++ natLe 8 c.nomStart ++ natLe 8 (c.dur s.monoNow) ++ natLe 4 b.n
      ++ natLe 2 (b.flags ||| boolNat (reversed b)) else natLe 70 0
  let tail := if c.running then le64i (b.pMax.getD 0) ++ le64i (b.pMin.getD 0) else natLe 16 0
  head ++ body ++ natLe 1 (s.tallyUnit m) ++ natLe 1 (boolNat c.running) ++ natLe 4 c.seq ++ natLe 4 c.dmdSeq ++ tail ++ natLe 64 0

/-- The first 4,672 bytes of a slot; `ident` fills bytes 16 to 47 of an export record. -/
def State.slotImage (s : State) (reason seq : Nat) (ident : List Byte) : List Byte :=
  natLe 2 1 ++ natLe 1 reason ++ natLe 1 18 ++ natLe 4 seq ++ natLe 8 s.now ++ padTo 48 ident
    ++ (List.range circCount).flatMap s.slotCirc

def slotAddr (k : Nat) : Nat := 0x60000000 + 0x2000 * k

/-- A save starts: the snapshot goes into the slot that the previous save did not use, which is invalid until its CRC is written. -/
def State.saveBegin (s : State) (reason : Nat) : State :=
  let seq := (s.nrg.seq + 1) % 2 ^ 32
  let slot := 1 - s.nrg.slot
  let bytes := s.slotImage reason seq []
  let s := (s.putBytes .mtr (slotAddr slot) (bytes ++ natLe 4 0)).fput F.NRG_STAT_SAVE_BUSY 1
  let s := s.nrgSet (fun n => { n with seq := seq, slot := slot, saving := some { reason := reason, slot := slot, bytes := bytes, retried := false, cyc := s.cyc } })
  { s with trust := { s.trust with energyWritten := true } }

/-- A cause in the cycle of the snapshot of a save: one save, with the higher REASON (R399). -/
def State.saveJoin (s : State) (v : Save) (reason : Nat) : State :=
  if reason ≤ v.reason then s
  else
    let bytes := v.bytes.set 2 (BitVec.ofNat 8 reason)
    (s.putBytes .mtr (slotAddr v.slot) bytes).nrgSet (fun n => { n with saving := some { v with reason := reason, bytes := bytes } })

/-- A cause of a save: it starts one, or waits for the one in progress; waiting causes merge, with the highest REASON (log entry 26). -/
def State.nrgSave (s : State) (reason : Nat) : State :=
  if !s.nrg.loaded then s
  else match s.nrg.saving with
    | some v => if v.cyc = s.cyc then s.saveJoin v reason else s.nrgSet (fun n => { n with pending := some (max reason (n.pending.getD 0)) })
    | none => s.saveBegin reason

/-- Integration stops (R402). -/
def State.nrgStop (s : State) : State := s.nrgSet (fun n => { n with stopping := false, loaded := false })

/-- A save has ended: the waiting cause starts the next, or a clearing of ENABLE is completed. -/
def State.saveEnd (s : State) : State :=
  (s.fput F.NRG_STAT_SAVE_BUSY 0).nrgSet (fun n => { n with saving := none, pending := none })

def State.saveNext (s : State) (waiting : Option Nat) : State :=
  match waiting with
  | some r => s.saveBegin r
  | none => if s.nrg.stopping then s.nrgStop else s

/-- The CRC is written last, and SAVE_STAT and SAVE_TS follow. -/
def State.saveCommit (s : State) (v : Save) : State :=
  let s := s.putBytes .mtr (slotAddr v.slot + 4672) (natLe 4 (crc32c v.bytes).toNat)
  let s := ((s.fput F.NRG_SAVE_STAT_SEQ (leOf v.bytes 4 4)).fput F.NRG_SAVE_STAT_SLOT v.slot).fput F.NRG_SAVE_STAT_REASON v.reason
  (s.put64 R.NRG_SAVE_TS_LO (leOf v.bytes 8 8)).nrgEvent Ev.NRG_SAVE_DONE 0xFF

/-- MRAM reports the write as failed. -/
def State.saveFailed (s : State) (v : Save) : State := (s.nrgEvent Ev.NRG_SAVE_FAIL 0xFF).note Pg.NRG Ev.NRG_SAVE_FAIL [BitVec.ofNat 8 v.slot]

/-- NRG_SAVE_DONE: the slot is written; or MRAM reports the write as failed, which is repeated once. -/
def execNrgSaveDone (writeFailed : Bool) (s : State) : Host.Outcome State Fault Refusal :=
  s.whenAwake fun s =>
    match s.nrg.saving with
    | none => s
    | some v =>
      if writeFailed && !v.retried then (s.saveFailed v).nrgSet (fun n => { n with saving := some { v with retried := true } })
      else ((if writeFailed then s.saveFailed v else s.saveCommit v).saveEnd).saveNext s.nrg.pending

/-- NRG_SAVE_PERIODIC: PERIOD_S seconds of monotonic time have passed. -/
def execNrgSavePeriodic (s : State) : Host.Outcome State Fault Refusal :=
  s.whenAwake fun s =>
    if s.enabled Pg.NRG && s.nrg.loaded then
      let t := s.nrg.lastSave + clampN 1 60 (s.fget F.NRG_SAVE_CFG_PERIOD_S) * 1000000000
      ((s.reachMono t).nrgSet (fun n => { n with lastSave := t })).nrgSave 0
    else s

/-! ### Adding a record -/

/-- Records are added: until the save that clearing ENABLE waits for is complete (R402, log entry 27). -/
def State.nrgAdds (s : State) : Bool := s.nrg.loaded && (s.enabled Pg.NRG || s.nrg.stopping)

/-- The circuit as a read of this cycle tells it: without the records added in it (R399). -/
def State.nrgSeen (s : State) (m : Nat) : NrgC := if s.nrg.addAt = s.cyc then (tabFind s.nrg.before m).getD (s.nrgc m) else s.nrgc m

/-- A record is about to be added to circuit `m`. -/
def State.nrgKeep (s : State) (m : Nat) : State :=
  s.nrgSet (fun n => { n with addAt := s.cyc, before := tabPut (if n.addAt = s.cyc then n.before else []) m (s.nrgSeen m) })

/-- A snapshot of this cycle holds the record that is added in it (R399). -/
def State.saveRenew (s : State) : State :=
  match s.nrg.saving with
  | none => s
  | some v =>
    if v.cyc = s.cyc then
      let bytes := s.slotImage v.reason s.nrg.seq []
      (s.putBytes .mtr (slotAddr v.slot) bytes).nrgSet (fun n => { n with saving := some { v with bytes := bytes } })
    else s

def State.nrgAdd (s : State) (r : CycRec) : State :=
  let c := s.nrgc r.circ
  let c' := c.addRecord r
  let s := (((s.nrgKeep r.circ).nrgPut r.circ c').mirror r.circ).saveRenew
  let s := if tallyWraps (s.tallyUnit r.circ) c c' then s.nrgEvent Ev.NRG_TALLY_WRAP r.circ else s
  if s.fset F.PFW_STAT_ASSERTED then s.nrgSave 1 else s

/-- The oldest record handed on is added, or lost while NRG does not run. -/
def State.nrgTake (s : State) : State :=
  match s.mtr.handed with
  | [] => s
  | r :: l =>
    let s : State := { s with mtr := { s.mtr with handed := l } }
    if s.nrgAdds then s.nrgAdd r else s

/-- Every record handed on is added: a unit that tells the totals tells the T_END of the last record in them (R398). -/
def State.nrgFlush (s : State) : State := (List.range s.mtr.handed.length).foldl (fun s _ => s.nrgTake) s

/-- NRG_RECORD_ADD: the oldest record handed on is added, or lost while NRG does not run. -/
def execNrgRecordAdd (s : State) : Host.Outcome State Fault Refusal :=
  s.whenAwake State.nrgTake

/-! ### Load (R394, R395) -/

def State.slotRead (s : State) (k : Nat) : List Byte := s.bytesAt (slotAddr k) 4676
def slotOk (b : List Byte) : Bool := leOf b 0 2 == 1 && (crc32c (b.take 4672)).toNat == leOf b 4672 4

/-- The MRAM device can correct every word of slot `k` (R131). -/
def State.slotReadable (s : State) (k : Nat) : Bool := s.mramOk (slotAddr k) 4676

/-- The valid slot with the higher SEQ. -/
def State.bestSlot (s : State) : Option (Nat × List Byte) :=
  let a := s.slotRead 0
  let b := s.slotRead 1
  match slotOk a && s.slotReadable 0, slotOk b && s.slotReadable 1 with
  | true, true => if leOf a 4 4 < leOf b 4 4 then some (1, b) else some (0, a)
  | true, false => some (0, a)
  | false, true => some (1, b)
  | false, false => none

def le6 (b : List Byte) (o : Nat) : Vector Nat 6 := Vector.ofFn (fun i => leOf b (o + 8 * i.val) 8)
def leI (b : List Byte) (o : Nat) : Int := (BitVec.ofNat 64 (leOf b o 8)).toInt

/-- Circuit `m` from the bytes of a slot; an interval that was in progress is taken up with the flags `flags`. -/
def State.circLoad (s : State) (b : List Byte) (m flags : Nat) : State :=
  let o := 64 + 256 * m
  let c : NrgC := { total := le6 b o, res := le6 b (o + 48), seq := leOf b (o + 168) 4, dmdSeq := leOf b (o + 172) 4 }
  let n := leOf b (o + 160) 4
  if byteOf b (o + 167) % 2 = 0 then s.nrgPut m c
  else
    let start := leOf b (o + 144) 8
    s.nrgPut m { c with
      running := true, nomStart := start, nomEnd := (start + s.dmdLen) % 2 ^ 64, openMono := s.monoNow, durBase := leOf b (o + 152) 8
      cur := { e := le6 b (o + 96), n := n, flags := leOf b (o + 164) 2 ||| flags
               pMax := if n = 0 then none else some (leI b (o + 176)), pMin := if n = 0 then none else some (leI b (o + 184)) } }

/-- R395: the interval goes on, or closes at once and the next one to open carries POWER_LOSS. -/
def State.circResume (s : State) (m : Nat) : State :=
  let c := s.nrgc m
  if !c.running then s
  else if decide (s.now < c.nomEnd) && !s.fset F.SYS_STAT_TIME_INVALID then s.intervalFlag m fPartial
  else
    let s := s.intervalEnd m 0 0
    s.nrgPut m { s.nrgc m with carry := fPowerLoss }

/-- The tally unit comes back from the slot, but for a warm reset, which leaves UNIT unchanged (R401). -/
def State.unitLoad (s : State) (b : List Byte) (m : Nat) : State :=
  let u := byteOf b (64 + 256 * m + 166)
  if s.fset F.RST_CAUSE_CMD_WARM || s.fset F.RST_CAUSE_LIFECYCLE || decide (7 ≤ u) then s else s.fput (F.NRG_CIRC_TCFG_UNIT m) u

/-- The module lost power without warning: R395. -/
def State.lostWithoutWarning (s : State) (b : List Byte) : Bool :=
  byteOf b 2 == 0 && !s.fset F.RST_CAUSE_CMD_WARM && !s.fset F.RST_CAUSE_CMD_COLD && !s.fset F.RST_CAUSE_LIFECYCLE

/-- The slot `k` with bytes `b` is loaded; `start` at a start-up, not when ENABLE is set again. -/
def State.slotLoad (s : State) (k : Nat) (b : List Byte) (start : Bool) : State :=
  let un := start && s.lostWithoutWarning b
  let s := (s.fput F.NRG_STAT_LOAD (k + 1)).nrgSet (fun n => { n with circs := [], loaded := true, seq := leOf b 4 4, slot := k })
  let s := if un then ((s.fput F.NRG_STAT_UNSAVED 1).raiseAlways Pg.NRG Ev.NRG_UNSAVED).note Pg.NRG Ev.NRG_UNSAVED ((b.drop 8).take 8) else s
  let fl := if start then fPowerLoss ||| (if un then fUnsaved else 0) else 0
  (List.range circCount).foldl (fun s m => (((s.circLoad b m fl).unitLoad b m).circResume m).mirror m) s

/-- A read of `n` bytes of MRAM from `a` on that the device cannot correct is recorded (R131). -/
def State.mramNote (s : State) (a n : Nat) : State := if s.mramOk a n then s else s.note Pg.SYS noBit (natLe 8 a)

def State.nrgLoad (s : State) (start : Bool) : State :=
  let s := (s.mramNote (slotAddr 0) 4676).mramNote (slotAddr 1) 4676
  match s.bestSlot with
  | some (k, b) => s.slotLoad k b start
  | none =>
    let s := s.nrgSet (fun n => { n with circs := [], loaded := true })
    let s := (List.range circCount).foldl (fun s m => s.mirror m) s
    if s.trust.energyWritten then
      (s.fput F.NRG_STAT_LOAD 3).noteAs (recClass Pg.NRG noBit) 7 (tabGet (fun _ => 0) s.ownClasses (recClass Pg.NRG noBit)) Pg.NRG noBit [3]
    else s.fput F.NRG_STAT_LOAD 0

def State.nrgStat (s : State) : State :=
  (s.fput F.NRG_STAT_RUN (boolNat (s.enabled Pg.NRG && s.nrg.loaded))).fput F.NRG_STAT_STANDBY (boolNat s.standby)

/-- NRG_TOTALS_LOAD: at start-up, before step 9. -/
def execNrgTotalsLoad (s : State) : Host.Outcome State Fault Refusal :=
  s.whenLive fun s => if s.nrg.loaded || decide (9 ≤ s.fget F.RST_BOOT_STAT_STAGE) then s else (s.nrgLoad true).nrgStat

/-- ENABLE of NRG became 1: the totals are there, or are loaded again (R402). -/
def State.nrgEnable (s : State) : State :=
  let s := if s.nrg.stopping then s.nrgSet (fun n => { n with stopping := false }) else if s.nrg.loaded then s else s.nrgLoad false
  let s := s.nrgSet (fun n => { n with lastSave := s.monoNow })
  ((List.range circCount).foldl (fun s m => if s.circOn m then s.nrgCircEnable m else s) s).nrgStat

/-- ENABLE of NRG became 0: integration goes on until a save has completed (R402). -/
def State.nrgDisable (s : State) : State :=
  if s.nrg.loaded then ((s.nrgSet (fun n => { n with stopping := true })).nrgSave 0).nrgStat else s.nrgStat

/-! ### The page (R401, R402) -/

/-- The circuit and accumulator that TOT_SEL names. -/
def State.totSel (s : State) : Option (Nat × Nat) :=
  let m := s.fget F.NRG_TOT_SEL_CIRC
  let a := s.fget F.NRG_TOT_SEL_ACC
  if m < circCount ∧ a < 6 then some (m, a) else none

/-- A read of TOT_LO latches TOT_HI (R382). -/
def State.totRead (s : State) : State × Word :=
  let t := match s.totSel with | some (m, a) => vecGet (s.nrgSeen m).total a | none => 0
  (s.wr R.NRG_TOT_HI (BitVec.ofNat 32 (t / 2 ^ 32)), BitVec.ofNat 32 t)

/-- A read of TALLY latches TALLY_WRAP (R385). -/
def State.tallyRead (s : State) : State × Word :=
  match s.totSel with
  | some (m, a) =>
    let t := vecGet (s.nrgSeen m).total a
    (s.wr R.NRG_TALLY_WRAP (BitVec.ofNat 32 (wrapOf (s.tallyUnit m) t)), BitVec.ofNat 32 (tallyOf (s.tallyUnit m) t))
  | none => (s.wr R.NRG_TALLY_WRAP 0, 0)

def execNrgTotRead (req : Req) (s : State) : Host.Outcome State Fault Refusal := s.regReadCmd req R.NRG_TOT_LO State.totRead

def execNrgTallyRead (req : Req) (s : State) : Host.Outcome State Fault Refusal := s.regReadCmd req R.NRG_TALLY State.tallyRead

/-- A write of UNIT (R384, R402). -/
def State.unitWrite (s : State) (m u : Nat) : State :=
  let old := s.tallyUnit m
  if u = 7 then s.flag F.NRG_FAULT_BAD_WRITE
  else if u = old then s
  else
    let s := ((s.fput (F.NRG_CIRC_TCFG_UNIT m) u).mirror m).nrgEvent Ev.NRG_TALLY_WRAP m
    s.noteOf (s.circOwner m) Pg.NRG Ev.NRG_TALLY_WRAP [BitVec.ofNat 8 m, BitVec.ofNat 8 old, BitVec.ofNat 8 u]

def execNrgUnitWrite (req : Req) (m : Fin 18) (unit : BitVec 3) (s : State) : Host.Outcome State Fault Refusal :=
  s.regCmd req (R.NRG_CIRC_TCFG m) (fun s => s.unitWrite m unit.toNat)

/-- A write of DMD_CFG: only while ENABLE is 0; ALIGN_S is kept modulo 3,600. -/
def State.dmdWrite (s : State) (v : Word) : State :=
  if s.enabled Pg.NRG then s.flag F.NRG_FAULT_BAD_WRITE
  else (s.fput F.NRG_DMD_CFG_ALIGN_S (fieldOf F.NRG_DMD_CFG_ALIGN_S v % 3600)).fput F.NRG_DMD_CFG_LEN_MIN (fieldOf F.NRG_DMD_CFG_LEN_MIN v)

/-- A write of SAVE_CFG: 0 is taken as 1, and larger values as 60. -/
def State.saveCfgWrite (s : State) (v : Word) : State := s.fput F.NRG_SAVE_CFG_PERIOD_S (clampN 1 60 (fieldOf F.NRG_SAVE_CFG_PERIOD_S v))

/-! ### Export (R396, R397, R553) -/

/-- The module's identity as the export record carries it: the serial number, then zeros (log entry 12). -/
def State.identity (s : State) : List Byte := natLe 6 s.trust.otp.serial.toNat

def exportAddr : Nat := 0x60008000
def exportSigAddr : Nat := 0x60010000

/-- EXP_CMD.CREATE. -/
def State.exportCreate (s : State) : State :=
  if !s.enabled Pg.NRG || (List.range circCount).any s.circOn then s.flag F.NRG_FAULT_EXP_REFUSED
  else
    let s := s.nrgSave 4
    let seq := (if s.nrg.pending.isSome then s.nrg.seq + 1 else s.nrg.seq) % 2 ^ 32
    (s.putBytes .mtr exportAddr (s.slotImage 4 seq s.identity)).fput F.NRG_EXP_STAT_STATE 1

def execExportCreate (req : Req) (s : State) : Host.Outcome State Fault Refusal := s.regCmd req R.NRG_EXP_CMD State.exportCreate

/-- The signature block of R525 that the anchor writes for `msg`: ALG 2, KEY 0xF1. -/
def State.deviceBlock (s : State) (msg : List Byte) : List Byte :=
  natLe 2 1 ++ [2, 0xF1] ++ natLe 4 49936 ++ natLe 8 0 ++ padTo 64 (Config.devicePublicKey s.trust.otp.seed)
    ++ padTo 49856 (Config.deviceSignature s.trust.otp.seed msg)

/-- EXPORT_DONE: the anchor has signed the record; its digest is kept for R397. After DECOM it uses no key (R127). -/
def execExportDone (s : State) : Host.Outcome State Fault Refusal :=
  s.whenAwake fun s =>
    if s.fget F.NRG_EXP_STAT_STATE = 1 ∧ s.trust.otp.decom = false then
      let r := s.bytesAt exportAddr 4672
      let s := (s.putBytes .anchor exportSigAddr (s.deviceBlock r)).fput F.NRG_EXP_STAT_STATE 2
      { s.nrgEvent Ev.NRG_EXPORT_DONE 0xFF with trust := { s.trust with exportDigest := some (Config.shake256 r) } }
    else s

/-- Enabling a circuit voids an export (R397). -/
def State.exportVoid (s : State) : State :=
  if s.fget F.NRG_EXP_STAT_STATE = 0 then s
  else
    let s := { s with trust := { s.trust with exportDigest := none } }
    (s.fput F.NRG_EXP_STAT_STATE 0).note Pg.NRG Ev.NRG_EXPORT_DONE []

end Sys2Proof.Machine
end

