-- ==== Sys2Proof/Machine/Mtr.lean ====
section
/-! DEFINITION. The metering front end (12 R347 to R378): modulator faults, calibration, circuits, crossings, line cycles and windows. -/
namespace Sys2Proof.Machine

def State.mtrSet (s : State) (f : Mtr → Mtr) : State := { s with mtr := f s.mtr }
def State.mtrc (s : State) (m : Nat) : MtrC := tabGet (fun _ => {}) s.mtr.circs m
def State.mtrcSet (s : State) (m : Nat) (f : MtrC → MtrC) : State :=
  s.mtrSet (fun x => { x with circs := tabSet (fun _ => ({} : MtrC)) x.circs m (f (s.mtrc m)) })
def State.vchan (s : State) (v : Nat) : VCh := s.mtr.vch.toList.getD v {}
def State.vchanSet (s : State) (v : Nat) (x : VCh) : State := s.mtrSet (fun y => { y with vch := y.vch.setIfInBounds v x })

/-- Event `k` of the MTR page, and METER event `k` for event tasks; `d` is the circuit, the channel, or 0xFF where neither is concerned (log entry 12). -/
def State.mtrEvent (s : State) (k d : Nat) : State :=
  if s.enabled Pg.MTR then (s.raise Pg.MTR k).trigger 4 k (BitVec.ofNat 32 d) false else s

/-- The front end runs: ENABLE is 1 and CK_MOD is there. -/
def State.mtrRuns (s : State) : Bool := s.enabled Pg.MTR && !s.fset F.MTR_STAT_MOD_CLK_LOST

/-- MCLKn runs (R347). -/
def State.mclkRuns (s : State) (n : Nat) : Bool := s.mtrRuns && s.bit R.MTR_MCLK_EN n && !s.sup.asleep && !s.sup.inReset

def State.mtrStat (s : State) : State :=
  (s.fput F.MTR_STAT_RUN (boolNat s.mtrRuns)).fput F.MTR_STAT_STANDBY (boolNat s.standby)

/-! ### Circuits (R358) -/

def State.isFeeder (s : State) (m : Nat) : Bool := s.fget (F.MTR_CIRC_CFG_KIND m) == 2

/-- Phases that circuit `m` measures. -/
def State.phases (s : State) (m : Nat) : List Nat := if s.isFeeder m then [0, 1, 2] else [s.fget (F.MTR_CIRC_CFG_PH m)]

/-- Current channels of circuit `m`, in the order of its phases. -/
def State.currents (s : State) (m : Nat) : List Nat :=
  if s.isFeeder m then [s.fget (F.MTR_CIRC_CFG_I0 m), s.fget (F.MTR_CIRC_CFG_I1 m), s.fget (F.MTR_CIRC_CFG_I2 m)] else [s.fget (F.MTR_CIRC_CFG_I0 m)]

def State.vOf (s : State) (m p : Nat) : Nat := 3 * s.fget (F.MTR_CIRC_CFG_REF m) + p

/-- Modulator channels of circuit `m`. -/
def State.channels (s : State) (m : Nat) : List Nat := (s.phases m).map (s.vOf m) ++ (s.currents m).map (· + 6)

/-- Enabled circuits that use modulator channel `c`. -/
def State.usersOf (s : State) (c : Nat) : List Nat := (List.range circCount).filter (fun m => s.circOn m && (s.channels m).contains c)

def State.circPoints (s : State) (m : Nat) : List Nat :=
  (List.range (if s.isFeeder m then 26 else 9)).map (· + s.fget (F.MTR_CIRC_PID_BASE m))

def State.circValid (s : State) (m : Nat) : Bool := s.fset (F.MTR_CIRC_STAT_VALID m)

/-- The phase on which circuit `m` crosses until it moves (R362, R364). -/
def State.homePhase (s : State) (m : Nat) : Nat := if s.isFeeder m then 0 else s.fget (F.MTR_CIRC_CFG_PH m)

/-- The circuit leaves VALID (R362): the cycle and the window in progress are discarded, and its points are republished once, BAD (R371). -/
def State.leaveValid (s : State) (m : Nat) : State :=
  let was := s.circValid m
  let s := s.mtrcSet m (fun c => { c with crossed := false, phase := s.homePhase m, calChg := false, win := [] })
  let s := ((s.fput (F.MTR_CIRC_STAT_VALID m) 0).fput (F.MTR_CIRC_STAT_TIMED m) 0).fput (F.MTR_CIRC_STAT_FREQ_OK m) 0
  if was then
    let s := if s.standby then s else (s.circPoints m).foldl (fun s p => s.sourceWrite p (s.point p).value 2 s.monoNow) s
    (s.mtrEvent Ev.MTR_CIRC_INVALID m).nrgLeftValid m
  else s

/-- Samples no longer come: every circuit leaves VALID, and no channel has given a crossing (R362, R373). -/
def State.leaveAll (s : State) : State :=
  let s := (List.range circCount).foldl (fun s m => if s.circOn m then s.leaveValid m else s) s
  (List.range 6).foldl (fun s v => ((s.vchanSet v {}).setBit R.MTR_ZC_STAT v false).setBit R.MTR_ZC_STAT (8 + v) false) s

/-! ### Modulator faults (R349) -/

def State.modBad (s : State) (c : Nat) : Bool := s.bit R.MTR_MOD_STAT c

/-- CIRCm_STAT.MOD_FAULT follows the channels of the circuits. -/
def State.modStat (s : State) : State :=
  (List.range circCount).foldl (fun s m => s.fput (F.MTR_CIRC_STAT_MOD_FAULT m) (boolNat (s.circOn m && (s.channels m).any s.modBad))) s

/-- MOD_FAULT: 256 identical bits on an enabled channel; a later run holds the fault. -/
def execModFault (c : Fin 24) (s : State) : Host.Outcome State Fault Refusal :=
  s.whenAwake fun s =>
    if s.mtrRuns && !(s.usersOf c).isEmpty then
      let was := s.modBad c
      let s := (s.mtrSet (fun x => { x with faultAt := tabPut x.faultAt c s.cyc })).setBit R.MTR_MOD_STAT c true
      if was then s
      else
        let s := if c.val < 6 then s.vchanSet c { s.vchan c with armed := false, prev := none } else s
        let s := (s.mtrEvent Ev.MTR_MOD_FAULT c).modStat
        (s.usersOf c).foldl (fun s m => s.leaveValid m) s
    else s

/-- MOD_FAULT_CLEAR: 10 ms without such a run. -/
def execModFaultClear (c : Fin 24) (s : State) : Host.Outcome State Fault Refusal :=
  s.whenAwake fun s =>
    if s.modBad c then
      let s := s.reachCyc (tabGet (fun _ => 0) s.mtr.faultAt c + cycMs 10)
      ((s.mtrSet (fun x => { x with faultAt := tabDel x.faultAt c })).setBit R.MTR_MOD_STAT c false).modStat
    else s

/-! ### Calibration (R353 to R357) -/

def calAddr (c : Nat) : Nat := 0x10A00000 + 0x100 * c

/-- Bytes of the active block of channel `c`. -/
def State.calBlock (s : State) (c : Nat) : List Byte :=
  (List.range 32).flatMap (fun i => natLe 8 (s.readWord (calAddr c + 8 * i)).toNat)

/-- Bytes of the staged block of channel `c`. -/
def State.staged (s : State) (c : Nat) : List Byte := (List.range 256).map (fun i => tabGet (fun _ => 0) s.mtr.stage (256 * c + i))

def sgn32Of (b : List Byte) (o : Nat) : Int := (BitVec.ofNat 32 (leOf b o 4)).toInt
def calGain (b : List Byte) : Nat := leOf b 0 4
def calPhase (b : List Byte) : Int := sgn32Of b 4
def calFs (b : List Byte) : Nat := leOf b 8 4
def calPoints (b : List Byte) : Nat := byteOf b 12
def calSource (b : List Byte) : Nat := byteOf b 13
/-- Entry `k` of the temperature table: TEMP, GAIN_CORR, PHASE_CORR. -/
def calEntry (b : List Byte) (k : Nat) : Int × Int × Int :=
  (sgn16 (leOf b (16 + 8 * k) 2), (BitVec.ofNat 24 (leOf b (18 + 8 * k) 3)).toInt, (BitVec.ofNat 24 (leOf b (21 + 8 * k) 3)).toInt)

/-- The reason for which a staged block is refused (R353): 0 none, 1 a range, 2 the order of TEMP, 3 a reserved byte. -/
def calCheck (b : List Byte) : Nat :=
  if calGain b < 2 ^ 21 || 2 ^ 23 < calGain b || calPhase b < -65535 || 65535 < calPhase b || calFs b = 0 || 16 < calPoints b || 4 < calSource b then 1
  else if (List.range (calPoints b - 1)).any (fun k => decide ((calEntry b (k + 1)).1 ≤ (calEntry b k).1)) then 2
  else if leOf b 14 2 ≠ 0 || (b.drop 144).any (· != 0) then 3
  else 0

/-- Between entries `a` and `b` of a table, at temperature `t`. -/
def interpolate (ta tb a b t : Int) : Int := a + divr ((b - a) * (t - ta)) (tb - ta).toNat

/-- (TG, TP) of a block at temperature `t` (R355). -/
def calCorr (b : List Byte) (t : Int) : Int × Int :=
  let n := calPoints b
  if n = 0 then (0, 0)
  else
    let (t0, g0, p0) := calEntry b 0
    let (t1, g1, p1) := calEntry b (n - 1)
    if t ≤ t0 then (g0, p0)
    else if t1 ≤ t then (g1, p1)
    else
      match (List.range (n - 1)).find? (fun k => decide ((calEntry b k).1 ≤ t ∧ t < (calEntry b (k + 1)).1)) with
      | none => (g1, p1)
      | some k =>
        let (ta, ga, pa) := calEntry b k
        let (tb, gb, pb) := calEntry b (k + 1)
        (interpolate ta tb ga gb t, interpolate ta tb pa pb t)

/-- g and d of R354. -/
def calOf (b : List Byte) (tc : Int × Int) : Int × Int :=
  (rnd ((calGain b : Int) * (16777216 + tc.1)) 24, clampI (-65535) 65535 (calPhase b + tc.2))

/-- Corrections that a buffered sample can still need: those that took effect in the 300 ms before `t`, and the one before them. -/
def keepCals (t : Nat) : List (Nat × List (Int × Int)) → List (Nat × List (Int × Int))
  | [] => []
  | e :: l => if e.1 + 300000000 < t then [e] else e :: keepCals t l

/-- All 24 channels take their corrections from one sample, the first that leaves from now on: the blocks in force at the temperatures taken last. -/
def State.calApply (s : State) : State :=
  let blocks := (List.range 24).map s.calBlock
  let corr := blocks.map (fun b => match s.mtr.temps[calSource b]? with | some t => calCorr b t | none => (0, 0))
  s.mtrSet (fun x => { x with corr := corr, cals := keepCals s.monoNow ((s.monoNow, (blocks.zip corr).map (fun e => calOf e.1 e.2)) :: x.cals) })

/-- (g, d) of channel `c` for a sample that leaves at `t` (R354, R356). -/
def State.calAt (s : State) (c t : Nat) : Int × Int :=
  (((s.mtr.cals.find? (fun e => decide (e.1 ≤ t))).getD (s.mtr.cals.getLastD (0, []))).2).getD c (0, 0)

/-- The calibrated samples of channel `c` (R350, R351, R354). -/
def State.samples (s : State) (c : Nat) (i : ChanIn) : List Sample := chain (s.fset F.MTR_FILT_CFG_HPF_OFF) (s.calAt c) i

/-- The temperature of source `k`, 1 to 4, and whether it falls back to TSENS (R355). -/
def State.tempOf (s : State) (k : Nat) : Int × Bool :=
  let ts := sgn16 (s.fget F.TSENS_TEMP_DEG)
  if s.fset (F.MTR_TSRC_EN (k - 1)) then
    let p := s.fget (F.MTR_TSRC_PID (k - 1))
    let v := s.seen p
    if v.q == 2 || decide (60000000000 < s.viewAge v * 8192) || (s.point p).src == .none then (ts, true) else (v.value.toInt, false)
  else (ts, false)

/-- Source `k` enters or leaves its fallback: event, TEMP_STAT bit and record. -/
def State.fallback (s : State) (k : Nat) (f : Bool) : State :=
  if s.bit R.MTR_TEMP_STAT (k - 1) = f then s
  else ((s.setBit R.MTR_TEMP_STAT (k - 1) f).mtrEvent Ev.MTR_TEMP_FALLBACK 0xFF).note Pg.MTR Ev.MTR_TEMP_FALLBACK [BitVec.ofNat 8 (k - 1), BitVec.ofNat 8 (boolNat f)]

/-- MTR_TEMP_UPDATE: 100 ms after the one before. -/
def execMtrTempUpdate (s : State) : Host.Outcome State Fault Refusal :=
  s.whenAwake fun s =>
    if s.enabled Pg.MTR then
      let s := s.reachCyc (s.mtr.tempAt + cycMs 100)
      let ts := [1, 2, 3, 4].map s.tempOf
      let s := (ts.zip [1, 2, 3, 4]).foldl (fun s e => s.fallback e.2 e.1.2) s
      (s.mtrSet (fun x => { x with tempAt := s.cyc, temps := sgn16 (s.fget F.TSENS_TEMP_DEG) :: ts.map (·.1) })).calApply
    else s

/-- CAL_SEL, CAL_DATA and CAL_CMD take this requester's writes (R356). -/
def State.calOpen (s : State) (req : Req) : Bool :=
  req == .anchor ||
    (s.comp0 req && s.fset (F.HDR_EXPERT Pg.MTR) && (s.fget F.RST_LC_STAT_STATE == 0 || s.fget F.RST_LC_STAT_STATE == 3))

/-- A write to one of them: refused, or `f`. -/
def State.calWrite (s : State) (req : Req) (off : Nat) (f : State → State) : State :=
  if s.calOpen req then f s
  else (if s.fset (F.HDR_EXPERT Pg.MTR) then s else s.lockedWrite req Pg.MTR off).flag F.MTR_FAULT_CAL_LOCKED

/-- CAL_CMD.LOAD. -/
def State.calLoad (s : State) : State :=
  let bytes := (List.range 24).flatMap s.calBlock
  s.mtrSet (fun x => { x with stage := ((List.range 6144).zip bytes).filter (fun e => e.2 != 0) })

def State.activeCal (s : State) : List Byte := (List.range 24).flatMap s.calBlock

/-- The blocks are written, CAL_CRC and CAL_ID follow. -/
def State.calInstall (s : State) (bytes : List Byte) (id : Word) : State :=
  let s := (s.storeWords 0x10A00000 (wordsOf 768 bytes)).calApply
  (s.wr R.MTR_CAL_CRC (crc32c bytes)).wr R.MTR_CAL_ID id

/-- CAL_CMD.COMMIT by the anchor or by a core. -/
def State.calCommit (s : State) (req : Req) : State :=
  match (List.range 24).find? (fun c => calCheck (s.staged c) != 0) with
  | some c => (s.fput F.MTR_CAL_STAT_CH c).fput F.MTR_CAL_STAT_REASON (calCheck (s.staged c))
  | none =>
    let old := s.rd R.MTR_CAL_CRC
    let bytes := (List.range 24).flatMap s.staged
    let s := s.calInstall bytes (if req = .anchor then s.rd R.MTR_CAL_ID else 0xFFFFFFFF)
    let s := ((s.fput F.MTR_CAL_STAT_CH 0).fput F.MTR_CAL_STAT_REASON 0).mtrEvent Ev.MTR_CAL_CHG 0xFF
    let s := (List.range circCount).foldl (fun s m => if s.circOn m then s.mtrcSet m (fun c => { c with calChg := true, calCyc := s.cyc }) else s) s
    s.note Pg.MTR Ev.MTR_CAL_CHG (natLe 4 old.toNat ++ natLe 4 (s.rd R.MTR_CAL_CRC).toNat)

def execCalLoad (req : Req) (s : State) : Host.Outcome State Fault Refusal :=
  s.regCmd req R.MTR_CAL_CMD (fun s => s.calWrite req 0x808 State.calLoad)

def execCalCommit (req : Req) (s : State) : Host.Outcome State Fault Refusal :=
  s.regCmd req R.MTR_CAL_CMD (fun s => s.calWrite req 0x808 (fun s => s.calCommit req))

/-- CAL_DATA reads the staged word that CAL_SEL names. -/
def State.calData (s : State) : Word :=
  let c := s.fget F.MTR_CAL_SEL_CH
  if c < 24 then BitVec.ofNat 32 (leOf (s.staged c) (4 * s.fget F.MTR_CAL_SEL_WORD) 4) else 0

/-- A write of CAL_DATA. -/
def State.calDataWrite (s : State) (v : Word) : State :=
  let c := s.fget F.MTR_CAL_SEL_CH
  let o := 256 * c + 4 * s.fget F.MTR_CAL_SEL_WORD
  if c < 24 then s.mtrSet (fun x => { x with stage := (natLe 4 v.toNat).zipIdx.foldl (fun t e => tabSet (fun _ => (0 : Byte)) t (o + e.2) e.1) x.stage })
  else s

/-! ### Enable and disable of a circuit (R359, R360) -/

/-- The reason for which an enable is refused; 0 none. -/
def State.circRefuse (s : State) (m : Nat) : Nat :=
  let k := s.fget (F.MTR_CIRC_CFG_KIND m)
  let cs := s.currents m
  if k = 0 || k = 3 then 1
  else if (k = 1 && decide (2 < s.fget (F.MTR_CIRC_CFG_PH m))) || cs.any (fun c => decide (17 < c)) then 2
  else if !decide cs.Nodup || (List.range circCount).any (fun n => n != m && s.circOn n && (s.currents n).any (fun c => cs.contains c)) then 3
  else if (s.circPoints m).any (fun p => (s.point p).src != .metering || (s.point p).ptype != 3) then 4
  else if !s.enabled Pg.MTR then 5
  else 0

/-- Voltage channels that no enabled circuit uses detect no crossings. -/
def State.vchTidy (s : State) : State :=
  (List.range 6).foldl (fun s v => if (s.usersOf v).isEmpty then ((s.vchanSet v {}).setBit R.MTR_ZC_STAT v false).setBit R.MTR_ZC_STAT (8 + v) false else s) s

/-- EN of circuit `m` is written 1. -/
def State.circEnable (s : State) (m : Nat) : State :=
  let r := s.circRefuse m
  if r ≠ 0 then
    let s := (((s.wr R.MTR_ENREF 0).fput F.MTR_ENREF_VALID 1).fput F.MTR_ENREF_REASON r).fput F.MTR_ENREF_CIRC m
    (s.raiseAlways Pg.MTR Ev.MTR_ENABLE_REF).trigger 4 Ev.MTR_ENABLE_REF (BitVec.ofNat 32 m) false
  else
    let s := (s.fput (F.MTR_CIRC_CFG_EN m) 1).wr (R.MTR_CIRC_STAT m) 0
    let s := (s.mtrcSet m (fun c => { phase := s.homePhase m, tLast := c.tLast })).modStat
    let s := (s.noteOf (s.circOwner m) Pg.MTR noBit [BitVec.ofNat 8 m, 1]).nrgCircEnable m
    s.exportVoid

/-- EN of circuit `m` is written 0: the interval closes, and the partial cycle and its window are discarded. -/
def State.circDisable (s : State) (m : Nat) : State :=
  let s := (s.nrgCircDisable m).leaveValid m
  let s := (s.mtrcSet m (fun c => { c with closed := [] })).fput (F.MTR_CIRC_CFG_EN m) 0
  s.modStat.vchTidy.noteOf (s.circOwner m) Pg.MTR noBit [BitVec.ofNat 8 m, 0]

/-- OWNER is written by the anchor only. -/
def State.cfgOwner (s : State) (req : Req) (m : Nat) (v : Word) : State :=
  let o := fieldOf (F.MTR_CIRC_CFG_OWNER m) v
  if o = s.circOwner m then s
  else if req = .anchor then (if s.circOn m then s.flag F.MTR_FAULT_BAD_WRITE else s.fput (F.MTR_CIRC_CFG_OWNER m) o)
  else s.flag F.MTR_FAULT_OWNER_WR

/-- Fields of CIRCm_CFG but for OWNER and EN. -/
def cfgMask : Word := 0x01FFFFFC

/-- A write of CIRCm_CFG. -/
def State.cfgWrite (s : State) (req : Req) (m : Nat) (v : Word) : State :=
  let s := s.cfgOwner req m v
  let old := s.rd (R.MTR_CIRC_CFG m)
  if s.circOn m then
    let s := if (old ^^^ v) &&& cfgMask = 0 then s else s.flag F.MTR_FAULT_BAD_WRITE
    if v.getLsbD 0 then s else s.circDisable m
  else
    let s := s.wr (R.MTR_CIRC_CFG m) ((old &&& ~~~cfgMask) ||| (v &&& cfgMask))
    if v.getLsbD 0 then s.circEnable m else s

def execCircEnable (req : Req) (m : Fin 18) (s : State) : Host.Outcome State Fault Refusal :=
  s.regCmd req (R.MTR_CIRC_CFG m) (fun s => s.cfgWrite req m (s.rd (R.MTR_CIRC_CFG m) ||| 1))

def execCircDisable (req : Req) (m : Fin 18) (s : State) : Host.Outcome State Fault Refusal :=
  s.regCmd req (R.MTR_CIRC_CFG m) (fun s => s.cfgWrite req m (s.rd (R.MTR_CIRC_CFG m) &&& 0xFFFFFFFE))

/-- A write of another register of circuit `m`: only while EN is 0. -/
def State.circRegWrite (s : State) (m k : Nat) (v : Word) : State := if s.circOn m then s.flag F.MTR_FAULT_BAD_WRITE else s.wr k v

/-- A write of MOD_EDGE or FILT_CFG: only while ENABLE is 0 (R348, R378). -/
def State.mtrIdleWrite (s : State) (k : Nat) (v : Word) : State := if s.enabled Pg.MTR then s.flag F.MTR_FAULT_BAD_WRITE else s.wr k v

/-- A write of ZC_CFG: values outside are clamped. -/
def State.zcCfgWrite (s : State) (v : Word) : State :=
  (s.fput F.MTR_ZC_CFG_TIMEOUT_MS (clampN 10 250 (fieldOf F.MTR_ZC_CFG_TIMEOUT_MS v))).fput F.MTR_ZC_CFG_HYST_PM
    (clampN 1 100 (fieldOf F.MTR_ZC_CFG_HYST_PM v))

/-! ### Line cycles (R361 to R365) -/

/-- A cycle of circuit `m` closes at monotonic time `mono`, and the next one opens; a commit of the same CK_FAB cycle counts for the next one (R374). -/
def State.cycleClose (s : State) (m mono : Nat) (timed first alt : Bool) : State :=
  let c := s.mtrc m
  let t := s.now - (s.monoNow - mono)
  let dur := mono - c.openMono
  let seqErr := s.isFeeder m && s.fset (F.MTR_CIRC_STAT_SEQ_ERR m)
  let late := c.calChg && c.calCyc == s.cyc
  let x : Closed := { tStart := c.openT, tEnd := t, mono := mono, dur := dur, freqOk := s.fset (F.MTR_CIRC_STAT_FREQ_OK m), timed := timed,
                      first := first, calChg := c.calChg && !late, alt := alt, seqErr := seqErr }
  let s := s.mtrcSet m (fun c => { c with openT := t, openMono := mono, calChg := late, closed := c.closed ++ [x],
                                          lastDur := if timed then c.lastDur else dur })
  if 1000000000 < dur * 40 ∨ dur * 70 < 1000000000 then s.mtrEvent Ev.MTR_FREQ_RANGE m else s

def State.timedOn (s : State) (m : Nat) : Bool := s.fset (F.MTR_CIRC_STAT_TIMED m)
def State.onAlt (s : State) (m : Nat) : Bool := s.isFeeder m && (s.mtrc m).phase != 0

/-- The timed window in progress closes at the end of T_h. -/
def State.timedClose (s : State) (m : Nat) : State := s.cycleClose m ((s.mtrc m).openMono + (s.mtrc m).lastDur) true false (s.onAlt m)

/-- Timed windows that ended before monotonic time `mono` close, up to `fuel` of them. -/
def State.catchUp (s : State) (m mono : Nat) : Nat → State
  | 0 => s
  | fuel + 1 =>
    if (s.mtrc m).openMono + (s.mtrc m).lastDur < mono ∧ 0 < (s.mtrc m).lastDur then (s.timedClose m).catchUp m mono fuel else s

/-- How many windows can have ended by then. -/
def State.windowsDue (s : State) (m mono : Nat) : Nat := (mono - (s.mtrc m).openMono) / max 1 (s.mtrc m).lastDur + 1

/-- Frequency holds its last value, and timed windows run from the last crossing. -/
def State.timedStart (s : State) (m : Nat) : State :=
  let s := (s.fput (F.MTR_CIRC_STAT_TIMED m) 1).fput (F.MTR_CIRC_STAT_FREQ_OK m) 0
  s.catchUp m (s.monoNow + 1) (s.windowsDue m s.monoNow)

/-- The channel on which circuit `m` crosses is lost; for a feeder, timed windows run only while all three are. -/
def State.phaseGone (s : State) (m v : Nat) : Bool :=
  if s.isFeeder m then [0, 1, 2].all (fun p => (s.vchan (s.vOf m p)).lost) else v == s.vOf m (s.mtrc m).phase

/-- ZC_LOST: TIMEOUT_MS after the latest crossing of the channel. -/
def execZcLost (ch : Fin 6) (s : State) : Host.Outcome State Fault Refusal :=
  s.whenAwake fun s =>
    match (s.vchan ch).last with
    | none => s
    | some t =>
      if s.mtrRuns && !(s.vchan ch).lost && !(s.usersOf ch).isEmpty then
        let s := s.reachMono (t + s.fget F.MTR_ZC_CFG_TIMEOUT_MS * 1000000)
        let s := ((s.vchanSet ch { s.vchan ch with lost := true }).setBit R.MTR_ZC_STAT (8 + ch) true).setBit R.MTR_ZC_STAT ch false
        (s.usersOf ch).foldl (fun s m =>
          let s := s.mtrEvent Ev.MTR_ZC_LOST m
          if s.circValid m && !s.timedOn m && s.phaseGone m ch then s.timedStart m else s) s
      else s

/-- TIMED_WINDOW: T_h has passed since the window in progress opened. -/
def execTimedWindow (m : Fin 18) (s : State) : Host.Outcome State Fault Refusal :=
  s.whenAwake fun s =>
    if s.mtrRuns && s.timedOn m then (s.reachMono ((s.mtrc m).openMono + (s.mtrc m).lastDur)).timedClose m else s

/-- The order of phases (R364): the first crossing after an L1 crossing is to be that of L2. -/
def State.seqCheck (s : State) (v : Nat) : State :=
  let r := v / 3
  let p := v % 3
  let arm (b : Bool) : State := s.mtrSet (fun x => { x with afterL1 := x.afterL1.setIfInBounds r b })
  if p = 0 then arm true
  else if s.mtr.afterL1.toList.getD r false then
    let s := (arm false).setBit R.MTR_ZC_STAT (16 + r) (p == 2)
    (List.range circCount).foldl (fun s m =>
      if s.circOn m && s.isFeeder m && s.fget (F.MTR_CIRC_CFG_REF m) == r then
        let s := s.fput (F.MTR_CIRC_STAT_SEQ_ERR m) (boolNat (p == 2))
        if p = 2 then s.mtrEvent Ev.MTR_SEQ_ERR m else s
      else s) s
  else s

/-- The phase to which a feeder moves from its lost phase: L2, or L3 when L2 is lost too. -/
def State.nextPhase (s : State) (m : Nat) : Option Nat :=
  [1, 2].find? (fun q => q != (s.mtrc m).phase && !(s.vchan (s.vOf m q)).lost)

/-- Circuit `m` takes a crossing of phase `p` for its own: it crosses on it, moves to it, or returns to L1 (R364). -/
def State.takesPhase (s : State) (m p : Nat) : Bool :=
  let c := s.mtrc m
  let l1 := s.vchan (s.vOf m 0)
  p == c.phase ||
    (s.isFeeder m && (((s.vchan (s.vOf m c.phase)).lost && s.nextPhase m == some p) ||
      (s.circValid m && (s.timedOn m || (p == 0 && !l1.lost && decide (2 ≤ l1.sinceBack))))))

/-- The circuit opens a cycle at a crossing. -/
def State.openAt (s : State) (m p mono : Nat) : State :=
  s.mtrcSet m (fun c => { c with crossed := true, phase := p, openT := s.now - (s.monoNow - mono), openMono := mono })

/-- An accepted crossing of phase `p` at `mono`, for circuit `m`. -/
def State.circCross (s : State) (m p mono : Nat) : State :=
  let c := s.mtrc m
  if s.fset (F.MTR_CIRC_STAT_MOD_FAULT m) || !s.takesPhase m p then s
  else
    let alt := s.isFeeder m && (c.phase != 0 || p != 0)
    let s :=
      if s.circValid m then
        if s.timedOn m then
          let s := s.catchUp m mono (s.windowsDue m mono)
          (s.cycleClose m mono true false alt).fput (F.MTR_CIRC_STAT_TIMED m) 0
        else (s.fput (F.MTR_CIRC_STAT_FREQ_OK m) 1).cycleClose m mono false false alt
      else if c.crossed && c.phase == p then
        let s := (s.fput (F.MTR_CIRC_STAT_VALID m) 1).fput (F.MTR_CIRC_STAT_FREQ_OK m) 1
        (s.mtrEvent Ev.MTR_CIRC_VALID m).cycleClose m mono false true alt
      else s
    let s := s.openAt m p mono
    s.fput (F.MTR_CIRC_STAT_ALT_PHASE m) (boolNat (s.onAlt m))

/-- An accepted crossing of channel `ch` at `mono`. -/
def State.crossing (s : State) (ch mono : Nat) : State :=
  let x := s.vchan ch
  let s := s.vchanSet ch { x with last := some mono, lost := false, armed := false, sinceBack := if x.lost then 0 else min 2 (x.sinceBack + 1) }
  let s := ((s.setBit R.MTR_ZC_STAT (8 + ch) false).setBit R.MTR_ZC_STAT ch true).seqCheck ch
  (s.usersOf ch).foldl (fun s m => (if x.lost then s.mtrEvent Ev.MTR_ZC_BACK m else s).circCross m (ch % 3) mono) s

/-- H of R361. -/
def State.hyst (s : State) : Nat := s.fget F.MTR_ZC_CFG_HYST_PM * 2 ^ 23 / 1000

/-- Where the line between two samples passes 0, to 1 ns. -/
def zeroAt (t0 : Nat) (y0 : Int) (t : Nat) (y : Int) : Nat := t0 + (divr (-y0 * ((t : Int) - t0)) (y - y0).toNat).toNat

/-- Where the sample (t, y) makes an armed channel cross: its first sample with y ≥ 0 after one below 0 (log entry 60). -/
def VCh.crosses (x : VCh) (t : Nat) (y : Int) : Option Nat :=
  match x.prev with
  | some (t0, y0) => if x.armed && decide (0 ≤ y) && decide (y0 < 0) then some (zeroAt t0 y0 t y) else none
  | none => none

/-- The crossing lies within 12 ms of the accepted one before it. -/
def VCh.early (x : VCh) (mono : Nat) : Bool := match x.last with | some t => decide (mono ≤ t + 12000000) | none => false

/-- The next calibrated sample of voltage channel `ch` (R361). -/
def State.sampleIn (s : State) (ch t : Nat) (y : Int) : State :=
  let x := s.vchan ch
  let s := s.vchanSet ch { x with prev := some (t, y), armed := x.armed || decide (y < -(s.hyst : Int)) }
  match x.crosses t y with
  | some mono => if x.early mono then s else s.crossing ch mono
  | none => s

/-- ZERO_CROSSING: channel `ch` takes the samples that have left the interpolator since the command before; the last of them are those of a crossing. -/
def execZeroCrossing (ch : Fin 6) (inp : ChanIn) (s : State) : Host.Outcome State Fault Refusal :=
  s.whenAwake fun s =>
    if s.mtrRuns && !(s.usersOf ch).isEmpty && !s.modBad ch then
      let s := s.reachMono (inp.leave.foldl max 0)
      (s.samples ch inp).foldl (fun s x => s.sampleIn ch x.date x.y) s
    else s

/-! ### Per-cycle values (R366 to R368) -/

/-- The greatest r with r * r ≤ n, searched below r + 2^k. -/
def isqrtFrom (n : Nat) : Nat → Nat → Nat
  | 0, r => r
  | k + 1, r => if (r + 2 ^ k) * (r + 2 ^ k) ≤ n then isqrtFrom n k (r + 2 ^ k) else isqrtFrom n k r

/-- sqrt(a / b), rounded half away from zero. -/
def sqrtRound (a b : Nat) : Nat := if b = 0 then 0 else (isqrtFrom (4 * a / b) 64 0 + 1) / 2

/-- sqrt(Σ x² / N) × FS / 2^23. -/
def rms (xs : List Int) (fs : Nat) : Int := sqrtRound ((sumI (xs.map (fun x => x * x))).toNat * (fs * fs)) (xs.length * 2 ^ 46)

/-- 95 % of full scale (R349). -/
def clipLimit : Nat := 7969178
def clipped (l : List Sample) : Bool := l.any (fun x => decide (clipLimit ≤ x.code.natAbs))

/-- The samples of a cycle: dated at or after its opening instant and before its closing one (R366). -/
def Closed.holds (x : Closed) (l : List Sample) : List Sample := l.filter (fun y => decide (x.mono ≤ y.date + x.dur) && decide (y.date < x.mono))

/-- Σ x·cos and Σ x·sin of 2π·k·(t − t0) / T over dated samples, in units of 2^−30. -/
def phasor (xs : List (Nat × Int)) (t0 period k : Nat) : Int × Int :=
  xs.foldl (fun a e =>
    let (c, n) := Config.trig (k * (e.1 - t0)) period
    (a.1 + e.2 * c, a.2 + e.2 * n)) (0, 0)

/-- Qp of R367: half the imaginary part of V1 · conj(I1), scaled to µvar. -/
def reactive (vs is : List (Nat × Int)) (t0 dur fv fi : Nat) : Int :=
  let v := phasor vs t0 dur 1
  let i := phasor is t0 dur 1
  divr (2 * (v.1 * i.2 - v.2 * i.1) * ((fv * fi : Nat) : Int)) (vs.length * is.length * 2 ^ 106)

/-- V, I, P, Q and S of one phase over its samples in the cycle. -/
def phaseValues (fv fi t0 dur : Nat) (vs is : List (Nat × Int)) : Int × Int × Int × Int × Int :=
  let p := divr (rnd (sumI ((vs.zip is).map (fun e => e.1.2 * e.2.2)) * ((fv * fi : Nat) : Int)) 46) vs.length
  let v := rms (vs.map (·.2)) fv
  let i := rms (is.map (·.2)) fi
  (v, i, p, reactive vs is t0 dur fv fi, v * i)

/-- A word of an active block of the circuit's channels is uncorrectable (R131): the reads are made by the front end. -/
def State.calReads (s : State) (chs : List Nat) : Bool × State :=
  (chs.flatMap (fun c => (List.range 32).map (fun i => calAddr c + 8 * i))).foldl (fun a w =>
    let (v, s) := a.2.eccRead w .mtr
    (a.1 || v == .uncorrectable, s)) (false, s)

/-- CLIP of the channels of the circuit that held a clipped sample (R349). -/
def State.clipMark (s : State) (chs : List (Nat × List Sample)) : State :=
  chs.foldl (fun s e => if clipped e.2 then (s.setBit R.MTR_CLIP e.1 true).mtrEvent Ev.MTR_CLIP e.1 else s) s

/-- The 64-byte record of R368. -/
def cycleRecord (x : Closed) (n flags seq : Nat) (p q t : Int) : List Byte :=
  natLe 8 x.tStart ++ natLe 8 x.tEnd ++ natLe 8 x.dur ++ natLe 2 n ++ natLe 1 flags ++ natLe 1 0 ++ natLe 4 seq
    ++ le64i p ++ le64i q ++ le64i t ++ natLe 8 0

/-- The record is handed on to NRG, or kept on a standby module (R373). -/
def State.handOn (s : State) (m : Nat) (r : CycRec) : State :=
  if s.standby then s.mtrcSet m (fun c => { c with kept := c.kept ++ [r] })
  else (s.mtrcSet m (fun c => { c with tLast := r.tEnd })).mtrSet (fun x => { x with handed := x.handed ++ [r] })

/-- The samples of the circuit's channels in a closed cycle, by phase: voltage and current channel, each with its samples. -/
def State.cycleSamples (s : State) (m : Nat) (x : Closed) (cyc : CycleIn) : List ((Nat × List Sample) × (Nat × List Sample)) :=
  ((s.phases m).zip (s.currents m)).zipIdx.map (fun e =>
    let i := cyc.chans.getD e.2 (⟨[], 0, []⟩, ⟨[], 0, []⟩)
    let v := s.vOf m e.1.1
    let c := e.1.2 + 6
    ((v, x.holds (s.samples v i.1)), (c, x.holds (s.samples c i.2))))

/-- Dates and values, a current negated where its sensor is fitted in reverse. -/
def datedOf (inv : Bool) (l : List Sample) : List (Nat × Int) := l.map (fun x => (x.date, if inv then -x.y else x.y))

/-- Voltage and current of phase number `j`, dated. -/
def State.phaseSamples (s : State) (m j : Nat) (e : (Nat × List Sample) × (Nat × List Sample)) : List (Nat × Int) × List (Nat × Int) :=
  (datedOf false e.1.2, datedOf ((s.rd (R.MTR_CIRC_CFG m)).getLsbD (22 + (s.phases m).getD j 0)) e.2.2)

/-- The values of circuit `m` for a closed cycle, by phase. -/
def State.cycleValues (s : State) (m : Nat) (x : Closed) (smp : List ((Nat × List Sample) × (Nat × List Sample))) :
    List (Int × Int × Int × Int × Int) :=
  smp.zipIdx.map (fun e =>
    let w := s.phaseSamples m e.2 e.1
    phaseValues (calFs (s.calBlock e.1.1.1)) (calFs (s.calBlock e.1.2.1)) (x.mono - x.dur) x.dur w.1 w.2)

/-- The record of a closed cycle: ring, CIRCm_STAT, hand-on and window. -/
def State.cycleWrite (s : State) (m : Nat) (x : Closed) (cyc : CycleIn) : State :=
  let smp := s.cycleSamples m x cyc
  let vals := s.cycleValues m x smp
  let chs := smp.flatMap (fun e => [e.1, e.2])
  let clip := chs.any (fun e => clipped e.2)
  let thr : Int := ((s.rd (R.MTR_CIRC_CREEP m)).toNat * 1000 : Nat)
  let creep := decide (0 < thr) && vals.all (fun v => decide ((v.2.2.1.natAbs : Int) < thr))
  let p := if creep then 0 else sumI (vals.map (·.2.2.1))
  let q := if creep then 0 else sumI (vals.map (·.2.2.2.1))
  let t := sumI (vals.map (·.2.2.2.2))
  let n := (chs.head?.map (·.2.length)).getD 0
  let flags := boolNat x.timed + 2 * boolNat x.first + 4 * boolNat x.calChg + 8 * boolNat creep + 16 * boolNat clip + 32 * boolNat x.alt
    + 64 * boolNat x.seqErr
  let seq := ((s.mtrc m).seq + 1) % 2 ^ 32
  let s := (s.clipMark chs).storeWords (0x10A10000 + 0x1000 * m + 64 * (seq % 64)) (wordsOf 8 (cycleRecord x n flags seq p q t))
  let s := ((s.fput (F.MTR_CIRC_STAT_SEQ m) seq).fput (F.MTR_CIRC_STAT_CREEP m) (boolNat creep)).fput (F.MTR_CIRC_STAT_CLIP m) (boolNat clip)
  let s := s.handOn m { circ := m, tEnd := x.tEnd, dur := x.dur, flags := flags, p := p, q := q }
  let w : CycVal := { n := n, dur := x.dur, mono := x.mono, freqOk := x.freqOk, flags := flags, total := (p, q, t), v := vals.map (·.1),
                      i := vals.map (·.2.1), p := vals.map (·.2.2.1), q := vals.map (·.2.2.2.1), s := vals.map (·.2.2.2.2), smp := smp.zipIdx.map (fun e => s.phaseSamples m e.2 e.1) }
  s.mtrcSet m (fun c => { c with seq := seq, win := if s.circValid m then c.win ++ [w] else [] })

/-- CYCLE_RECORD: the oldest closed cycle of circuit `m`; discarded where a word of its metering SRAM is uncorrectable (R131). -/
def execCycleRecord (m : Fin 18) (cyc : CycleIn) (s : State) : Host.Outcome State Fault Refusal :=
  s.whenAwake fun s =>
    match (s.mtrc m).closed with
    | [] => s
    | x :: l =>
      let s := s.mtrcSet m (fun c => { c with closed := l })
      let (bad, s) := s.calReads (s.channels m)
      if bad then s.mtrcSet m (fun c => { c with win := [] }) else s.cycleWrite m x cyc

/-! ### Windows (R369 to R371) -/

/-- Mean over the window's samples of a value of each cycle, in units of `scale`. -/
def winMean (w : List CycVal) (f : CycVal → Int) (scale : Nat) : Int :=
  divr (sumI (w.map (fun c => f c * c.n))) ((w.foldl (fun a c => a + c.n) 0) * scale)

/-- Hann weight of sample `n` of `size`, in units of 2^−31. -/
def hann (n size : Nat) : Int := 2 ^ 30 - (Config.trig n size).1

def sqI (p : Int × Int) : Nat := (p.1 * p.1 + p.2 * p.2).toNat

/-- THD of Hann-weighted samples whose fundamental has the period T / 10, in units of 0.01 %; none while the fundamental is below 2 % of full scale
(R369, R371). -/
def thdOf (xs : List (Nat × Int)) (t0 total : Nat) : Option Int :=
  let weights := (List.range xs.length).map (fun n => hann n xs.length)
  let ws := (xs.zip weights).map (fun e => (e.1.1, e.1.2 * e.2))
  let x1 := sqI (phasor ws t0 total 10)
  let sum := (sumI weights).toNat
  if 10000 * x1 < (2 ^ 53 * sum) * (2 ^ 53 * sum) then none
  else some (sqrtRound (100000000 * ((List.range 39).map (fun k => sqI (phasor ws t0 total (10 * (k + 2))))).sum) x1)

/-- THD of phase `p` of a window, of its voltage or of its current. -/
def winThd (w : List CycVal) (f : List (Nat × Int) × List (Nat × Int) → List (Nat × Int)) (p : Nat) : Option Int :=
  let t0 := (w.head?.map (fun c => c.mono - c.dur)).getD 0
  thdOf (w.flatMap (fun c => f (c.smp.getD p ([], [])))) t0 (w.foldl (fun a c => a + c.dur) 0)

/-- The values of R370 in the order of their points; none where the quality is BAD. -/
def State.winValues (s : State) (m : Nat) (w : List CycVal) : List (Option Int) :=
  let ps := List.range (s.phases m).length
  let col (f : CycVal → List Int) (scale : Nat) := ps.map (fun p => some (winMean w (fun c => (f c).getD p 0) scale))
  let tot (f : Int × Int × Int → Int) := some (winMean w (fun c => f c.total) 100000)
  let sp := sumI (w.map (fun c => c.total.1 * c.n))
  let ss := sumI (w.map (fun c => c.total.2.2 * c.n))
  let pf := if ss = 0 then none else some (divr (sp * 10000) ss.toNat)
  let fr := if (w.getLastD default).freqOk then some (divr 10000000000000 (w.foldl (fun a c => a + c.dur) 0)) else none
  let pw := if s.isFeeder m then col (·.p) 100000 ++ col (·.q) 100000 ++ col (·.s) 100000 ++ [tot (·.1), tot (·.2.1), tot (·.2.2)]
            else [tot (·.1), tot (·.2.1), tot (·.2.2)]
  col (·.v) 1 ++ col (·.i) 1 ++ pw ++ [pf, fr] ++ ps.map (winThd w (·.1)) ++ ps.map (winThd w (·.2))
where
  default : CycVal := { n := 0, dur := 0, mono := 0, freqOk := false, flags := 0, total := (0, 0, 0), v := [], i := [], p := [], q := [], s := [] }

/-- Flags that make a window UNCERTAIN: TIMED, CAL_CHG, CLIP, ALT_PHASE. -/
def uncertainFlags : Nat := 0x35

/-- Quality of the values that are not BAD. -/
def winQ (w : List CycVal) : Nat :=
  boolNat (w.any (fun c => c.flags &&& uncertainFlags != 0 || decide (1000000000 < c.dur * 40) || decide (c.dur * 70 < 1000000000)))

/-- WINDOW: ten cycles are complete. The points are published `delay` ns after the last closing instant, at most 2 ms, and dated at that instant (R369). -/
def execWindow (m : Fin 18) (delay : Nat) (s : State) : Host.Outcome State Fault Refusal :=
  s.whenAwake fun s =>
    let w := (s.mtrc m).win.take 10
    if s.circValid m && decide (w.length = 10) then
      let at' := (w.map (·.mono)).foldl max 0
      let vals := s.winValues m w
      let s := s.reachMono (at' + min delay 2000000)
      let s := s.mtrcSet m (fun c => { c with win := c.win.drop 10 })
      if s.standby then s
      else
        let s := ((s.circPoints m).zip vals).foldl (fun s e =>
          match e.2 with
          | some v => s.sourceWrite e.1 (word32 (satI32 v)) (winQ w) at'
          | none => s.sourceWrite e.1 (s.point e.1).value 2 at') s
        s.mtrEvent Ev.MTR_WINDOW m
    else s

/-! ### Enable, clocks and roles (R347, R373) -/

def State.mtrEnable (s : State) : State := (s.mtrSet (fun x => { x with tempAt := s.cyc })).mtrStat

/-- ENABLE becomes 0: MCLK is held low, and every circuit leaves VALID (log entry 28). -/
def State.mtrDisable (s : State) : State := s.leaveAll.mtrStat

/-- CK_MOD is lost, or is back. -/
def State.mtrClock (s : State) (lost : Bool) : State :=
  let s := s.fput F.MTR_STAT_MOD_CLK_LOST (boolNat lost)
  (if lost then s.leaveAll else s).mtrStat

/-- The module becomes active: every cycle that closed after the T_END of the last copied cycle is handed on (R373). -/
def State.mtrActive (s : State) : State :=
  ((List.range circCount).foldl (fun s m =>
    let c := s.mtrc m
    (c.kept.filter (fun r => decide (c.tLast < r.tEnd))).foldl (fun s r => s.handOn m r) (s.mtrcSet m (fun c => { c with kept := [] }))) s).mtrStat

end Sys2Proof.Machine
end

