-- ==== Sys2Proof/Machine/Time.lean ====
section
/-! DEFINITION. The real-time clock, the PTP time unit, steps of module time and the schedule table (14 R403 to R434). -/
namespace Sys2Proof.Machine

/-! ### The calendar (R403, R404) -/

def toBcd (n : Nat) : Nat := n / 10 * 16 + n % 10
def fromBcd (v : Nat) : Nat := v / 16 * 10 + v % 16

def leap (y : Nat) : Bool := y % 4 == 0 && (y % 100 != 0 || y % 400 == 0)
/-- DIM(M, Y). -/
def dim (m y : Nat) : Nat := if m = 2 then (if leap y then 29 else 28) else if m = 4 ∨ m = 6 ∨ m = 9 ∨ m = 11 then 30 else 31

/-- Days from 2000-01-01 to the first day of year `y`. -/
def daysBefore (y : Nat) : Nat := let n := y - 2000; n * 365 + (n + 3) / 4 - (n + 99) / 100 + (n + 399) / 400
/-- Days from 2000-01-01 to a date. -/
def dayNumber (y m d : Nat) : Nat := daysBefore y + ((List.range 13).filter (fun k => 0 < k ∧ k < m)).foldl (fun a k => a + dim k y) 0 + (d - 1)
/-- 1 Monday to 7 Sunday; 2000-01-01 is a Saturday. -/
def weekday (y m d : Nat) : Nat := (dayNumber y m d + 5) % 7 + 1

/-- A date and time of day in UTC. -/
structure Calendar where
  year : Nat
  mon : Nat
  day : Nat
  hour : Nat
  min : Nat
  sec : Nat
deriving DecidableEq, Repr

/-- One second later, by the Gregorian rule; after 2399-12-31 23:59:59 comes 2000-01-01, and the calendar has rolled. -/
def Calendar.next (c : Calendar) : Calendar × Bool :=
  if c.sec < 59 then ({ c with sec := c.sec + 1 }, false)
  else if c.min < 59 then ({ c with min := c.min + 1, sec := 0 }, false)
  else if c.hour < 23 then ({ c with hour := c.hour + 1, min := 0, sec := 0 }, false)
  else
    let c0 : Calendar := { c with hour := 0, min := 0, sec := 0 }
    if c.day < dim c.mon c.year then ({ c0 with day := c.day + 1 }, false)
    else if c.mon < 12 then ({ c0 with mon := c.mon + 1, day := 1 }, false)
    else if c.year < 2399 then ({ c0 with year := c.year + 1, mon := 1, day := 1 }, false)
    else ({ c0 with year := 2000, mon := 1, day := 1 }, true)

/-- Seconds from 1970-01-01 00:00:00 UTC, leap seconds not counted (log entry 31). -/
def Calendar.unix (c : Calendar) : Nat := 946684800 + dayNumber c.year c.mon c.day * 86400 + c.hour * 3600 + c.min * 60 + c.sec

def State.calendar (s : State) : Calendar :=
  let g (k : Nat) := fromBcd (s.rd k).toNat
  { year := 100 * g R.RTC_YEAR_HI + g R.RTC_YEAR_LO, mon := g R.RTC_MON, day := g R.RTC_DAY, hour := g R.RTC_HOUR, min := g R.RTC_MIN, sec := g R.RTC_SEC }

def State.calendarPut (s : State) (c : Calendar) : State :=
  let p (k v : Nat) (s : State) : State := s.wr k (BitVec.ofNat 32 v)
  let s := p R.RTC_SEC (toBcd c.sec) (p R.RTC_MIN (toBcd c.min) (p R.RTC_HOUR (toBcd c.hour) s))
  let s := p R.RTC_DAY (toBcd c.day) (p R.RTC_MON (toBcd c.mon) (p R.RTC_YEAR_LO (toBcd (c.year % 100)) (p R.RTC_YEAR_HI (toBcd (c.year / 100)) s)))
  p R.RTC_WDAY (weekday c.year c.mon c.day) s

def State.rtcSet (s : State) (f : Rtc → Rtc) : State := { s with rtc := f s.rtc }
/-- CK_AON runs. -/
def State.aonRuns (s : State) : Bool := s.rtc.stopAt.isNone
/-- CK_FAB cycles since the latest reset, frozen where CK_AON is lost. -/
def State.aonNow (s : State) : Int := s.rtc.stopAt.getD s.cyc

/-- RTC_SUB: CK_AON cycles of 32,768 Hz since the start of the second. -/
def State.rtcSub (s : State) : Nat := min 32767 ((s.aonNow - s.rtc.secStart) * 32768 / 400000000).toNat

/-- The nine time registers in address order. -/
def rtcKeys : List Nat := [R.RTC_SEC, R.RTC_MIN, R.RTC_HOUR, R.RTC_WDAY, R.RTC_DAY, R.RTC_MON, R.RTC_YEAR_LO, R.RTC_YEAR_HI, R.RTC_SUB]
def State.mirrorTime (s : State) (k : Nat) : Nat := if k = R.RTC_SUB then s.rtcSub else (s.rd k).toNat

/-- The mirror is about to be updated. -/
def State.mirrorKeep (s : State) : State := s.rtcSet (fun r => { r with before := some (s.cyc, rtcKeys.map s.mirrorTime) })

/-- The nine time registers as a read takes them: in the cycle of an update those from before it (R429). -/
def State.mirrorSeen (s : State) : List Nat :=
  match s.rtc.before with
  | some (c, v) => if c = s.cyc then v else rtcKeys.map s.mirrorTime
  | none => rtcKeys.map s.mirrorTime

/-- RTC_SECOND: the second in progress is complete. -/
def execRtcSecond (s : State) : Host.Outcome State Fault Refusal :=
  .next (
    if s.aonRuns then
      let e := s.rtc.secStart + 400000000
      let s := (if s.live then s.reachCyc e.toNat else s).mirrorKeep
      let (c, rolled) := s.calendar.next
      let s := ((s.calendarPut c).rtcSet (fun r => { r with secStart := if s.live then e else s.cyc })).raise Pg.RTC Ev.RTC_SECOND
      if rolled then (s.fput F.RTC_STAT_ROLL 1).raise Pg.RTC Ev.RTC_ROLL else s
    else s)

/-! ### Reading (R405) -/

/-- FROZEN, which also ends 800,000 cycles after the freezing read. -/
def State.frozen (s : State) : Bool := s.fset F.RTC_STAT_FROZEN && decide (s.cyc < s.rtc.frozenAt + 800000)

/-- A read of RTC_SEC freezes. -/
def State.rtcFreeze (s : State) : State × Word :=
  let v := s.mirrorSeen
  ((s.fput F.RTC_STAT_FROZEN 1).rtcSet (fun r => { r with shadow := v, frozenAt := s.cyc }), BitVec.ofNat 32 (v.getD 0 0))

/-- Time register number `i` (in `rtcKeys`) as read. -/
def State.rtcRead (s : State) (i : Nat) : Word :=
  BitVec.ofNat 32 (if s.frozen then s.rtc.shadow.getD i 0 else s.mirrorTime (rtcKeys.getD i 0))

/-- A read of RTC_YEAR_HI releases. -/
def State.rtcRelease (s : State) : State × Word := (s.fput F.RTC_STAT_FROZEN 0, s.rtcRead 7)

def execRtcSecRead (req : Req) (s : State) : Host.Outcome State Fault Refusal := s.regReadCmd req R.RTC_SEC State.rtcFreeze

def execRtcYearHiRead (req : Req) (s : State) : Host.Outcome State Fault Refusal := s.regReadCmd req R.RTC_YEAR_HI State.rtcRelease

/-- RTC_FREEZE_TIMEOUT: 2 ms after the freezing read. -/
def execRtcFreezeTimeout (s : State) : Host.Outcome State Fault Refusal :=
  s.whenLive fun s => if s.fset F.RTC_STAT_FROZEN then (s.reachCyc (s.rtc.frozenAt + 800000)).fput F.RTC_STAT_FROZEN 0 else s

/-! ### TIME_INVALID and steps (R418 to R420) -/



/-- TIME_INVALID and its mirror; an interval in progress is marked (R389), and TIME_VALID tells that it clears (R103). -/
def State.setTimeInvalid (s : State) (b : Bool) : State :=
  let was := s.timeInvalid
  let s := (s.fput F.SYS_STAT_TIME_INVALID (boolNat b)).fput F.PTP_STAT_TIME_INVALID (boolNat b)
  if b then s.nrgTimeInvalid else if was then s.raise Pg.SYS Ev.SYS_TIME_VALID else s

/-- R420 clears TIME_INVALID, but on a standby module, which follows the heartbeats. -/
def State.clearTimeInvalid (s : State) : State := if s.steered then s else s.setTimeInvalid false

def State.ptpSet (s : State) (f : Ptp → Ptp) : State := { s with ptp := f s.ptp }

/-- A step is decided: STEP_AT is 10 µs ahead. -/
def State.stepPlan (s : State) (amount : Int) (clears : Bool) : State :=
  s.ptpSet (fun p => { p with steps := p.steps ++ [{ at_ := s.now + 10000, amount := amount, clears := clears }] })

/-! ### Setting the RTC (R406, R407) -/

def stagedKeys : List Nat := [R.RTC_STG_SEC, R.RTC_STG_MIN, R.RTC_STG_HOUR, R.RTC_STG_DAY, R.RTC_STG_MON, R.RTC_STG_YEAR_LO, R.RTC_STG_YEAR_HI]

def bcdOk (w v : Nat) : Bool := decide (v % 16 ≤ 9 ∧ v / 16 ≤ 9 ∧ v < 2 ^ w)

def calendarOf (f : List Nat) : Calendar :=
  let g (i : Nat) := fromBcd (f.getD i 0)
  { sec := g 0, min := g 1, hour := g 2, day := g 3, mon := g 4, year := 100 * g 6 + g 5 }

/-- The checks of R407. -/
def stagedOk (f : List Nat) : Bool :=
  let c := calendarOf f
  (f.zip [7, 7, 6, 6, 5, 8, 8]).all (fun e => bcdOk e.2 e.1) && decide (c.sec ≤ 59 ∧ c.min ≤ 59 ∧ c.hour ≤ 23) &&
    decide (1 ≤ c.mon ∧ c.mon ≤ 12 ∧ 2000 ≤ c.year ∧ c.year ≤ 2399) && decide (1 ≤ c.day ∧ c.day ≤ dim c.mon c.year)

def State.stagedFields (s : State) : List Nat := stagedKeys.map (fun k => (s.rd k).toNat % 256)

/-- The first CK_AON edge at least 2 µs ahead. -/
def State.aonEdge (s : State) : Nat :=
  let d := ((s.cyc : Int) + 800 - s.rtc.secStart).toNat
  (s.rtc.secStart + (((d * 32768 + 399999999) / 400000000) * 400000000 + 32767) / 32768).toNat

/-- A write of RTC_CMD. -/
def State.rtcCmd (s : State) (load loadSec : Bool) : State :=
  if !load && !loadSec then s
  else if (load && loadSec) || (loadSec && s.timeInvalid) then s.flag F.RTC_FAULT_BAD_CMD
  else if !stagedOk s.stagedFields then (s.fput F.RTC_STAT_BAD_DATE 1).raise Pg.RTC Ev.RTC_BAD_DATE
  else if load then (s.rtcSet (fun r => { r with load := some (s.aonEdge, s.stagedFields), loadSec := none })).fput F.RTC_STAT_PENDING 0
  else (s.rtcSet (fun r => { r with loadSec := some ((s.now / 1000000000 + 1) * 1000000000, s.stagedFields) })).fput F.RTC_STAT_PENDING 1

def execLoad (req : Req) (s : State) : Host.Outcome State Fault Refusal := s.regCmd req R.RTC_CMD (fun s => s.rtcCmd true false)

def execLoadSec (req : Req) (s : State) : Host.Outcome State Fault Refusal := s.regCmd req R.RTC_CMD (fun s => s.rtcCmd false true)

/-- The counters take the staged fields. -/
def State.rtcTake (s : State) (f : List Nat) : State :=
  ((s.mirrorKeep.calendarPut (calendarOf f)).rtcSet (fun r => { r with secStart := s.cyc })).fput F.RTC_STAT_VALID 1

/-- Module time that the calendar names: UTC plus UTC.OFFSET. -/
def State.taiOf (s : State) (c : Calendar) : Nat := (c.unix + s.fget F.PTP_UTC_OFFSET) * 1000000000

/-- RTC_LOAD_APPLY, while CK_AON runs: a LOAD at its CK_AON edge, which steps module time while it is invalid; or a LOAD_SEC at its second. -/
def execRtcLoadApply (s : State) : Host.Outcome State Fault Refusal :=
  s.whenLive fun s =>
    if !s.aonRuns then s
    else match s.rtc.load, s.rtc.loadSec with
    | some (e, f), _ =>
      let s := ((s.reachCyc e).rtcSet (fun r => { r with load := none })).rtcTake f
      if s.timeInvalid && !s.steered then (s.setTimeInvalid false).stepPlan ((s.taiOf (calendarOf f) : Int) - s.now) true else s
    | none, some (t, f) => (((s.reach t).rtcSet (fun r => { r with loadSec := none })).rtcTake f).fput F.RTC_STAT_PENDING 0
    | none, none => s

/-! ### Loss (R409) and the countdown timer (R410, R411) -/

/-- The date after a loss. -/
def calendarZero : Calendar := { year := 2000, mon := 1, day := 1, hour := 0, min := 0, sec := 0 }

/-- RTC_TIME_LOST: VBAT falls below 2.0 V while VIN is absent, so that nothing supplies the always-on domain (R69). The countdown registers go to 0 (log entry 2). -/
def execRtcTimeLost (s : State) : Host.Outcome State Fault Refusal :=
  .next (
    if s.sup.vin == .low && !s.sup.aonFromVin then
      let s := ((s.calendarPut calendarZero).fput F.RTC_STAT_VALID 0).fput F.RTC_STAT_LOST 1
      let s := ((s.wr R.RTC_CD_LOAD 0).wr R.RTC_CD_CTL 0).wr R.RTC_CD_VAL 0
      let s : State := { s with sup := { s.sup with vbatOk := false } }
      (s.rtcSet (fun r => { r with secStart := s.cyc, cdFrom := s.cyc })).raise Pg.RTC Ev.RTC_TIME_LOST
    else s)

/-- CK_FAB cycles of one tick. -/
def State.cdTick (s : State) : Nat := if s.fset F.RTC_CD_CTL_TICK then 400000000 else 390625

/-- RTC_CD_VAL now. -/
def State.cdVal (s : State) : Nat :=
  let v := s.fget F.RTC_CD_VAL_COUNT
  if s.fset F.RTC_CD_CTL_EN then v - ((s.aonNow - s.rtc.cdFrom) / s.cdTick).toNat else v

/-- The count so far becomes the register's value. -/
def State.cdSettle (s : State) : State := (s.fput F.RTC_CD_VAL_COUNT s.cdVal).rtcSet (fun r => { r with cdFrom := s.aonNow })

/-- A write of RTC_CD_LOAD: an expiry of the same cycle reloads the new value (R429). -/
def State.cdLoad (s : State) (v : Word) : State :=
  let n := fieldOf F.RTC_CD_LOAD_COUNT v
  let s := s.fput F.RTC_CD_LOAD_COUNT n
  if s.rtc.reloadAt = some s.cyc then s.fput F.RTC_CD_VAL_COUNT n else s

/-- A write of RTC_CD_CTL: EN written 1 copies RTC_CD_LOAD, also while EN is 1 (R410, log entry 70); EN written 0 stops. -/
def State.cdCtl (s : State) (v : Word) : State :=
  let on := s.fset F.RTC_CD_CTL_EN
  let s := (if on then s.cdSettle else s).wr R.RTC_CD_CTL (v &&& 0xF)
  if v.getLsbD 0 then (s.fput F.RTC_CD_VAL_COUNT (s.fget F.RTC_CD_LOAD_COUNT)).rtcSet (fun r => { r with cdFrom := s.aonNow }) else s

def execCdStart (req : Req) (s : State) : Host.Outcome State Fault Refusal := s.regCmd req R.RTC_CD_CTL (fun s => s.cdCtl (s.rd R.RTC_CD_CTL ||| 1))

def execCdStop (req : Req) (s : State) : Host.Outcome State Fault Refusal := s.regCmd req R.RTC_CD_CTL (fun s => s.cdCtl (s.rd R.RTC_CD_CTL &&& 0xFFFFFFFE))

/-- Tasks, loops and local I/O take their first instants after READY has risen (R171). -/
def State.wokeReady (s : State) : State :=
  let t := s.monoNow
  let s : State := { s with
    tasks := s.tasks.map (fun e => (e.1, { e.2 with holdUntil := t + 100000 }))
    loops := s.loops.map (fun e => (e.1, { e.2 with notBefore := max e.2.notBefore (t + 10000), reseed := true, due := none, out := none }))
    lio := { s.lio with notBefore := t } }
  s.syncRestart.iosRestart

/-- The field channels that READY waits for are open: the one that woke the module, or every enabled one (R73, R170). -/
def State.wakeOpen (s : State) : Option Nat → Bool
  | some n => s.canOpen n || !s.enabled (Pg.CAN n)
  | none => [0, 1, 2, 3].all (fun n => s.canOpen n || !s.enabled (Pg.CAN n))

/-- READY rises after a sleep as soon as the channels are open. -/
def State.wakeCheck (s : State) : State :=
  match s.sup.waking with
  | some w => if s.wakeOpen w then (({ s with sup := { s.sup with waking := none } } : State).ready true).wokeReady else s
  | none => s

/-- Sleep ends, by channel `n` or by the countdown timer. -/
def State.wakeEnd (s : State) (n : Option Nat) : State :=
  if s.sup.asleep then ({ s with sup := { s.sup with asleep := false, waking := some n }, pins := { s.pins with sleepN := true } } : State).wakeCheck else s

/-- CD_EXPIRE: the counter reaches 0; with a load of 0 at the next tick. -/
def execCdExpire (s : State) : Host.Outcome State Fault Refusal :=
  .next (
    if s.fset F.RTC_CD_CTL_EN && s.aonRuns then
      let t := s.rtc.cdFrom + (max 1 (s.fget F.RTC_CD_VAL_COUNT) * s.cdTick : Nat)
      let s := if s.live then s.reachCyc t.toNat else s
      let s := (s.fput F.RTC_STAT_CD_EXPIRED 1).raise Pg.RTC Ev.RTC_CD_EXPIRE
      let s := if s.fset F.RTC_CD_CTL_RELOAD then
          (s.fput F.RTC_CD_VAL_COUNT (s.fget F.RTC_CD_LOAD_COUNT)).rtcSet (fun r => { r with cdFrom := if s.live then t else s.cyc, reloadAt := some s.cyc })
        else (s.fput F.RTC_CD_VAL_COUNT 0).fput F.RTC_CD_CTL_EN 0
      if s.fset F.RTC_CD_CTL_WAKE && s.live then s.wakeEnd none else s
    else s)

/-- CK_AON is lost, or is back (R41, R409, R411). -/
def State.aonLost (s : State) : State :=
  let s := ((s.fput F.RTC_STAT_RUN 0).fput F.RTC_STAT_CLK_LOST 1).fput F.RTC_STAT_VALID 0
  (s.rtcSet (fun r => { r with stopAt := some (r.stopAt.getD s.cyc) })).raise Pg.RTC Ev.RTC_TIME_LOST

def State.aonBack (s : State) : State :=
  match s.rtc.stopAt with
  | none => s
  | some t =>
    let d := (s.cyc : Int) - t
    ((s.fput F.RTC_STAT_RUN 1).fput F.RTC_STAT_CLK_LOST 0).rtcSet (fun r => { r with stopAt := none, secStart := r.secStart + d, cdFrom := r.cdFrom + d })

/-! ### Domains (R413 to R417) -/

def State.domSet (s : State) (d : Nat) (f : Dom → Dom) : State :=
  s.ptpSet (fun p => { p with doms := p.doms.setIfInBounds d (f (s.dom d)) })

/-- Units of OFF in one ns. -/
def offUnit : Int := 400000000000
def Dom.offNs (x : Dom) : Int := divr x.off offUnit.toNat

/-- STEP_LIMIT in units of OFF. -/
def State.stepLimit (s : State) : Int := (s.fget F.PTP_STEP_LIMIT_US : Int) * 1000 * offUnit

/-- The abs value of an Int as an Int. -/
def mag (x : Int) : Int := (x.natAbs : Int)

/-- BLK_STAT.LOCKED, and the rate. TIME_INVALID is cleared by the first LOCKED state of an active domain. -/
def State.ptpStat (s : State) : State :=
  let locked := match s.actDom with | some d => s.domState d == 2 | none => false
  let s := s.fput F.PTP_STAT_LOCKED (boolNat locked)
  (if locked && s.timeInvalid then s.clearTimeInvalid else s).servo

/-- Domain `d` enters a state; entering or leaving LOCKED is an event. -/
def State.domGo (s : State) (d st : Nat) : State :=
  let was := s.domState d
  let s := s.fput (F.PTP_DSTAT_STATE d) st
  (if (was == 2) != (st == 2) then s.raise Pg.PTP (Ev.PTP_LOCK0 + d) else s).ptpStat

/-- The active domain becomes `n`: 0 none, 1 and 2 the domains. -/
def State.select (s : State) (n : Nat) : State :=
  let last := match s.actDom with | some d => (s.dom d).freq | none => s.ptp.lastFreq
  (((s.fput F.PTP_ACT_SEL n).fput F.PTP_ACT_CUR n).ptpSet (fun p => { p with lastFreq := last, slewing := false })).ptpStat

/-- A switch between domains: event, and one record with both offsets (R416). -/
def State.switchTo (s : State) (d : Nat) : State :=
  let s := (s.select (d + 1)).raise Pg.PTP Ev.PTP_SWITCH
  s.note Pg.PTP Ev.PTP_SWITCH (le64i (s.dom (1 - d)).offNs ++ le64i (s.dom d).offNs)

/-- Domain `d` can be switched to. -/
def State.switchable (s : State) (d : Nat) : Bool := s.domState d == 2 && decide (mag (s.dom d).off ≤ s.stepLimit)

/-- A write of SEL. -/
def State.selWrite (s : State) (n : Nat) : State :=
  match s.actDom, n with
  | _, 3 => s.flag F.PTP_FAULT_BAD_WRITE
  | some _, 0 => s.select 0
  | none, 0 => s
  | none, n => (s.select n).ptpSet (fun p => { p with fromNone := true })
  | some d, n =>
    if d + 1 = n then s
    else if s.ptp.steps.isEmpty then (if s.switchable (n - 1) then s.switchTo (n - 1) else s.flag F.PTP_FAULT_SWITCH_REF)
    else s.ptpSet (fun p => { p with selWait := some n })

/-- A write of ACT. -/
def State.actWrite (s : State) (v : Word) : State := (s.fput F.PTP_ACT_AUTO (fieldOf F.PTP_ACT_AUTO v)).selWrite (fieldOf F.PTP_ACT_SEL v)

def execPtpSelect (req : Req) (sel : BitVec 2) (s : State) : Host.Outcome State Fault Refusal := s.regCmd req R.PTP_ACT (fun s => s.selWrite sel.toNat)

/-- EN of domain `d` is written 1 in IDLE, or 0. -/
def State.domEnable (s : State) (d : Nat) : State :=
  let s := (s.fput (F.PTP_DCFG_EN d) 1).fput (F.PTP_DSTAT_GOOD_RUN d) 0
  (s.domSet d (fun _ => { lastMono := s.monoNow })).domGo d 1

def State.domDisable (s : State) (d : Nat) : State :=
  let s := if s.actDom = some d then s.select 0 else s
  (s.fput (F.PTP_DCFG_EN d) 0).domGo d 0

/-- A write of DCFGd: DOMAIN, PROFILE and PORTS only while EN is 0. -/
def State.dcfgWrite (s : State) (d : Nat) (v : Word) : State :=
  let old := s.rd (R.PTP_DCFG d)
  let en := s.fset (F.PTP_DCFG_EN d)
  let s := if en then (if (old ^^^ v) &&& 0x1FFF = 0 then s else s.flag F.PTP_FAULT_BAD_WRITE)
           else s.wr (R.PTP_DCFG d) (v &&& 0x1FFF)
  if v.getLsbD 16 then (if en then s else s.domEnable d) else (if en then s.domDisable d else s)

def execDomainEnable (req : Req) (d : Fin 2) (s : State) : Host.Outcome State Fault Refusal :=
  s.regCmd req (R.PTP_DCFG d) (fun s => s.dcfgWrite d (s.rd (R.PTP_DCFG d) ||| 0x10000))

def execDomainDisable (req : Req) (d : Fin 2) (s : State) : Host.Outcome State Fault Refusal :=
  s.regCmd req (R.PTP_DCFG d) (fun s => s.dcfgWrite d (s.rd (R.PTP_DCFG d) &&& 0xFFFEFFFF))

/-- The sample is ignored (R413). -/
def State.badSample (s : State) (d t : Nat) : Bool :=
  let x := s.dom d
  !s.fset (F.PTP_DCFG_EN d) || decide (s.now < t) || (!x.first && decide (t < x.lastTs)) || decide (t < s.ptp.lastStep)

/-- CK_FAB cycles from module time `t` to now, at the present rate. -/
def State.cyclesSince (s : State) (t : Nat) : Int := ((s.mt.toNat - t * 2 ^ 32) / max 1 s.inc : Nat)

/-- LOCK_NS as taken. -/
def State.lockNs (s : State) (d : Nat) : Int := (max 1 (s.rd (R.PTP_LOCK_NS d)).toNat : Nat)

/-- FREQ stays within ±450 ppm. -/
def freqLimit (x : Int) : Int := clampI (-450000000) 450000000 x

/-- The estimates after an accepted sample: `e` the error in units of OFF, `t` its instant (R414). OFF at t takes the correction, and what it grew
by since then stays (log entry 32). -/
def State.estimate (s : State) (d t : Nat) (e grow : Int) : State :=
  let x := s.dom d
  let kp := s.fget F.PTP_SERVO_KP_SH
  let ki := s.fget F.PTP_SERVO_KI_SH
  let off := (x.off - grow) + (if x.first then e else divr e (2 ^ kp)) + grow
  let delta := t - x.lastTs
  let freq := if x.first ∨ delta = 0 then x.freq else freqLimit (x.freq + divr (e * 1000000000000) (delta * offUnit.toNat * 2 ^ ki))
  s.domSet d (fun y => { y with off := off, freq := freq, first := false, lastTs := t, lastMono := s.monoNow })

/-- The counts of samples that move the state. -/
def State.sampleCounts (s : State) (d : Nat) (e : Int) : State :=
  let lock := s.lockNs d * offUnit
  let s := s.fput (F.PTP_DSTAT_GOOD_RUN d) (if mag e ≤ lock then min 255 (s.fget (F.PTP_DSTAT_GOOD_RUN d) + 1) else 0)
  s.domSet d (fun x => { x with
    bad := if 4 * lock < mag e then x.bad + 1 else 0
    beyond := if s.stepLimit < mag x.off then x.beyond + 1 else 0 })

/-- The states of R414. -/
def State.sampleState (s : State) (d : Nat) : State :=
  match s.domState d with
  | 1 => if 8 ≤ s.fget (F.PTP_DSTAT_GOOD_RUN d) then (s.domSet d (fun x => { x with bad := 0 })).domGo d 2 else s.ptpStat
  | 2 => if 3 ≤ (s.dom d).bad then (s.fput (F.PTP_DSTAT_GOOD_RUN d) 0).domGo d 1 else s.ptpStat
  | 3 => s.domGo d 1
  | _ => s

/-- A sample of the active domain may call for a step (R418). -/
def State.sampleStep (s : State) (d : Nat) : State :=
  if s.actDom = some d ∧ s.steered = false ∧ s.ptp.steps = [] then
    if s.timeInvalid || s.ptp.fromNone || (decide (3 ≤ (s.dom d).beyond) && s.fget F.PTP_STEP_LIMIT_US != 0) then
      ((s.ptpSet (fun p => { p with fromNone := false })).domSet d (fun x => { x with beyond := 0 })).stepPlan (s.dom d).offNs true
    else s
  else s

/-- The write of MO_HId commits the sample. -/
def State.sampleCommit (s : State) (d : Nat) (hi : Word) : State :=
  let t := s.pair (R.PTP_MT_LO d) (R.PTP_MT_HI d)
  let o : Int := (BitVec.ofNat 64 ((s.rd (R.PTP_MO_LO d)).toNat + hi.toNat * 2 ^ 32)).toInt
  if s.badSample d t then s.flag F.PTP_FAULT_BAD_SAMPLE
  else
    let grow := s.cyclesSince t * ((s.dom d).freq - s.rate)
    let e := o * offUnit - ((s.dom d).off - grow)
    (((s.estimate d t e grow).sampleCounts d e).sampleState d).sampleStep d

/-- HOLDOVER: HOLD_S seconds of monotonic time without a sample; an AUTO switch may follow (R417). -/
def execHoldover (d : Fin 2) (s : State) : Host.Outcome State Fault Refusal :=
  s.whenLive fun s =>
    if s.domState d == 1 || s.domState d == 2 then
      let s := s.reachMono ((s.dom d).lastMono + max 1 (s.fget (F.PTP_HOLD_S_S d)) * 1000000000)
      let s := (s.domGo d 3).raise Pg.PTP Ev.PTP_HOLDOVER
      if s.actDom = some d.val ∧ s.fset F.PTP_ACT_AUTO = true ∧ s.switchable (1 - d) = true then s.switchTo (1 - d) else s
    else s

/-- SLEW_DONE: the absolute offset has fallen to LOCK_NS. -/
def execSlewDone (s : State) : Host.Outcome State Fault Refusal :=
  s.whenLive fun s =>
    match s.actDom with
    | none => s
    | some d =>
      if s.ptp.slewing && decide (mag (s.dom d).off ≤ s.lockNs d * offUnit) then
        (s.ptpSet (fun p => { p with slewing := false })).raise Pg.PTP Ev.PTP_SLEW_DONE
      else s

/-- ACT.SLEWING: the offset is slewed out at the full SLEW_PPM rate (R415). -/
def State.slewingNow (s : State) : Bool :=
  match s.actDom with
  | some d => s.corr != 0 && decide (mag (s.corrOf d) > (s.slewPpm * 1000000 : Nat))
  | none => false

/-- The write of STEP_CMD_HI commits a step. -/
def State.stepCmd (s : State) (hi : Word) : State :=
  if s.fget F.PTP_ACT_SEL ≠ 0 then s.flag F.PTP_FAULT_STEP_REF
  else s.stepPlan (BitVec.ofNat 64 ((s.rd R.PTP_STEP_CMD_LO).toNat + hi.toNat * 2 ^ 32)).toInt true

def execStepCmd (req : Req) (hi : Word) (s : State) : Host.Outcome State Fault Refusal := s.regCmd req R.PTP_STEP_CMD_HI (fun s => s.stepCmd hi)

/-! ### The schedule table (R424 to R427) -/

def schedAddr (k w : Nat) : Nat := 0x10C60000 + 32 * k + 8 * w
def State.schedWord (s : State) (k w : Nat) : Word64 := s.readWord (schedAddr k w)
def State.schedPut (s : State) (k w v : Nat) : State := s.storeWord (schedAddr k w) (BitVec.ofNat 64 v)
def State.schedOn (s : State) (k : Nat) : Bool := (s.schedWord k 2).getLsbD 0
def State.schedOwner (s : State) (k : Nat) : Nat := bits64 (s.schedWord k 2) 7 2
def State.schedMissed (s : State) (k : Nat) : Nat := bits64 (s.schedWord k 2) 47 32

/-- Word 2 from its fields. -/
def schedWord2 (en log : Bool) (owner missed : Nat) (skipped done : Bool) : Nat :=
  boolNat en + 2 * boolNat log + 4 * (owner % 64) + 2 ^ 32 * (missed % 65536) + 2 ^ 48 * boolNat skipped + 2 ^ 49 * boolNat done

/-- Entry `k` fires for its nominal instant `t`, with `missed` occurrences passed over (R426, R427). -/
def State.schedFire (s : State) (k t missed : Nat) (skipped : Bool) : State :=
  let period := (s.schedWord k 1).toNat
  let log := (s.schedWord k 2).getLsbD 1
  let owner := s.schedOwner k
  let miss := min 0xFFFF (s.schedMissed k + missed)
  let s := (s.schedPut k 3 t).setBit (R.PTP_SCHED_PEND (k / 32)) (k % 32) true
  let s := (s.raise Pg.PTP Ev.PTP_SCHED).trigger 5 k 0 skipped
  let s := if log then s.noteOf owner Pg.PTP Ev.PTP_SCHED (natLe 2 k ++ natLe 8 t ++ [BitVec.ofNat 8 (boolNat skipped)]) else s
  if period = 0 then s.schedPut k 2 (schedWord2 false log owner miss skipped true)
  else (s.schedPut k 2 (schedWord2 true log owner miss skipped false)).schedPut k 0 (t + period)

/-- SCHEDULE_FIRE: module time reaches T_NEXT of an armed entry. -/
def execScheduleFire (entry : Fin 256) (s : State) : Host.Outcome State Fault Refusal :=
  s.whenLive fun s =>
    if s.schedOn entry then
      let t := (s.schedWord entry 0).toNat
      s.atInstant t fun s => s.schedFire entry t 0 false
    else s

/-- A forward step from `a` to `b` crosses entry `k`. -/
def State.schedCross (s : State) (k a b : Nat) : State :=
  let t := (s.schedWord k 0).toNat
  if s.schedOn k = true ∧ a < t ∧ t ≤ b then
    let period := (s.schedWord k 1).toNat
    let c := if period = 0 then 1 else (b - t) / period + 1
    s.schedFire k (t + (c - 1) * period) (c - 1) true
  else s

/-- Who reaches entry `k` (R424, R464). -/
def State.schedGrant (s : State) (req : Req) (k : Nat) : Bool :=
  match svcCore req with
  | none => req == .ac0 || req == .ac1
  | some _ => match s.session req with | none => false | some 0 => true | some n => s.schedOwner k == n

/-- A granted 64-bit store to word 0, 1 or 2 of entry `k`. -/
def State.schedWrite (s : State) (k w : Nat) (v : Word64) : State :=
  let bad := s.flag F.PTP_FAULT_BAD_WRITE
  if w < 2 then (if s.schedOn k then bad else s.schedPut k w v.toNat)
  else
    let on := s.schedOn k
    let en := v.getLsbD 0
    let p := (s.schedWord k 1).toNat
    if en && !on && (decide (1 ≤ p ∧ p < 1000000) || decide ((s.schedWord k 0).toNat ≤ (s.schedWord k 3).toNat)) then bad
    else
      let old := s.schedWord k 2
      let fresh := en && !on
      s.schedPut k 2 (schedWord2 en (v.getLsbD 1) (bits64 v 7 2) (if fresh then 0 else s.schedMissed k)
        (!fresh && old.getLsbD 48) (!fresh && old.getLsbD 49))

/-- A store to word 2 in the cycle of the entry's instant: the firing uses the word from before the store (R429). -/
def State.schedCatch (s : State) (k : Nat) : State :=
  let t := (s.schedWord k 0).toNat
  if s.schedOn k = true ∧ t ≤ s.now ∧ s.stepDue = false then s.schedFire k t 0 false else s

/-- SCHEDULE_ENTRY_STORE. Word 3 takes no store, a tenant does not change OWNER, and on a standby module only BEL stores (R484). -/
def State.schedStore (s : State) (req : Req) (k w : Nat) (v : Word64) : State :=
  if !s.schedGrant req k then (if (svcCore req).isSome then s.memRefuse req true 4 k (schedAddr k w) else s.memFault req true (schedAddr k w))
  else if w = 3 ∨ s.standby = true ∨ (w = 2 ∧ s.comp0 req = false ∧ bits64 v 7 2 ≠ s.schedOwner k) then s.memFault req true (schedAddr k w)
  else { (if w = 2 then s.schedCatch k else s).schedWrite k w v with resp := .data 0 }

def execScheduleEntryStore (req : Req) (entry : Fin 256) (word : Fin 4) (data : Word64) (s : State) : Host.Outcome State Fault Refusal :=
  s.whenAwake fun s => s.schedStore req entry word data

/-! ### A step of module time (R419, R428) -/

/-- Release instants of cyclic task `t` before module time `x`. -/
def State.releasesBefore (s : State) (t x : Nat) : Nat :=
  let p := s.periodNs t
  let o := s.offsetNs t
  if x ≤ o ∨ p = 0 then 0 else (x - o - 1) / p + 1

/-- R246 for task `t`: a forward step up to `b` that crosses the instants from `a` on, or a backward step. Instants that are no releases are not counted
(R222, R248). -/
def State.taskStepped (s : State) (t : Nat) (forward : Bool) (a b : Nat) : State :=
  let x := s.task t
  if !s.fset (F.TASK_TCFG_EN t) then s
  else if !forward then s.taskSet t (fun x => { x with backStep := true, dueAt := 0 })
  else if isCyclic t && s.fset F.TASK_STAT_RELEASE_OK && s.isActive && !x.clearAtPub && decide (x.notBefore ≤ s.monoNow) then
    let c := s.releasesBefore t (b + 1) - s.releasesBefore t (max a (max x.lastRel x.dueAt + 1))
    if c = 0 then s else s.taskSet t (fun x => { x with skipped := min 0xFFFF (x.skipped + c), stepped := true })
  else s

/-- R516 for the point summaries. -/
def State.sumStepped (s : State) (a b : Nat) : State :=
  if s.fset F.CAIRN_STAT_SUMMIT && s.isActive then
    let s := s.cairnSet (fun c => { c with sumStepped := true })
    if a < b ∧ s.cairn.sumEnd ≤ b then (s.sumClose b).sumOpenAt b true true else s
  else s

/-- PPS_OUT rises (R48). -/
def State.ppsPulse (s : State) : State :=
  if s.timeInvalid then s else { s with pins := { s.pins with ppsRise := some s.monoNow } }

/-- PPS_OUT is high. -/
def State.ppsHigh (s : State) : Bool := match s.pins.ppsRise with | some t => decide (s.monoNow < t + 100000) | none => false

/-- A pending LOAD_SEC is cancelled by a step. -/
def State.cancelLoadSec (s : State) : State :=
  match s.rtc.loadSec with
  | none => s
  | some _ => ((s.rtcSet (fun r => { r with loadSec := none })).fput F.RTC_STAT_PENDING 0).note Pg.RTC noBit [0]

/-- The consequences of a step from `a` to `b` in the blocks of R428; `from_` is the first instant that had not passed before it. -/
def State.stepBlocks (s : State) (from_ a b : Nat) : State :=
  let s := (List.range taskCount).foldl (fun s t => s.taskStepped t (decide (a < b)) from_ b) (s.raise Pg.TASK Ev.TASK_STEP)
  let s := ((s.loopStepped).nrgStepped (decide (a < b))).mfpStepped
  let s := if a < b then (List.range 256).foldl (fun s k => s.schedCross k a b) s else s
  let s := if a < b ∧ a / 1000000000 < b / 1000000000 then s.ppsPulse else s
  (s.sumStepped a b).cancelLoadSec

/-- Module time and every follower are stepped by `amount`. -/
def State.stepTime (s : State) (amount : Int) : State :=
  let shift (x : Dom) : Dom := { x with off := x.off - amount * offUnit, lastTs := ((x.lastTs : Int) + amount).toNat }
  let s : State := { s with mt := s.mt + BitVec.ofInt 96 (amount * 2 ^ 32) }
  let s : State := { s with instMin := if 0 < amount then s.now + 1 else 0 }
  s.ptpSet (fun p => { p with doms := p.doms.map shift, lastStep := s.now })

/-- Steps 2 to 5 of R419. -/
def State.stepApply (s : State) (amount : Int) (clears : Bool) : State :=
  let a := s.now
  let from_ := s.instFrom
  let s := s.stepTime amount
  let s := ((s.put64 R.PTP_STEP_AT_LO a).put64 R.PTP_STEP_NS_LO (BitVec.ofInt 64 amount).toNat).countSat R.PTP_STEP_COUNT 1
  let s := if clears then s.clearTimeInvalid else s
  let s := ((s.raise Pg.PTP Ev.PTP_STEP).stepBlocks from_ a s.now).ptpStat
  s.note Pg.PTP Ev.PTP_STEP (natLe 8 a ++ le64i amount)

/-! ### Time of the pair (R483) -/

/-- Every instant that monotonic time has given moves with it, so that ages stay; the checkpoint period and the holdover timeout start again. -/
def State.monoLoad (s : State) (t : Nat) : State :=
  let d : Int := (t : Int) - s.monoNow
  let f (n : Nat) : Nat := ((n : Int) + d).toNat
  let o (n : Option Nat) : Option Nat := n.map f
  { s with
    mono := BitVec.ofNat 96 ((s.mono.toNat : Int) + d * 2 ^ 32).toNat
    points := s.points.map (fun e => (e.1, { e.2 with inst := f e.2.inst, held := e.2.held.map (fun h => (h.1, h.2.1, f h.2.2)) }))
    forces := s.forces.map (fun e => (e.1, { e.2 with setMono := f e.2.setMono }))
    tasks := s.tasks.map (fun e => (e.1, { e.2 with trig := e.2.trig.map (fun x => { x with mono := f x.mono }), notBefore := f e.2.notBefore, holdUntil := f e.2.holdUntil, relMono := f e.2.relMono, latchMono := f e.2.latchMono }))
    loops := s.loops.map (fun e => (e.1, { e.2 with lastMono := o e.2.lastMono, dueMono := f e.2.dueMono, notBefore := f e.2.notBefore }))
    lio := { s.lio with heldMono := f s.lio.heldMono, resMono := f s.lio.resMono, notBefore := f s.lio.notBefore }
    ochg := { s.ochg with limit := f s.ochg.limit }
    mfp := { s.mfp with
      discAt := s.mfp.discAt.map o
      stations := s.mfp.stations.map (fun e => (e.1, { e.2 with waitEnd := f e.2.waitEnd, inits := e.2.inits.map (fun i => { i with inst := f i.inst }) })) }
    mtr := { s.mtr with
      vch := s.mtr.vch.map (fun v => { v with last := o v.last, prev := v.prev.map (fun p => (f p.1, p.2)) })
      cals := s.mtr.cals.map (fun e => (f e.1, e.2))
      circs := s.mtr.circs.map (fun e => (e.1, { e.2 with
        openMono := f e.2.openMono, closed := e.2.closed.map (fun c => { c with mono := f c.mono })
        win := e.2.win.map (fun c => { c with mono := f c.mono, smp := c.smp.map (fun p => (p.1.map (fun x => (f x.1, x.2)), p.2.map (fun x => (f x.1, x.2)))) }) })) }
    nrg := { s.nrg with lastSave := f s.nrg.lastSave, circs := s.nrg.circs.map (fun e => (e.1, { e.2 with openMono := f e.2.openMono })) }
    ptp := { s.ptp with doms := s.ptp.doms.map (fun x => { x with lastMono := t }) }
    net := { s.net with
      fdb := s.net.fdb.map (fun e => (e.1, (e.2.1, f e.2.2)))
      eg := s.net.eg.map (fun l => l.map (fun e => { e with at_ := f e.at_ })), busy := s.net.busy.map f
      storm := s.net.storm.map (fun l => l.map f), uniq := s.net.uniq.map (fun l => l.map f), hsr := s.net.hsr.map (fun h => { h with at_ := f h.at_ }) }
    cmpt := { s.cmpt with sessions := s.cmpt.sessions.map (fun e => (e.1, { e.2 with lastUse := f e.2.lastUse })) }
    trigs := s.trigs.map (fun x => { x with mono := f x.mono })
    upd := { s.upd with limit := f s.upd.limit, trialFrom := f s.upd.trialFrom, sentAt := s.upd.sentAt.map f }
    trust := { s.trust with chal := s.trust.chal.map (fun c => (c.1, f c.2)) }
    pins := { s.pins with ppsRise := o s.pins.ppsRise }
    sup := { s.sup with ppsInMono := o s.sup.ppsInMono }
    bel := { s.bel with
      ckptAt := t, idAt := f s.bel.idAt, roleAt := f s.bel.roleAt, lockAt := s.bel.lockAt.map f, due := f s.bel.due
      hbIn := s.bel.hbIn.map (fun h => { h with at_ := f h.at_ }), hbOut := s.bel.hbOut.map (fun h => { h with mono := f h.mono })
      foreign := s.bel.foreign.map (fun x => (f x.1, x.2)), swapFrom := f s.bel.swapFrom, retryAt := o s.bel.retryAt, swap := o s.bel.swap
      aliveAt := f s.bel.aliveAt, downAt := o s.bel.downAt, seen := { s.bel.seen with mono := f s.bel.seen.mono } } }

/-- The alignment at the start of RESYNC, in one cycle: module time is stepped to the active module's, and monotonic time is loaded from it, both from the
latest heartbeat, its way over the link and the time since. A module that is no longer standby takes nothing. -/
def State.align (s : State) : State :=
  match s.bel.hbIn with
  | none => s
  | some h =>
    if !s.steered then s
    else
      let since := s.monoNow - h.at_ + s.fget F.BEL_LINK_DLY_NS
      let amount : Int := ((h.mt + since : Nat) : Int) - s.now
      let s := if amount = 0 then s else s.stepApply amount false
      let s := if h.mono + since = s.monoNow then s else s.monoLoad (h.mono + since)
      if h.tinv = s.timeInvalid then s else s.setTimeInvalid h.tinv

/-- And its plan, 10 µs ahead (R37, R419). -/
def State.alignPlan (s : State) : State :=
  s.ptpSet (fun p => { p with steps := p.steps ++ [{ at_ := s.now + 10000, amount := 0, clears := false, align := true }] })

/-- The step `p` is applied at its STEP_AT. -/
def State.stepAt (s : State) (p : PStep) : State := let s := s.reach p.at_; if p.align then s.align else s.stepApply p.amount p.clears

/-- The oldest step decided; a SEL write that waited for it is judged then. -/
def State.timeStep (s : State) : State :=
  match s.ptp.steps with
  | [] => s
  | p :: l =>
    let s := (s.ptpSet (fun x => { x with steps := l })).stepAt p
    match s.ptp.selWait, l with
    | some n, [] => (s.ptpSet (fun x => { x with selWait := none })).selWrite n
    | _, _ => s

/-- The steps that are still to come before an alignment, and the alignment (R483: no copy unit is applied before it). -/
def State.aligned (s : State) : Nat → State
  | 0 => s
  | n + 1 => if s.ptp.steps.any (·.align) then s.timeStep.aligned n else s

/-- The steps that fall due no later than now, applied before what comes of the same cycle (R429). -/
def State.dueSteps (s : State) : Nat → State
  | 0 => s
  | n + 1 => if s.stepDue then s.timeStep.dueSteps n else s

/-- A write of MO_HId: a step of the same cycle is applied first (R429). -/
def State.sampleWrite (s : State) (d : Nat) (hi : Word) : State := (s.dueSteps s.ptp.steps.length).sampleCommit d hi

def execPtpSampleCommit (req : Req) (d : Fin 2) (hi : Word) (s : State) : Host.Outcome State Fault Refusal :=
  s.regCmd req (R.PTP_MO_HI d) (fun s => s.sampleWrite d hi)

/-- TIME_STEP. -/
def execTimeStep (s : State) : Host.Outcome State Fault Refusal := s.whenLive State.timeStep

/-! ### PPS (R48) -/

/-- PPS_OUT_PULSE: module time crosses the next whole second. -/
def execPpsOutPulse (s : State) : Host.Outcome State Fault Refusal :=
  s.whenLive fun s => (s.reach (firstInstant 1000000000 0 (max 1 s.instFrom))).ppsPulse

/-- PPS_IN: a rising edge; at most one is accepted in 100 µs. -/
def execPpsIn (s : State) : Host.Outcome State Fault Refusal :=
  s.whenLive fun s =>
    let early := match s.sup.ppsInMono with | some t => decide (s.monoNow < t + 100000) | none => false
    if early then s
    else
      let s : State := { s with sup := { s.sup with ppsInMono := some s.monoNow } }
      ((s.put64 R.PTP_PPS_IN_LO s.now).countWrap R.PTP_PPS_IN_COUNT 1).raise Pg.PTP Ev.PTP_PPS_IN

end Sys2Proof.Machine
end

