-- ==== Sys2Proof/Machine/Net.lean ====
section
/-! DEFINITION. The switch, the MACs and the hosted services (15 R435 to R460). -/
namespace Sys2Proof.Machine

def State.netSet (s : State) (f : Net → Net) : State := { s with net := f s.net }

/-! ### Ports (R435, R436, R459) -/

def State.portLink (s : State) (p : Nat) : Bool := s.fset (F.MAC_STAT_LINK p)

/-- SFPn_TXDIS follows ENABLE, SFPn_PRES_n and SFPn_TXFLT, and is high in sleep. -/
def State.txdis (s : State) (n : Nat) : State :=
  let v := !s.enabled (Pg.MAC n) || !s.fset (F.MAC_STAT_SFP_PRES n) || s.fset (F.MAC_STAT_SFP_TXFLT n) || s.sup.asleep
  { s with pins := { s.pins with sfpTxdis := s.pins.sfpTxdis.setIfInBounds n v } }

/-- The clock of the port runs: CK_ETH10 for 10GBASE-R, CK_ETH1 for the rest (R30, R41). -/
def State.portClock (s : State) (p : Nat) : Bool := !s.bit R.CLK_LOST (if p < 2 ∧ s.fget (F.MAC_MODE_MODE p) = 0 then 6 else 7)

/-- The port can hold a link. -/
def State.linkable (s : State) (p : Nat) : Bool :=
  s.enabled (Pg.MAC p) && !s.sup.asleep && s.portClock p && (decide (2 ≤ p) || (s.fset (F.MAC_STAT_SFP_PRES p) && !s.fset (F.MAC_STAT_SFP_LOS p)))

/-! ### Time stamps (R421, R422) -/

/-- MODE of a MAC: 0 10GBASE-R, 1 1000BASE-X, 2 1000BASE-T. -/
def State.portMode (s : State) (p : Nat) : Nat := if 2 ≤ p then 2 else s.fget (F.MAC_MODE_MODE p)

/-- Ingress and egress corrections of a mode, in 0.1 ns. -/
def ingressCorr (mode : Nat) : Nat := if mode = 0 then 592 else if mode = 1 then 1520 else 3680
def egressCorr (mode : Nat) : Nat := if mode = 0 then 448 else if mode = 1 then 1200 else 2160

/-- The follower counter of a MAC: CK_ETH10 for 10GBASE-R, CK_ETH1 for the rest (R36). -/
def State.ethDomain (s : State) (p : Nat) : Nat := if s.portMode p = 0 then 6 else 7

/-- Receive and transmit stamps of port `p`, corrected, from the reading `t` of its follower. -/
def State.rxStamp (s : State) (p t : Nat) : Nat :=
  (((t : Int) * 10 - ingressCorr (s.portMode p)) / 10 - sgn16 (s.fget (F.PTP_PORT_ADJ_INGR p))).toNat
def State.txStamp (s : State) (p t : Nat) : Nat :=
  (((t : Int) * 10 + egressCorr (s.portMode p)) / 10 + sgn16 (s.fget (F.PTP_PORT_ADJ_EGR p))).toNat

/-- The transmit stamp of a frame that starts at monotonic time `mono`. -/
def State.txStampAt (s : State) (p mono : Nat) : Nat × State :=
  let (t, s) := s.followerAt (s.ethDomain p) ((mono : Int) + s.mtOff).toNat
  (s.txStamp p t, s)

/-! ### Frames -/

/-- Length from destination address to FCS. -/
def frameLength (f : EthFrame) : Nat := 18 + f.data.length + (if f.tag.isSome then 4 else 0) + (if f.hsr.isSome then 6 else 0)
def frameMax (f : EthFrame) : Nat := if f.hsr.isSome then 1528 else 1522

/-- Big-endian bytes. -/
def natBe (n v : Nat) : List Byte := (natLe n v).reverse
def beNat (b : List Byte) : Nat := leNat b.reverse

/-- The frame as it lies in a buffer, without FCS and HSR tag. -/
def frameBytes (f : EthFrame) : List Byte :=
  natBe 6 f.dst.toNat ++ natBe 6 f.src.toNat ++ (match f.tag with | some t => [0x81, 0x00] ++ natBe 2 t.toNat | none => []) ++ natBe 2 f.etype.toNat ++ f.data

/-- The frame that lies in a buffer. -/
def frameOf (b : List Byte) : EthFrame :=
  let dst := BitVec.ofNat 48 (beNat (b.take 6))
  let src := BitVec.ofNat 48 (beNat ((b.drop 6).take 6))
  if beNat ((b.drop 12).take 2) = 0x8100 then
    { dst := dst, src := src, tag := some (BitVec.ofNat 16 (beNat ((b.drop 14).take 2))), hsr := none,
      etype := BitVec.ofNat 16 (beNat ((b.drop 16).take 2)), data := b.drop 18, fcsOk := true }
  else { dst := dst, src := src, tag := none, hsr := none, etype := BitVec.ofNat 16 (beNat ((b.drop 12).take 2)), data := b.drop 14, fcsOk := true }

/-- A group address: broadcast or multicast. -/
def isGroup (a : BitVec 48) : Bool := a.getLsbD 40
/-- 01-80-C2-00-00-00 to 01-80-C2-00-00-0F. -/
def isReserved (a : BitVec 48) : Bool := a.toNat / 16 == 0x0180C200000
def isPause (f : EthFrame) : Bool := f.etype == 0x8808

/-- Where the PTP message starts in the data of an event or general message: Ethernet, UDP over IPv4, UDP over IPv6. -/
def ptpAt (f : EthFrame) : Option Nat :=
  if f.etype = 0x88F7 then some 0
  else
    let udp (h : Nat) : Option Nat := let d := beNat ((f.data.drop (h + 2)).take 2); if d = 319 ∨ d = 320 then some (h + 8) else none
    if f.etype = 0x0800 ∧ byteOf f.data 9 = 17 then udp (byteOf f.data 0 % 16 * 4)
    else if f.etype = 0x86DD ∧ byteOf f.data 6 = 17 then udp 40
    else none

/-- Bytes of a list replaced from position `i` on. -/
def putAt (l : List Byte) (i : Nat) (b : List Byte) : List Byte := l.take i ++ b ++ l.drop (i + b.length)

/-- The ones' complement sum of 16-bit words, and a checksum updated for words that changed. -/
def fold16 (n : Nat) : Nat := let a := n / 65536 + n % 65536; a / 65536 + a % 65536
def words16 : List Byte → List Nat
  | a :: b :: l => (a.toNat * 256 + b.toNat) :: words16 l
  | _ => []
def checksumUpdate (c : Nat) (old new : List Byte) : Nat :=
  65535 - fold16 (fold16 ((65535 - c) + ((words16 old).map (65535 - ·)).foldl (· + ·) 0 + (words16 new).foldl (· + ·) 0))

/-- A one-step Sync, Delay_Req, Pdelay_Req or Pdelay_Resp takes its residence time, in ns, into the correctionField (R442). -/
def correct (f : EthFrame) (residence : Nat) : EthFrame :=
  match ptpAt f with
  | none => f
  | some i =>
    let kind := byteOf f.data i % 16
    let twoStep := (f.data.getD (i + 6) 0).getLsbD 1
    if 4 ≤ kind ∨ (twoStep = true ∧ (kind = 0 ∨ kind = 3)) then f
    else
      let old := (f.data.drop (i + 8)).take 8
      let new := natBe 8 (beNat old + residence * 65536)
      let d := putAt f.data (i + 8) new
      if f.etype = 0x0800 then { f with data := putAt d (i - 2) [0, 0] }
      else if f.etype = 0x86DD then { f with data := putAt d (i - 2) (natBe 2 (checksumUpdate (beNat ((d.drop (i - 2)).take 2)) old new)) }
      else { f with data := d }

/-! ### VLANs and learned addresses (R439, R458) -/

def State.vlanData (s : State) (vid : Nat) : Word :=
  if 1 ≤ vid ∧ vid ≤ 4094 then tabGet (fun v => if v = 1 then 0x1F1F else 0) s.net.vlans vid else 0
def State.vlanMember (s : State) (vid p : Nat) : Bool := (s.vlanData vid).getLsbD p
def State.vlanUntag (s : State) (vid p : Nat) : Bool := (s.vlanData vid).getLsbD (8 + p)

/-- A write of VLAN_DATA. -/
def State.vlanWrite (s : State) (v : Word) : State :=
  let vid := s.fget F.SW_VLAN_SEL_VID
  if 1 ≤ vid ∧ vid ≤ 4094 then
    s.netSet (fun n => { n with vlans := tabSet (fun k => if k = 1 then (0x1F1F : Word) else 0) n.vlans vid (v &&& 0x1F1F) })
  else s

/-- VID of a frame at ingress port `p`: its tag's, or the port's PVID for an untagged or priority-tagged frame. -/
def State.vidOf (s : State) (p : Nat) (f : EthFrame) : Nat :=
  match f.tag with
  | some t => if t.toNat % 4096 = 0 then s.fget (F.SW_PVID_VID p) else t.toNat % 4096
  | none => s.fget (F.SW_PVID_VID p)
def State.pcpOf (s : State) (p : Nat) (f : EthFrame) : Nat := match f.tag with | some t => t.toNat / 8192 | none => s.fget (F.SW_PVID_PCP p)

def fdbKey (vid : Nat) (a : BitVec 48) : Nat := vid * 2 ^ 48 + a.toNat
def fdbSize : Nat := 8192
def State.fdbSet (s : State) (t : Tab (Nat × Nat)) : State := (s.netSet (fun n => { n with fdb := t })).fput F.SW_FDB_CNT_COUNT t.length

def State.ageS (s : State) : Nat := max 10 (s.fget F.SW_AGE_S)

/-- Entries whose time is over are gone before a new source is learned (R457). -/
def State.fdbTidy (s : State) : State :=
  if s.net.fdb.all (fun e => decide (s.monoNow < e.2.2 + s.ageS * 1000000000)) then s
  else s.fdbSet (s.net.fdb.filter (fun e => decide (s.monoNow < e.2.2 + s.ageS * 1000000000)))

/-- Port `p` learns the source of a frame. -/
def State.learn (s : State) (p vid : Nat) (a : BitVec 48) : State :=
  let k := fdbKey vid a
  let s := s.fdbTidy
  if isGroup a then s
  else if (tabFind s.net.fdb k).isSome || decide (s.net.fdb.length < fdbSize) then s.fdbSet (tabPut s.net.fdb k (p, s.monoNow))
  else s.raise Pg.SW Ev.SW_FDB_FULL

/-- The entry that has had no traffic for longest. -/
def oldestEntry (t : Tab (Nat × Nat)) : Option (Nat × Nat × Nat) :=
  t.foldl (fun m e => match m with | some x => if e.2.2 < x.2.2 then some e else some x | none => some e) none

/-- FDB_AGE_OUT: AGE seconds without traffic. -/
def execFdbAgeOut (s : State) : Host.Outcome State Fault Refusal :=
  s.whenAwake fun s =>
    match oldestEntry s.net.fdb with
    | none => s
    | some (k, _, t) => let s := s.reachMono (t + s.ageS * 1000000000); s.fdbSet (tabDel s.net.fdb k)

/-- A write of FDB_FLUSH. -/
def State.fdbFlush (s : State) (v : Word) : State :=
  if v.getLsbD 31 then s.fdbSet [] else s.fdbSet (s.net.fdb.filter (fun e => !v.getLsbD e.2.1))

def execFdbFlushAll (req : Req) (s : State) : Host.Outcome State Fault Refusal := s.regCmd req R.SW_FDB_FLUSH (fun s => s.fdbFlush 0x80000000)

def execFdbFlushPorts (req : Req) (ports : BitVec 5) (s : State) : Host.Outcome State Fault Refusal :=
  s.regCmd req R.SW_FDB_FLUSH (fun s => s.fdbFlush (ports.zeroExtend 32))

/-! ### P4: the receive ring (R443, R446) -/

def State.mac4Base (s : State) (lo hi : Nat) : Nat := s.pair lo hi
def idxDiff (a b : Nat) : Nat := (a + 131072 - b % 131072) % 131072
/-- In service memory (R23). -/
def inP4Memory (a n : Nat) : Bool := decide (0x210000000 ≤ a ∧ a + n ≤ 0x300000000)

/-- A frame for P4 finds no entry, or no buffer long enough. -/
def State.rxOverflow (s : State) : State := (s.countSat R.MAC4_RX_OVF 1).raise Pg.MAC4 Ev.MAC4_RX_OVF

/-- A frame in the switch: ingress port, VID, PCP of its tag, queue (R438), corrected ingress stamp, and the way to a free port's pin in ns. -/
structure Ingress where
  port : Nat
  vid : Nat
  pcp : Nat
  queue : Nat
  stamp : Nat
  transit : Nat
deriving DecidableEq, Repr

/-- A frame goes to P4, within 6 µs and without waiting (log entry 61). -/
def State.toP4 (s : State) (g : Ingress) (f : EthFrame) : State :=
  if !s.enabled Pg.MAC4 then s
  else
    let wr := s.fget F.MAC4_RX_WR_INDEX
    let size := s.fget F.MAC4_RX_SIZE_ENTRIES
    let keep := f.tag.isSome && !s.vlanUntag g.vid 4
    let b := frameBytes (if keep then f else { f with tag := none })
    let d := s.mac4Base R.MAC4_RX_BASE_LO R.MAC4_RX_BASE_HI + 32 * (wr % size)
    let buf := s.le d 8
    if size ≤ idxDiff wr (s.fget F.MAC4_RX_RD_INDEX) || decide (s.le (d + 8) 2 < b.length) then s.rxOverflow
    else if !inP4Memory buf b.length then (s.sysFault .switch true 0 buf).rxOverflow
    else
      let flags := 1 + 2 * boolNat keep + 4 * boolNat f.hsr.isSome
      let s := s.putBytes .switch buf b
      let s := s.putBytes .switch (d + 10) (natLe 2 b.length ++ natLe 1 g.port ++ natLe 1 flags ++ natLe 2 (g.pcp * 8192 + g.vid) ++ natLe 8 g.stamp ++ natLe 8 0)
      let s := s.fput F.MAC4_RX_WR_INDEX (wr + 1)
      if max 1 (s.fget F.MAC4_RX_WM_LEVEL) ≤ idxDiff (wr + 1) (s.fget F.MAC4_RX_RD_INDEX) then s.raise Pg.MAC4 Ev.MAC4_RX_WM else s

/-! ### Egress -/

def State.hsrOn (s : State) : Bool := s.enabled Pg.SW && s.fset F.SW_MODE_HSR
def State.portState (s : State) (p : Nat) : Nat := (s.rd R.SW_PORT_STATE).toNat / 4 ^ p % 4
/-- A ring port of HSR: PORT_STATE is ignored for it. -/
def State.ringPort (s : State) (p : Nat) : Bool := s.hsrOn && decide (p < 2)
def State.forwards (s : State) (p : Nat) : Bool := p == 4 || s.ringPort p || s.portState p == 3
def State.learns (s : State) (p : Nat) : Bool := p == 4 || s.ringPort p || decide (2 ≤ s.portState p)

/-! ### Retiring a transmit descriptor (R443, R444) -/

def State.txDesc (s : State) (i : Nat) : Nat := s.mac4Base R.MAC4_TX_BASE_LO R.MAC4_TX_BASE_HI + 32 * (i % s.fget F.MAC4_TX_SIZE_ENTRIES)

/-- TX_RD advances over the descriptors that are retired. -/
def State.txAdvance (s : State) : Nat → State
  | 0 => s
  | n + 1 =>
    let rd := s.fget F.MAC4_TX_RD_INDEX
    if s.net.txDone.contains rd then
      (((s.netSet (fun x => { x with txDone := x.txDone.erase rd })).fput F.MAC4_TX_RD_INDEX (rd + 1)).raise Pg.MAC4 Ev.MAC4_TX_DONE).txAdvance n
    else s

/-- Descriptor `i` is written back and retired. -/
def State.txRetire (s : State) (i status ts : Nat) : State :=
  let d := s.txDesc i
  let s := (s.putBytes .switch (d + 12) (natLe 1 status)).putBytes .switch (d + 16) (natLe 8 ts)
  (s.netSet (fun n => { n with txDone := n.txDone ++ [i] })).txAdvance 65536

def stNetSent : Nat := 1
def stNetLate : Nat := 2
def stNetDropped : Nat := 3
def stNetRefused : Nat := 4
def stLinkDown : Nat := 5

def lqSize : Nat := 64
def State.lqOf (s : State) (p : Nat) : List LqEnt := s.net.lq.toList.getD p []
def State.lqPut (s : State) (p : Nat) (l : List LqEnt) : State :=
  (s.netSet (fun n => { n with lq := n.lq.setIfInBounds p l })).fput (F.MAC_LQ_FILL_COUNT p) l.length

/-- By LAUNCH, ties in arrival order. -/
def lqInsert (e : LqEnt) : List LqEnt → List LqEnt
  | [] => [e]
  | x :: l => if e.launch < x.launch then e :: x :: l else x :: lqInsert e l

/-! ### Egress queues (R438) -/

/-- A frame leaves on port `p`. -/
def State.wire (s : State) (p : Nat) (f : EthFrame) : State :=
  (s.countWrap (R.MAC_TX_FRAMES p) 1).netSet (fun n => { n with out := n.out.setIfInBounds p (some f) })

def State.egOf (s : State) (p : Nat) : List EgEnt := s.net.eg.toList.getD p []
def State.busyTo (s : State) (p : Nat) : Nat := s.net.busy.toList.getD p 0

/-- ns that the port needs for a frame, with preamble and gap. -/
def State.wireNs (s : State) (p : Nat) (f : EthFrame) : Nat :=
  let n := 8 * (frameLength f + 20)
  if s.portMode p = 0 then (n + 9) / 10 else n

/-- Bytes of packet memory: what each egress port is guaranteed, and the rest, which is shared. -/
def portMemory : Nat := 0x20000
def sharedMemory : Nat := 0x200000 - 5 * portMemory
def State.egBytes (s : State) (p : Nat) : Nat := (s.egOf p).foldl (fun n e => n + frameLength e.frame) 0

/-- A frame of `n` bytes for port `p` finds memory. -/
def State.egRoom (s : State) (p n : Nat) : Bool :=
  let used (q : Nat) : Nat := s.egBytes q + (if q = p then n else 0)
  decide (used p ≤ portMemory) || decide (([0, 1, 2, 3].map (fun q => used q - portMemory)).sum ≤ sharedMemory)

/-- The frame that port `p` starts next, and the time at which the choice falls: when the port is free and a frame is there, the highest queue's oldest. -/
def State.egNext (s : State) (p : Nat) : Option (EgEnt × Nat) :=
  match s.egOf p with
  | [] => none
  | e :: l =>
    let t := max (s.busyTo p) ((l.map (·.at_)).foldl min e.at_)
    let here := (e :: l).filter (fun x => decide (x.at_ ≤ t))
    (((List.range 8).reverse).findSome? (fun k => here.find? (fun x => x.queue == k))).map (fun x => (x, t))

/-- Monotonic time of the first launch that waits at port `p`. -/
def State.nextLaunch (s : State) (p : Nat) : Option Nat := (s.lqOf p).head?.map (fun x => ((x.launch : Int) - s.mtOff).toNat)

/-- The frame would still run at the next launch time (R423). -/
def State.egHeld (s : State) (p from_ : Nat) (f : EthFrame) : Bool :=
  match s.nextLaunch p with
  | some l => decide (l < from_ + s.wireNs p f)
  | none => false

/-- A frame starts at the pin at monotonic time `from_`. -/
def State.egStart (s : State) (p from_ : Nat) (e : EgEnt) : State :=
  let s := s.netSet (fun n => { n with eg := n.eg.setIfInBounds p ((s.egOf p).erase e), busy := n.busy.setIfInBounds p (from_ + s.wireNs p e.frame) })
  let (ts, s) := s.txStampAt p from_
  let s := s.wire p (match e.ingress with | some t => correct e.frame (ts - t) | none => e.frame)
  match e.idx with
  | none => s
  | some i =>
    if !e.tsReq then s.txRetire i stNetSent 0
    else if e.many then (let (v, s) := s.draw; s.txRetire i stNetSent v.toNat)
    else s.txRetire i stNetSent ts

/-- Port `p` sends what it can have sent by now, at most `fuel` frames. -/
def State.portRun (s : State) (p : Nat) : Nat → State
  | 0 => s
  | fuel + 1 =>
    match s.egNext p with
    | none => s
    | some (e, t) =>
      let from_ := max t (e.at_ + e.transit)
      if s.monoNow < t || s.egHeld p from_ e.frame then s else (s.egStart p from_ e).portRun p fuel

/-- Every port sends what it can have sent by now. -/
def State.netRun (s : State) : State := [0, 1, 2, 3].foldl (fun s p => s.portRun p (s.egOf p).length) s

/-- A frame for port `p`: it waits in its queue, or finds no memory. -/
def State.enqueue (s : State) (p : Nat) (e : EgEnt) : State :=
  if !s.portLink p then (match e.idx with | some i => s.txRetire i stLinkDown 0 | none => s)
  else if s.egRoom p (frameLength e.frame) then
    (s.netSet (fun n => { n with eg := n.eg.setIfInBounds p (s.egOf p ++ [e]) })).portRun p ((s.egOf p).length + 1)
  else
    let s := s.countSat R.SW_DROP 1
    match e.idx with | some i => s.txRetire i stNetRefused 0 | none => s

/-- The frames that wait at port `p` are discarded and counted; those that a descriptor sent retire with `status`. -/
def State.egDiscard (s : State) (p status : Nat) (counted : Bool) : State :=
  let l := s.egOf p
  let s := s.netSet (fun n => { n with eg := n.eg.setIfInBounds p [] })
  l.foldl (fun s e =>
    let s := if counted then s.countSat R.SW_DROP 1 else s
    match e.idx with | some i => s.txRetire i status 0 | none => s) s

/-- The frame as port `p` sends it: tagged or untagged by the untagged mask, with the HSR tag on the ring. -/
def State.dress (s : State) (p : Nat) (g : Ingress) (hsr : Option (BitVec 16)) (f : EthFrame) : EthFrame :=
  { f with tag := if s.vlanUntag g.vid p then none else some (BitVec.ofNat 16 (g.pcp * 8192 + g.vid)), hsr := if s.ringPort p then hsr else none }

/-- The transparent clock corrects frames between P0 and P3 (R442). -/
def State.clocked (s : State) (p : Nat) : Bool := s.fset F.SW_MODE_TC_EN && !s.hsrOn && decide (p < 4)

/-- The frame goes out of port `q`, of P0 to P3, if it has a link. -/
def State.egress (s : State) (q : Nat) (g : Ingress) (hsr : Option (BitVec 16)) (f : EthFrame) : State :=
  s.enqueue q { queue := g.queue, frame := s.dress q g hsr f, at_ := s.monoNow, transit := g.transit, ingress := if s.clocked g.port then some g.stamp else none }

/-- Ports to which the tables send a frame of `vid` from port `p`. -/
def State.targets (s : State) (p vid : Nat) (f : EthFrame) : List Nat :=
  let all := (List.range 5).filter (fun q => q != p && s.vlanMember vid q && s.forwards q)
  if isGroup f.dst then all
  else match tabFind s.net.fdb (fdbKey vid f.dst) with
    | some (q, _) => all.filter (· == q)
    | none => all

/-- The frame goes to each of these ports. -/
def State.spread (s : State) (g : Ingress) (hsr : Option (BitVec 16)) (f : EthFrame) (ts : List Nat) : State :=
  ts.foldl (fun s q => if q = 4 then s.toP4 g f else s.egress q g hsr f) s

/-- A frame from P2, P3 or P4 for the ring takes one sequence number and goes to both ring ports (R441). -/
def State.ringTargets (s : State) (ts : List Nat) : List Nat :=
  if s.hsrOn && ts.any (decide <| · < 2) then [0, 1] ++ ts.filter (decide <| 2 ≤ ·) else ts

/-- A frame is forwarded by the tables. -/
def State.forward (s : State) (g : Ingress) (f : EthFrame) : State :=
  let ts := s.ringTargets (s.targets g.port g.vid f)
  if s.hsrOn && ts.contains 0 then
    (s.netSet (fun n => { n with hsrSeq := (n.hsrSeq + 1) % 65536 })).spread g (some (BitVec.ofNat 16 s.net.hsrSeq)) f ts
  else s.spread g none f ts

/-! ### HSR (R441) -/

def hsrWindow : Nat := 400000000

/-- An address of the module itself or of a node behind P2, P3 or P4. -/
def State.ownAddress (s : State) (vid : Nat) (a : BitVec 48) : Bool :=
  let base := (s.rd R.SW_MAC_BASE_LO).toNat + (s.rd R.SW_MAC_BASE_HI).toNat % 65536 * 2 ^ 32
  decide (base ≤ a.toNat ∧ a.toNat < base + 8) || (match tabFind s.net.fdb (fdbKey vid a) with | some (q, _) => decide (2 ≤ q) | none => false)

/-- Entries that are matched and older than 400 ms are gone. -/
def State.hsrTidy (s : State) : State :=
  s.netSet (fun n => { n with hsr := n.hsr.filter (fun e => !e.matched || decide (s.monoNow ≤ e.at_ + hsrWindow)) })

/-- The first copy is accepted and kept; a second within 400 ms is discarded and counted. -/
def State.hsrTake (s : State) (p : Nat) (src : BitVec 48) (seq : BitVec 16) : Bool × State :=
  let s := s.hsrTidy
  let same (e : HsrEnt) : Bool := e.src == src.toNat && e.seq == seq.toNat && decide (s.monoNow ≤ e.at_ + hsrWindow)
  if s.net.hsr.any same then
    let mark (e : HsrEnt) : HsrEnt := if same e && e.port != p then { e with matched := true } else e
    (false, (s.netSet (fun n => { n with hsr := n.hsr.map mark })).countSat R.SW_HSR_DUP 1)
  else
    let known := (s.net.hsr.map (·.src)).eraseDups
    if known.contains src.toNat || decide (known.length < 4096) then
      (true, s.netSet (fun n => { n with hsr := n.hsr ++ [{ src := src.toNat, seq := seq.toNat, port := p, at_ := s.monoNow, matched := false }] }))
    else (true, s)


/-- HSR_FAULT when a count has grown by at least 16 within one second. -/
def State.uniqCount (s : State) (p : Nat) : State :=
  let times := (s.net.uniq.toList.getD p []).filter (fun t => decide (s.monoNow ≤ t + 1000000000)) ++ [s.monoNow]
  let s := (s.netSet (fun n => { n with uniq := n.uniq.setIfInBounds p times })).countSat (if p = 0 then R.SW_HSR_UNIQ0 else R.SW_HSR_UNIQ1) 1
  if 16 ≤ times.length then s.raise Pg.SW Ev.SW_HSR_FAULT else s

/-- HSR_UNIQ: 400 ms after the oldest frame that was seen on one ring port only. -/
def execHsrUniq (s : State) : Host.Outcome State Fault Refusal :=
  s.whenAwake fun s =>
    match s.net.hsr.find? (fun e => !e.matched) with
    | none => s
    | some e =>
      let s := s.reachMono (e.at_ + hsrWindow)
      (s.netSet (fun n => { n with hsr := n.hsr.erase e })).uniqCount e.port

/-! ### Reception (R437 to R442) -/

/-- A broadcast or multicast frame is within the storm limit of its port, or is dropped. -/
def State.stormOk (s : State) (p : Nat) (f : EthFrame) : Bool × State :=
  let lim := s.fget F.SW_STORM_LIMIT
  if lim = 0 || !isGroup f.dst then (true, s)
  else
    let times := (s.net.storm.toList.getD p []).filter (fun t => decide (s.monoNow < t + 1000000))
    if lim ≤ times.length then (false, (s.netSet (fun n => { n with storm := n.storm.setIfInBounds p times })).raise Pg.SW Ev.SW_STORM)
    else (true, s.netSet (fun n => { n with storm := n.storm.setIfInBounds p (times ++ [s.monoNow]) }))

/-- A frame that counts in RX_ERR: a bad FCS, a runt or a frame too long. -/
def rxBad (f : EthFrame) : Bool := !f.fcsOk || decide (frameLength f < 64) || decide (frameMax f < frameLength f)

/-- A frame from ring port `p`: one that the module itself sent is removed, a second copy is discarded, and one addressed elsewhere is passed on. -/
def State.ringRx (s : State) (g : Ingress) (f : EthFrame) : State :=
  match f.hsr with
  | none => s
  | some seq =>
    if s.ownAddress g.vid f.src || !s.vlanMember g.vid g.port then s
    else
      let (fresh, s) := s.hsrTake g.port f.src seq
      let (calm, s) := if fresh then s.stormOk g.port f else (false, s)
      if !calm then s
      else
        let s := s.learn g.port g.vid f.src
        let s := if s.ownAddress g.vid f.dst then s else s.egress (1 - g.port) g f.hsr f
        s.spread g none f ((s.targets g.port g.vid f).filter (decide <| 2 ≤ ·))

/-- A good frame from P2, P3, or from P0, P1 without HSR. A DISABLED port receives nothing (R440). -/
def State.bridgeRx (s : State) (g : Ingress) (f : EthFrame) : State :=
  let p := g.port
  let toCpu := s.portState p == 1 || s.portState p == 2
  if isReserved f.dst then (if s.portState p = 0 then s else s.toP4 g f)
  else if !s.vlanMember g.vid p then s
  else
    let (ok, s) := s.stormOk p f
    if !ok then s
    else
      let s := if s.learns p then s.learn p g.vid f.src else s
      if s.forwards p then s.forward g f
      else if toCpu && (ptpAt f).isSome then s.toP4 g f else s

/-- The queue of a frame: 7 for PTP, else its PCP (R438). -/
def queueOf (f : EthFrame) (pcp : Nat) : Nat := if (ptpAt f).isSome then 7 else pcp

/-- What the switch knows of a frame that has come in now. -/
def State.ingressOf (s : State) (p transit : Nat) (f : EthFrame) : Ingress × State :=
  let (t, s) := s.follower (s.ethDomain p)
  let pcp := s.pcpOf p f
  ({ port := p, vid := s.vidOf p f, pcp := pcp, queue := queueOf f pcp, stamp := s.rxStamp p t, transit := transit }, s)

/-- A frame is complete at port `port`. -/
def State.ethRx (s : State) (port : Nat) (frame : EthFrame) (transit : Nat) : State :=
  if rxBad frame then (s.countSat (R.MAC_RX_ERR port) 1).raise (Pg.MAC port) Ev.MAC_RX_ERR
  else
    let s := s.countWrap (R.MAC_RX_FRAMES port) 1
    if !s.enabled Pg.SW || isPause frame then s
    else
      let (g, s) := s.ingressOf port transit frame
      if s.ringPort port then (if isReserved frame.dst then s.toP4 g frame else s.ringRx g frame) else s.bridgeRx g frame

/-- ETH_FRAME_RX: a frame is complete at P0 to P3; `transit` is what it takes from here to the pin of a free egress port, in ns (R437). -/
def execEthFrameRx (port : Fin 4) (frame : EthFrame) (transit : Nat) (s : State) : Host.Outcome State Fault Refusal :=
  s.whenAwake fun s =>
    let s := s.netRun
    if s.portLink port then s.ethRx port frame transit else s

/-! ### P4: the transmit ring (R443 to R445) -/

/-- A write of TX_WR: not backward, and not beyond the ring size. -/
def State.mac4TxWr (s : State) (v : Nat) : State :=
  let rd := s.fget F.MAC4_TX_RD_INDEX
  let d := idxDiff v rd
  if idxDiff (s.fget F.MAC4_TX_WR_INDEX) rd ≤ d ∧ d ≤ s.fget F.MAC4_TX_SIZE_ENTRIES then s.fput F.MAC4_TX_WR_INDEX v else s.flag F.MAC4_FAULT_BAD_WRITE

/-- A write of RX_RD: not backward, and not beyond RX_WR. -/
def State.mac4RxRd (s : State) (v : Nat) : State :=
  let rd := s.fget F.MAC4_RX_RD_INDEX
  if idxDiff v rd ≤ idxDiff (s.fget F.MAC4_RX_WR_INDEX) rd then s.fput F.MAC4_RX_RD_INDEX v else s.flag F.MAC4_FAULT_BAD_WRITE

def execMac4TxWrWrite (req : Req) (index : BitVec 17) (s : State) : Host.Outcome State Fault Refusal :=
  s.regCmd req R.MAC4_TX_WR (fun s => s.mac4TxWr index.toNat)

def execMac4RxRdWrite (req : Req) (index : BitVec 17) (s : State) : Host.Outcome State Fault Refusal :=
  s.regCmd req R.MAC4_RX_RD (fun s => s.mac4RxRd index.toNat)

/-- The ports of a direct frame: on the ring both (R444). -/
def State.directPorts (s : State) (ports : List Nat) : List Nat :=
  if s.hsrOn && ports.any (decide <| · < 2) then [0, 1] ++ ports.filter (decide <| 2 ≤ ·) else ports

/-- A sequence number for a frame that goes to the ring. -/
def State.hsrNumber (s : State) (ports : List Nat) : BitVec 16 × State :=
  if s.hsrOn && ports.any (decide <| · < 2) then (BitVec.ofNat 16 s.net.hsrSeq, s.netSet (fun n => { n with hsrSeq := (n.hsrSeq + 1) % 65536 }))
  else (0, s)

def State.hsrTag (s : State) (p : Nat) (seq : BitVec 16) (f : EthFrame) : EthFrame := { f with hsr := if s.ringPort p then some seq else none }

/-- Direct transmission: the descriptor retires with the copy of the first port that has a link. The stamp of a frame for several ports, but for the
ring's two, is a free value (log entry 9). -/
def State.sendDirect (s : State) (i queue : Nat) (tsReq : Bool) (ports : List Nat) (f : EthFrame) : State :=
  let ps := (s.directPorts ports).filter s.portLink
  let (seq, s) := s.hsrNumber ps
  let (v, s) := s.draw
  let many := decide (1 < ports.length) && !(s.hsrOn && ports.all (decide <| · < 2))
  ps.zipIdx.foldl (fun s e =>
    s.enqueue e.1 { queue := queue, frame := s.hsrTag e.1 seq f, at_ := s.monoNow, transit := v.toNat % 4001, idx := if e.2 = 0 then some i else none,
                    tsReq := tsReq, many := many }) s

/-- A frame from P4 that the tables forward: it takes the PCP of its descriptor. -/
def State.fromP4 (s : State) (pcp : Nat) (f : EthFrame) : State :=
  let f := if f.tag.isSome then f else { f with tag := some (BitVec.ofNat 16 (pcp * 8192 + s.fget (F.SW_PVID_VID 4))) }
  let vid := s.vidOf 4 f
  if !s.enabled Pg.SW || !s.vlanMember vid 4 || isReserved f.dst then s
  else
    let (ok, s) := s.stormOk 4 f
    let (v, s) := s.draw
    if ok then (s.learn 4 vid f.src).forward { port := 4, vid := vid, pcp := s.pcpOf 4 f, queue := queueOf f pcp, stamp := 0, transit := v.toNat % 4001 } f
    else s

/-- Its descriptor retires as it is forwarded; a stamp that it asks for is a free value (log entry 9). -/
def State.txForwarded (s : State) (i : Nat) (tsReq : Bool) : State :=
  if tsReq then (let (v, s) := s.draw; s.txRetire i stNetSent v.toNat) else s.txRetire i stNetSent 0

/-- MAC4_TX_DESCRIPTOR: MAC4 takes the next descriptor that has been handed over. -/
def State.txTake (s : State) : State :=
  let i := s.net.txNext
  let d := s.txDesc i
  let buf := s.le d 8
  let len := s.le (d + 8) 2
  let ports := (List.range 4).filter (fun p => (s.byte (d + 10)).getLsbD p)
  let flags := s.byte (d + 11)
  let launch := s.le (d + 16) 8
  let tsReq := flags.getLsbD 0
  let s := s.netSet (fun n => { n with txNext := (n.txNext + 1) % 131072 })
  let tagged := decide (beNat (s.bytesAt (buf + 12) 2) = 0x8100)
  if len < 60 ∨ (if tagged then 1518 else 1514) < len then s.txRetire i stNetRefused 0
  else if !inP4Memory buf len then (s.sysFault .switch false 0 buf).txRetire i stNetRefused 0
  else
    let f := frameOf (s.bytesAt buf len)
    if launch ≠ 0 then
      match ports with
      | [p] =>
        if lqSize ≤ (s.lqOf p).length then s.txRetire i stNetRefused 0
        else if !s.portLink p then s.txRetire i stLinkDown 0
        else s.lqPut p (lqInsert { launch := launch, idx := i, dropLate := flags.getLsbD 1, both := s.ringPort p, pcp := flags.toNat / 16 % 8, frame := f } (s.lqOf p))
      | _ => s.txRetire i stNetRefused 0
    else
      let pcp := flags.toNat / 16 % 8
      match ports with
      | [] => (s.fromP4 pcp f).txForwarded i tsReq
      | _ => if (s.directPorts ports).any s.portLink then s.sendDirect i (queueOf f pcp) tsReq ports f else s.txRetire i stLinkDown 0

def execMac4TxDescriptor (s : State) : Host.Outcome State Fault Refusal :=
  s.whenAwake fun s => if s.enabled Pg.MAC4 && s.net.txNext != s.fget F.MAC4_TX_WR_INDEX then s.netRun.txTake else s

/-- The instant at which a DROP_LATE frame is dropped. -/
def State.lqLimit (s : State) (p : Nat) (e : LqEnt) : Nat := e.launch + s.fget (F.MAC_LQ_CFG_MAX_LATE_US p) * 1000

/-- The frame has not started in time. -/
def State.lqDrop (s : State) (p : Nat) (e : LqEnt) : State :=
  ((s.lqPut p ((s.lqOf p).erase e)).countSat (R.MAC_TX_DROP_LATE p) 1).txRetire e.idx stNetDropped 0

/-- The launched frame starts at monotonic time `from_`; on the ring the other port sends it too. -/
def State.lqStart (s : State) (p from_ : Nat) (e : LqEnt) : State :=
  let ps := s.directPorts [p]
  let (seq, s) := s.hsrNumber ps
  let (ts, s) := s.txStampAt (if e.both then 0 else p) from_
  let f := s.hsrTag p seq e.frame
  let s := (s.netSet (fun n => { n with busy := n.busy.setIfInBounds p (from_ + s.wireNs p f) })).wire p f
  let s := (ps.filter (· != p)).foldl (fun s q =>
    s.enqueue q { queue := queueOf e.frame e.pcp, frame := s.hsrTag q seq e.frame, at_ := s.monoNow, transit := 0 }) s
  if e.launch + 50 < s.now then ((s.countSat (R.MAC_TX_LATE p) 1).raise (Pg.MAC p) Ev.MAC_TX_LATE).txRetire e.idx stNetLate ts
  else s.txRetire e.idx stNetSent ts

/-- ETH_LAUNCH: the head of the launch queue reaches its launch time, within the ±50 ns of R423: `jitter` counts in ns from 50 ns before it, to 100 at most.
It leaves when its port is free. -/
def execEthLaunch (port : Fin 4) (jitter : Nat) (s : State) : Host.Outcome State Fault Refusal :=
  s.whenAwake fun s =>
    match s.lqOf port with
    | [] => s
    | e :: l =>
      let s := (s.reach (e.launch - 50 + min jitter 100)).netRun
      let limit := s.monoNow + (s.lqLimit port e - s.now)
      if e.dropLate && decide (limit ≤ s.busyTo port ∨ limit ≤ s.monoNow) then (s.reachMono limit).lqDrop port e
      else
        let s := s.reachMono (s.busyTo port)
        (s.lqPut port l).lqStart port s.monoNow e

/-- ETH_DROP_LATE: the limit of the first DROP_LATE frame in the queue comes. -/
def execEthDropLate (port : Fin 4) (s : State) : Host.Outcome State Fault Refusal :=
  s.whenAwake fun s =>
    match (s.lqOf port).find? (·.dropLate) with
    | none => s
    | some e => (s.reach (s.lqLimit port e)).lqDrop port e

/-! ### Links (R436, R441) -/

/-- The link of port `p` becomes `up`; a loss is recorded (R40). -/
def State.linkSet (s : State) (p : Nat) (up : Bool) : State :=
  if s.portLink p = up then s
  else
    let s := ((s.fput (F.MAC_STAT_LINK p) (boolNat up)).setBit (R.BLK_STAT Pg.SW) p up).raise (Pg.MAC p) Ev.MAC_LINK_CHG
    let s := s.raise Pg.SW Ev.SW_LINK_CHG
    if up then s
    else
      let s := s.note (Pg.MAC p) Ev.MAC_LINK_CHG [BitVec.ofNat 8 p]
      let es := s.lqOf p
      let s := es.foldl (fun s e => s.txRetire e.idx stLinkDown 0) (s.lqPut p [])
      let s := s.egDiscard p stLinkDown false
      if s.ringPort p then s.raise Pg.SW Ev.SW_HSR_FAULT else s

def execEthLinkChange (port : Fin 4) (up : Bool) (s : State) : Host.Outcome State Fault Refusal :=
  s.whenAwake fun s => if up && !s.linkable port then s else s.netRun.linkSet port up

/-- SFP_CHG: the levels of SFPn_PRES_n, LOS and TXFLT. -/
def execSfpChg (cage : Fin 2) (present los txFault : Bool) (s : State) : Host.Outcome State Fault Refusal :=
  s.whenLive fun s =>
    let same := s.fset (F.MAC_STAT_SFP_PRES cage) == present && s.fset (F.MAC_STAT_SFP_LOS cage) == los && s.fset (F.MAC_STAT_SFP_TXFLT cage) == txFault
    if same then s
    else
      let s := ((s.fput (F.MAC_STAT_SFP_PRES cage) (boolNat present)).fput (F.MAC_STAT_SFP_LOS cage) (boolNat los)).fput (F.MAC_STAT_SFP_TXFLT cage) (boolNat txFault)
      let s := (s.raise (Pg.MAC cage) Ev.MAC_SFP_CHG).txdis cage
      if s.linkable cage then s else s.linkSet cage false

/-- The PHY of P2 and P3 is powered while its MAC is enabled, but not in sleep. -/
def State.phyPower (s : State) (p : Nat) : State :=
  if 2 ≤ p then { s with pins := { s.pins with phyOn := s.pins.phyOn.setIfInBounds (p - 2) (s.enabled (Pg.MAC p) && !s.sup.asleep) } } else s.txdis p

/-- ENABLE of MACn changed. -/
def State.macEnabled (s : State) (p : Nat) : State := let s := s.phyPower p; if s.linkable p then s else s.linkSet p false

/-- Every port is down in sleep. -/
def State.netSleep (s : State) : State := [0, 1, 2, 3].foldl (fun s p => (s.phyPower p).linkSet p false) s

/-! ### The SW and MAC pages (R458 to R460) -/

/-- ENABLE of SW changed. -/
def State.swStat (s : State) : State := s.fput F.SW_STAT_HSR (boolNat s.hsrOn)

/-- A write of PORT_STATE: a port that leaves FORWARDING discards the frames that wait for it (R457). -/
def State.portStateWrite (s : State) (v : Word) : State :=
  let s := s.netRun
  let old := s.forwards
  let s := s.wr R.SW_PORT_STATE (v &&& 0xFF)
  [0, 1, 2, 3].foldl (fun s p => if old p && !s.forwards p then s.egDiscard p stNetRefused true else s) s

/-- A write of MODE, AGE or PVIDp: only while ENABLE is 0. -/
def State.swIdleWrite (s : State) (k : Nat) (v : Word) : State := if s.enabled Pg.SW then s.flag F.SW_FAULT_BAD_WRITE else s.wr k v

/-- A write of MACn.MODE. -/
def State.macModeWrite (s : State) (n : Nat) (v : Word) : State :=
  let m := fieldOf (F.MAC_MODE_MODE n) v
  if s.enabled (Pg.MAC n) || decide (2 ≤ m) then s.flag (F.MAC_FAULT_BAD_WRITE n) else s.wr (R.MAC_MODE n) (v &&& 0x13)

def ringSizeOk (n : Nat) : Bool := [64, 128, 256, 512, 1024, 2048, 4096, 8192, 16384, 32768, 65536].contains n

/-- The rings of MAC4 may be enabled (R443). -/
def State.mac4Ok (s : State) : Bool :=
  let rx := s.mac4Base R.MAC4_RX_BASE_LO R.MAC4_RX_BASE_HI
  let tx := s.mac4Base R.MAC4_TX_BASE_LO R.MAC4_TX_BASE_HI
  let nr := s.fget F.MAC4_RX_SIZE_ENTRIES
  let nt := s.fget F.MAC4_TX_SIZE_ENTRIES
  ringSizeOk nr && ringSizeOk nt && rx % 4096 == 0 && tx % 4096 == 0 && inP4Memory rx (32 * nr) && inP4Memory tx (32 * nt)

/-- BLK_STAT of MAC4 follows ENABLE. -/
def State.mac4Stat (s : State) : State :=
  (s.fput F.MAC4_STAT_RX_RUN (boolNat (s.enabled Pg.MAC4))).fput F.MAC4_STAT_TX_RUN (boolNat (s.enabled Pg.MAC4))

/-- A write of a BASE or SIZE register: only while ENABLE is 0. -/
def State.mac4IdleWrite (s : State) (k : Nat) (v : Word) : State := if s.enabled Pg.MAC4 then s.flag F.MAC4_FAULT_BAD_WRITE else s.wr k v

/-! ### The command exchange (R447, R464) -/

def cmdAddr (k : Nat) : Nat := 0x10E80000 + 32 * k

/-- The store is admitted: compartment 0, or the owner of the slot and of the PID. -/
def State.cmdGrant (s : State) (req : Req) (k pid : Nat) : Bool :=
  match svcCore req, s.session req with
  | some _, some 0 => true
  | some _, some n => tabGet (fun _ => 0) s.ownCommands k == n && tabGet (fun _ => 0) s.ownPoints pid == n
  | _, _ => false

/-- A 64-bit store to word 0 of command slot `k`. -/
def State.cmdStore (s : State) (req : Req) (k : Nat) (w : Word64) : State :=
  if s.cmdGrant req k (bits64 w 15 0) then
    let comp := (s.session req).getD 0
    { s.storeWords (cmdAddr k) [w, BitVec.ofNat 64 s.now, BitVec.ofNat 64 comp] with resp := .data 0 }
  else s.memRefuse req true 5 k (cmdAddr k)

def execCommandExchangeStore (req : Req) (slot : Fin 8192) (word : Word64) (s : State) : Host.Outcome State Fault Refusal :=
  s.whenAwake fun s => s.cmdStore req slot word

/-! ### Services of the reference firmware (R450 to R453) -/

def credBase : Nat := 0x200000000

/-- Addresses of credentials that hold a byte other than 0. -/
def State.credentials (s : State) : List Nat :=
  ((s.mem.filter (fun c => decide (credBase ≤ c.1 ∧ c.1 < credBase + 64 * 65536))).map (fun c => c.1 / 64 * 64)).eraseDups

/-- The credential of these data. -/
def State.credential (s : State) (data : List Byte) : Option Nat :=
  let key := (natLe 32 (Config.shake256 data).toNat).take 16
  s.credentials.find? (fun a => s.bytesAt a 16 == key)

/-- PIN digits as the hash takes them. -/
def pinHash (key : List Byte) (pin : BitVec 32) : List Byte := (natLe 32 (Config.shake256 (key ++ natBe 4 pin.toNat)).toNat).take 8

/-- REASON of an access decision; where several hold, the lowest that denies (log entry 33). -/
def State.accessReason (s : State) (r : AccessRequest) : Nat :=
  if !r.loaded || !s.fset F.SYS_STAT_DRAM_READY then 7
  else match s.credential r.data with
    | none => 1
    | some a =>
      let flags := s.byte (a + 42)
      if s.now < s.le (a + 16) 8 ∨ s.le (a + 24) 8 < s.now then 2
      else if !(s.byte (a + 32 + r.door / 8)).getLsbD (r.door % 8) then 3
      else if !r.scheduleOk then 4
      else if flags.getLsbD 0 && (match r.pin with | some p => s.bytesAt (a + 48) 8 != pinHash (s.bytesAt a 16) p | none => true) then 5
      else if flags.getLsbD 1 then 6
      else 0

/-- ACCESS_REQUEST: the answer, and one record with both stamps. -/
def execAccessRequest (r : AccessRequest) (s : State) : Host.Outcome State Fault Refusal :=
  s.whenAwake fun s =>
    if s.standby then s
    else
      let reason := s.accessReason r
      let ans := natLe 2 1 ++ natLe 2 r.reader.toNat ++ natLe 4 r.seq.toNat ++ natLe 1 (boolNat (reason == 0)) ++ natLe 1 reason
        ++ natLe 2 (if reason = 0 then r.unlockS.toNat else 0)
      let s := s.submit { cls := recClass Pg.SW noBit, sev := recSev Pg.SW noBit, comp := 0, fw := true, time := s.now,
                          payload := natLe 2 Pg.SW ++ natLe 2 noBit ++ ans ++ natLe 8 r.ingress.toNat ++ natLe 8 r.egress.toNat }
      { s with resp := .bytes ans }

def histHeader : Nat := 0x100000000
def histSize : Nat := 268435200
def histAddr (i : Nat) : Nat := 0x100001000 + 16 * (i % histSize)

/-- HISTORIAN_SAMPLE: the record of one trended point. -/
def State.histSample (s : State) (p : Nat) : State :=
  let v := s.seen p
  let t := s.now - s.viewAge v * 8192
  let wr := s.le histHeader 8
  let r := natLe 8 t ++ natLe 2 p ++ [BitVec.ofNat 8 (v.q % 4 + 4 * boolNat v.forced + 8 * boolNat v.skew), BitVec.ofNat 8 (tabGet (fun _ => 0) s.ownPoints p)]
    ++ natLe 4 v.value.toNat
  let s := s.storeWords (histAddr wr) (wordsOf 2 r)
  let first := if wr = 0 then t else if histSize ≤ wr then s.le (histAddr (wr + 1)) 8 else s.le (histHeader + 8) 8
  s.storeWords histHeader [BitVec.ofNat 64 (wr + 1), BitVec.ofNat 64 first]

def execHistorianSample (pid : Fin 12288) (s : State) : Host.Outcome State Fault Refusal :=
  s.whenAwake fun s => if s.standby || !s.fset F.SYS_STAT_DRAM_READY then s else s.histSample pid

end Sys2Proof.Machine
end

