-- ==== Sys2Proof/Machine/Cmpt.lean ====
section
/-! DEFINITION. Tenant sessions (16): the mailbox requests of the service cores, the switch of a core, and the end of a session. -/
namespace Sys2Proof.Machine

def State.cmptSet (s : State) (f : Cmpt → Cmpt) : State := { s with cmpt := f s.cmpt }

/-- CURc, ENTRYc and SWITCHES of service core `c`, 0 for AC2 and 1 for AC3. -/
def curReg (c : Nat) : Nat := if c = 0 then R.CMPT_CUR2 else R.CMPT_CUR3
def entryReg (c : Nat) : Nat := if c = 0 then R.CMPT_ENTRY2_LO else R.CMPT_ENTRY3_LO
def switchesFld (c : Nat) : Fld := if c = 0 then F.CMPT_SWITCHES_AC2 else F.CMPT_SWITCHES_AC3

/-- Handle of the session that service core `c` is in. -/
def State.coreHandle (s : State) (c : Nat) : Option Nat :=
  let v := (s.rd (curReg c)).toNat
  if v / 256 % 2 = 1 then some (v / 65536) else none

/-- Registers of a core that resumes in the state that CURc says: a0 the compartment or 0xFFFF_FFFF, a1 the handle, all others 0 (R469, steps 3 and 5). -/
def resumeRegs (w : Word) : Tab Word64 :=
  let put (t : Tab Word64) (k v : Nat) : Tab Word64 := tabSet (fun _ => (0 : Word64)) t k (BitVec.ofNat 64 v)
  put (put [] 10 (if w.getLsbD 8 then w.toNat % 64 else 0xFFFFFFFF)) 11 (w.toNat / 65536)

/-- Register `k` of service core `c`. -/
def State.coreReg (s : State) (c k : Nat) : Word64 := tabGet (fun _ => 0) (s.cmpt.core.toList.getD c []) k

/-- CURc as the anchor writes it: HANDLE and COMP are 0 in BASE, reserved bits are 0. -/
def curWord (v : Word) : Word := if v.getLsbD 8 then v &&& 0xFFFF013F else 0

/-- The anchor writes CURc (R469): the new state, SWITCHES, the reader context cleared (R508), and the core resumes at ENTRYc with its registers cleared but for a0 and a1. -/
def State.coreSwitch (s : State) (c : Nat) (v : Word) : State :=
  let w := curWord v
  let s := ((s.wr (curReg c) w).addSat (switchesFld c) 1).ctxClear (c + 2)
  let e := s.pair (entryReg c) (entryReg c + 4)
  { s with
    boot := { s.boot with entry := s.boot.entry.setIfInBounds (c + 2) e }
    cmpt := { s.cmpt with core := s.cmpt.core.setIfInBounds c (resumeRegs w) } }

/-- The word of CURc for a session. -/
def sessionWord (handle comp : Nat) : Word := BitVec.ofNat 32 (handle % 65536 * 65536 + 256 + comp % 64)

/-- ANC.BLK_STAT.SESSIONS. -/
def State.sessionsStat (s : State) : State := s.fput F.ANC_STAT_SESSIONS s.cmpt.sessions.length

/-- A core in the session leaves it for BASE (R470). -/
def State.evict (s : State) (handle c : Nat) : State :=
  if s.coreHandle c = some handle then (s.coreSwitch c 0).raise Pg.CMPT Ev.CMPT_SESSION_END else s

/-- A session ends (R467, R470): cores in it go to BASE, and after the last session of a tenant the wipe of its window starts. -/
def State.sessionEnd (s : State) (handle : Nat) : State :=
  match tabFind s.cmpt.sessions handle with
  | none => s
  | some x =>
    let s := (s.cmptSet (fun c => { c with sessions := tabDel c.sessions handle })).sessionsStat
    let s := (s.evict handle 0).evict handle 1
    if x.comp = 0 ∨ s.cmpt.sessions.any (fun e => e.2.comp == x.comp) then s
    else s.cmptSet (fun c => { c with wiping := x.comp :: c.wiping.filter (· != x.comp) })

/-- Every session ends, and every scratch window is cleared (R470). -/
def State.sessionsEnd (s : State) : State :=
  let s := s.cmpt.sessions.foldl (fun s e => s.sessionEnd e.1) s
  s.cmptSet (fun c => { c with wiping := (List.range 63).map (· + 1) })

/-- A record or a switch uses the session, and its idle time runs anew (log entry 22). -/
def State.sessionUse (s : State) (handle : Nat) : State :=
  match tabFind s.cmpt.sessions handle with
  | none => s
  | some x => s.cmptSet (fun c => { c with sessions := tabPut c.sessions handle { x with lastUse := s.monoNow } })

/-- First address of scratch window `n`, and its length (R464). -/
def scratchBase (n : Nat) : Nat := 0x2F0000000 + n * 0x400000
def scratchSize : Nat := 0x400000

/-- The range lies in service memory, the scratch area among it. -/
def inServiceAll (a n : Nat) : Bool := decide (0x210000000 ≤ a) && decide (a + n ≤ 0x300000000)

/-- The range lies where compartment `n` keeps its plain data (R471). -/
def inPlain (n a len : Nat) : Bool :=
  if n = 0 then inServiceAll a len else decide (scratchBase n ≤ a) && decide (a + len ≤ scratchBase n + scratchSize)

/-- Where destination offsets of plain data count from (log entry 22). -/
def plainBase (n : Nat) : Nat := if n = 0 then 0x210000000 else scratchBase n

/-! ### The requests (R467, R468, R471, R556) -/

/-- The first handle from `h` on that no session has. -/
def freeHandle (t : Tab Session) : Nat → Nat → Nat
  | 0, h => h
  | n + 1, h => if (tabFind t h).isSome then freeHandle t n (h % 65535 + 1) else h

/-- A session becomes live, bound to its compartment. -/
def State.sessionOpen (s : State) (l : HsLive) : Nat × State :=
  let (v, s) := s.draw
  let h := freeHandle s.cmpt.sessions 256 (v.toNat % 65535 + 1)
  let x : Session := { comp := l.comp.val, idle := l.idle.getD 300 * 1000000000, lastUse := s.monoNow }
  (h, (s.cmptSet (fun c => { c with sessions := tabPut c.sessions h x })).sessionsStat)

/-- The anchor answers handshake bytes: `reply` at the output address, and the handle when the session has become live (R467). -/
def State.handshake (s : State) (core src len out : Nat) (reply : List Byte) (live : Option HsLive) : State :=
  if !mboxRange core src len || !mboxRange core out reply.length then s.mboxEnd core mbBadRequest
  else
    match live with
    | none => (s.anchorWrite out reply).mboxDone core mbDone reply.length 0
    | some l =>
      if 256 ≤ s.cmpt.sessions.length then s.mboxEnd core mbRefused
      else
        let (h, s) := s.sessionOpen l
        (s.anchorWrite out reply).mboxDone core mbDone reply.length h

/-- Words of a request: an address, a length and a further word. -/
def dataArgs (a : Word64) (len x : Word) : List Word := [a.truncate 32, (a >>> 32).truncate 32, len, x]

/-- HS: mailbox request 0x20. The output address has the upper 32 bits of the input's (log entry 22). -/
def execHs (core : Fin 4) (src : Word64) (len out : Word) (reply : List Byte) (live : Option HsLive) (s : State) : Host.Outcome State Fault Refusal :=
  s.whenAwake fun s =>
    let ses := s.session (Req.ofCore core)
    s.mbox core 0x20 (dataArgs src len out) (ses == none || ses == some 0)
      (fun s => s.handshake core src.toNat len.toNat (src.toNat / 2 ^ 32 * 2 ^ 32 + out.toNat) reply live)

/-- ENTER with a handle (R468): what does not hold for good is REFUSED, what a wipe holds up is BUSY. -/
def State.enterSession (s : State) (core handle : Nat) : State :=
  match tabFind s.cmpt.sessions handle with
  | none => s.mboxEnd core mbRefused
  | some x =>
    if !s.isActive then s.mboxEnd core mbRefused
    else if x.comp != 0 && (!s.fset F.SYS_STAT_DRAM_READY || s.cmpt.wiping.contains x.comp) then s.mboxEnd core mbBusy
    else ((s.coreSwitch (core - 2) (sessionWord handle x.comp)).sessionUse handle).mboxEnd core mbDone

/-- ENTER: mailbox request 0x21. -/
def execEnter (core : Fin 4) (handle : Word) (s : State) : Host.Outcome State Fault Refusal :=
  s.whenAwake fun s => s.mbox core 0x21 [handle] (decide (2 ≤ core.val)) (fun s => s.enterSession core handle.toNat)

/-- LEAVE: mailbox request 0x22. -/
def execLeave (core : Fin 4) (s : State) : Host.Outcome State Fault Refusal :=
  s.whenAwake fun s => s.mbox core 0x22 [] (decide (2 ≤ core.val)) (fun s => (s.coreSwitch (core - 2) 0).mboxEnd core mbDone)

/-- CMPT_SWITCH: the anchor writes CURc of AC2 (core 0) or AC3 (core 1). -/
def execCmptSwitch (core : Fin 2) (value : Word) (s : State) : Host.Outcome State Fault Refusal :=
  s.whenAwake fun s => { s.coreSwitch core value with resp := .data 0 }

/-- OPEN and SEAL run in the session that the core is in; `f` gets its handle and compartment. -/
def State.inSession (s : State) (core : Nat) (f : Nat → Nat → State) : State :=
  match s.coreHandle (core - 2) with
  | none => s.mboxEnd core mbRefused
  | some h => f h ((s.session (Req.ofCore core)).getD 0)

/-- The record is moved to `dst`, or its failure or the end of the session answers ENDED (R471). -/
def State.moveRecord (s : State) (core handle : Nat) (inRange : Nat → Bool) (dst : Nat) (out : RecordOut) : State :=
  match out with
  | .bytes b => if inRange b.length then ((s.anchorWrite dst b).sessionUse handle).mboxEnd core mbDone else s.mboxEnd core mbBadRequest
  | .bad => (s.sessionEnd handle).mboxEnd core mbEnded
  | .ended => (s.sessionEnd handle).mboxEnd core mbEnded

/-- OPEN (R471): from service memory outside the scratch area to the compartment's own memory. -/
def State.openRecord (s : State) (core src len dst : Nat) (out : RecordOut) : State :=
  s.inSession core fun h n =>
    if inService src len then s.moveRecord core h (inPlain n (plainBase n + dst)) (plainBase n + dst) out else s.mboxEnd core mbBadRequest

/-- SEAL (R471): from the compartment's own memory to service memory outside the scratch area, at most 16 KiB. -/
def State.sealRecord (s : State) (core src len dst : Nat) (out : RecordOut) : State :=
  s.inSession core fun h n =>
    if inPlain n src len && decide (len ≤ 16384) then s.moveRecord core h (inService (0x210000000 + dst)) (0x210000000 + dst) out
    else s.mboxEnd core mbBadRequest

/-- OPEN: mailbox request 0x23. A failed record ends the session. -/
def execOpenRecord (core : Fin 4) (src : Word64) (len dst : Word) (out : RecordOut) (s : State) : Host.Outcome State Fault Refusal :=
  s.whenAwake fun s =>
    s.mbox core 0x23 (dataArgs src len dst) (decide (2 ≤ core.val)) (fun s => s.openRecord core src.toNat len.toNat dst.toNat out)

/-- SEAL: mailbox request 0x24. -/
def execSeal (core : Fin 4) (src : Word64) (len dst : Word) (out : RecordOut) (s : State) : Host.Outcome State Fault Refusal :=
  s.whenAwake fun s =>
    s.mbox core 0x24 (dataArgs src len dst) (decide (2 ≤ core.val)) (fun s => s.sealRecord core src.toNat len.toNat dst.toNat out)

/-- CLOSE is permitted from BASE and from the session's compartment (R556). -/
def State.mayClose (s : State) (core handle : Nat) : Bool :=
  match s.session (Req.ofCore core), tabFind s.cmpt.sessions handle with
  | some n, some x => n == x.comp
  | _, _ => true

/-- CLOSE: mailbox request 0x25. A handle that is not live is REFUSED. -/
def execClose (core : Fin 4) (handle : Word) (s : State) : Host.Outcome State Fault Refusal :=
  s.whenAwake fun s =>
    s.mbox core 0x25 [handle] (s.mayClose core handle.toNat) (fun s =>
      if (tabFind s.cmpt.sessions handle.toNat).isSome then (s.sessionEnd handle.toNat).mboxEnd core mbDone else s.mboxEnd core mbRefused)

/-- SESSION_IDLE_TIMEOUT: the idle time of a session has passed. -/
def execSessionIdleTimeout (handle : BitVec 16) (s : State) : Host.Outcome State Fault Refusal :=
  s.whenAwake fun s =>
    match tabFind s.cmpt.sessions handle.toNat with
    | none => s
    | some x => (s.reachMono (x.lastUse + x.idle)).sessionEnd handle.toNat

/-- SCRATCH_WIPE_DONE: window `n` holds zeros and ENTER for `n` is accepted again. -/
def execScratchWipeDone (n : Fin 64) (s : State) : Host.Outcome State Fault Refusal :=
  s.whenAwake fun s =>
    if s.cmpt.wiping.contains n.val then
      (s.wipe (fun a => decide (scratchBase n ≤ a) && decide (a < scratchBase n + scratchSize))).cmptSet
        (fun c => { c with wiping := c.wiping.filter (· != n.val) })
    else s

end Sys2Proof.Machine
end

