-- ==== Sys2Proof/Machine/BelOps.lean ====
section
/-! DEFINITION. The operations of a redundant pair (17): roles, the copy of state, resynchronisation, demotion and promotion, checkpoints. -/
namespace Sys2Proof.Machine

/-- ROLE.ROLE: 0 ALONE, 1 ACTIVE, 2 STANDBY, 3 WAIT; ROLE.PAIR: 0 NONE, 1 LINKING, 2 RESYNC, 3 SYNCED. -/
def State.role (s : State) : Nat := s.fget F.BEL_ROLE_ROLE
def State.pairState (s : State) : Nat := s.fget F.BEL_ROLE_PAIR

/-- LOCKn and UPn of lane `n`. -/
def laneLockFld (n : Nat) : Fld := if n = 0 then F.BEL_LANE_LOCK0 else F.BEL_LANE_LOCK1
def laneUpFld (n : Nat) : Fld := if n = 0 then F.BEL_LANE_UP0 else F.BEL_LANE_UP1
def laneErrFld (n : Nat) : Fld := if n = 0 then F.BEL_LANE_ERR_LANE0 else F.BEL_LANE_ERR_LANE1
def State.anyUp (s : State) : Bool := s.fset F.BEL_LANE_UP0 || s.fset F.BEL_LANE_UP1

/-- BLK_STAT follows role and pair state. -/
def State.belStat (s : State) : State :=
  let s := ((s.fput F.BEL_STAT_SYNCED (boolNat (s.pairState == 3))).fput F.BEL_STAT_PAIRED (boolNat (s.pairState != 0)))
  (s.fput F.BEL_STAT_STANDBY (boolNat s.standby)).fput F.BEL_STAT_SIDE (boolNat s.pins.sideB)

/-- Every change of role, lane or pair state is recorded. -/
def State.belNote (s : State) (bit : Nat) : State :=
  s.note Pg.BEL bit [BitVec.ofNat 8 s.role, BitVec.ofNat 8 s.pairState, BitVec.ofNat 8 (s.rd R.BEL_LANE).toNat]

/-- The pair state changes (R477, R487), with the event of R498. -/
def State.pairGo (s : State) (p : Nat) : State :=
  if s.pairState = p then s
  else
    let s := (s.fput F.BEL_ROLE_PAIR p).belStat
    let bit := match p with | 0 => Ev.BEL_PARTNER_LOST | 1 => Ev.BEL_PAIRED | 2 => Ev.BEL_RESYNC | _ => Ev.BEL_SYNCED
    let s := (s.raise Pg.BEL bit).belNote bit
    if p = 0 then s.belSet (fun b => { b with partner := none, swap := none, handing := false })
    else if p = 3 then
      let s := s.belSet (fun b => { b with swapFrom := s.monoNow, retryAt := none })
      if s.role = 2 ∧ s.fget F.CAIRN_STAT_MODE = 0 then s.cairnMode 1 else s
    else s

/-- A module of the pair reports to the blocks whether it is standby. -/
def State.roleStat (s : State) : State := ([0, 1, 2, 3].foldl (fun s n => s.canStat n) s).laneStat.mtrStat.nrgStat

def State.roleGo (s : State) (r : Nat) : State :=
  if s.role = r then s
  else ((s.fput F.BEL_ROLE_ROLE r).belStat.roleStat.belSet (fun b => { b with roleAt := s.monoNow })).belNote noBit

/-! ### What a change of role does to an update (R535) -/

/-- The update changes state: events and record. -/
def State.updGo (s : State) (st : Nat) : State :=
  if s.fget F.UPD_STAT_STATE = st then s
  else
    let s := ((s.fput F.UPD_STAT_STATE st).raise Pg.UPD Ev.UPD_STATE).raise Pg.ANC Ev.ANC_UPD
    let s := if st = 0 then s.wr R.UPD_ID 0 else s
    s.note Pg.UPD Ev.UPD_STATE [BitVec.ofNat 8 st, BitVec.ofNat 8 (s.fget F.UPD_REASON_CODE)]

/-- The update ends with a reason. -/
def State.updFail (s : State) (reason : Nat) : State := (s.fput F.UPD_REASON_CODE reason).updGo 0

def State.updSet (s : State) (f : Upd → Upd) : State := { s with upd := f s.upd }

/-- The answer to the core whose UPD_VERIFY is being served. -/
def State.verifyAnswer (s : State) (reason : Nat) : State :=
  match s.upd.verifying with
  | none => s
  | some c =>
    let s := s.updSet (fun u => { u with verifying := none })
    if reason = 0 then s.mboxEnd c mbDone else s.mboxDone c mbRefused reason 0

/-- A handover or fail-over abandons an update in RECEIVING to READY. -/
def State.updAbandon (s : State) : State :=
  if 1 ≤ s.fget F.UPD_STAT_STATE ∧ s.fget F.UPD_STAT_STATE ≤ 3 then (s.updFail 14).verifyAnswer 14 else s

/-! ### Becoming standby and becoming active (R477, R489, R491) -/

/-- A task instance in progress ends without a publish (log entry 29). -/
def State.tasksStop (s : State) : State :=
  let stop (t : Nat) (x : Task) : Task :=
    { x with st := if x.st = .disabled ∨ s.fset (F.TASK_TCFG_EN t) = false then .disabled else .waiting, snap := [], written := [] }
  ({ s with tasks := s.tasks.map (fun e => (e.1, stop e.1 e.2)), running := Vector.replicate 2 [] } : State).idleUpdate

/-- What stops when the module ceases to be active: tasks, loops, TUNE units, the frames that wait for Q0, the summaries and a paired update. -/
def State.deactivate (s : State) : State :=
  let s := s.tasksStop.unitsEnd (fun _ => true) 7
  let s : State := { s with loops := s.loops.map (fun e => (e.1, { e.2 with due := none, out := none })) }
  let s := s.mfpSet (fun m => { m with waiting := [] })
  ((s.cairnSet (fun c => { c with sums := [] })).fput F.FNET_STAT_RUN 0).updAbandon

/-- The field-bus transmitters of a module that is no longer active fall silent (R59). -/
def State.busesQuiet (s : State) : State := [0, 1, 2, 3].foldl (fun s n => s.canQuiet n) s

/-- The module demotes itself to STANDBY or WAIT with the given pair state; what has been handed on to NRG is added before. -/
def State.becomeStandby (s : State) (role pair : Nat) : State := ((s.nrgFlush.deactivate.roleGo role).pairGo pair).busesQuiet

/-- The period of an output frame whose build instant lies just before `t`; none where there is none. -/
def builtBefore (period slot lead t : Nat) : Option Nat := if t + lead ≤ slot then none else some ((t + lead - slot - 1) / period)

/-- Step 3 and 4 of R491 but for RELEASE_OK: instant P in every block. -/
def State.activate (s : State) : State :=
  let t := s.monoNow
  let s := (List.range 39).foldl (fun s p => s.fput (F.HDR_EXPERT p) 0) s
  let s := [0, 1, 2, 3].foldl (fun s n => s.canActivate n) ({ s with unlock := [] } : State)
  let lead := s.leadNs
  let slot (f : OutSlot) : OutSlot := { f with last := builtBefore (classMs f.cls * msNs) (f.slotUs * 1000) lead (s.now + 20000) }
  let s : State := { s with
    tasks := s.tasks.map (fun e => (e.1, { e.2 with notBefore := t + 50000 }))
    loops := s.loops.map (fun e => (e.1, { e.2 with notBefore := t + 10000 })) }
  let s := s.syncRestart.mfpSet (fun m => { m with outs := m.outs.map (fun l => l.map slot) })
  let s := (s.belSet (fun b => { b with aliveAt := t, swapFrom := t, promote := none })).mtrActive.roleStat.unitsFresh
  if s.fset F.CAIRN_STAT_SUMMIT then s.sumOpenAt s.now false true else s

/-! ### Copy units (R484, R485) -/

/-- The lines of a bank that hold a byte other than 0, with their bytes. -/
def State.bankLines (s : State) (b : Nat) : List (Nat × List Byte) :=
  let offs := ((s.mem.filter (fun e => decide (b ≤ e.1) && decide (e.1 < b + 0x400000))).map (fun e => (e.1 - b) / 64 * 64)).eraseDups
  offs.map (fun o => (o, s.bytesAt (b + o) 64))

def fstatusOf (n : Nat) : FStatus :=
  match n with
  | 0 => .free | 1 => .active | 2 => .refusedDup | 3 => .refusedPid | 4 => .releasedByChange | _ => .released

def forceFields (f : Force) : List Nat := [f.word0.toNat, fstatusCode f.status, f.setTime, f.relTime, f.setMono, f.pid, f.value.toNat, f.q]
def forceOf (l : List Nat) : Force :=
  { word0 := BitVec.ofNat 64 (l.getD 0 0), status := fstatusOf (l.getD 1 0), setTime := l.getD 2 0, relTime := l.getD 3 0, setMono := l.getD 4 0
    pid := l.getD 5 0, value := BitVec.ofNat 32 (l.getD 6 0), q := l.getD 7 0 }

def bucketFields (b : Bucket) : List Int :=
  let o (x : Option Int) : List Int := match x with | some v => [1, v] | none => [0, 0]
  b.e.toList.map Int.ofNat ++ [(b.n : Int), (b.flags : Int)] ++ o b.pMax ++ o b.pMin
def vec6 (l : List Int) : Vector Nat 6 := Vector.ofFn (fun i => (l.getD i 0).toNat)
def bucketOf (l : List Int) : Bucket :=
  let o (i : Nat) : Option Int := if l.getD i 0 = 1 then some (l.getD (i + 1) 0) else none
  { e := vec6 l, n := (l.getD 6 0).toNat, flags := (l.getD 7 0).toNat, pMax := o 8, pMin := o 10 }

/-- The state of a circuit, with T_END of the last cycle handed on. -/
def State.circFields (s : State) (m : Nat) : List Int :=
  let c := s.nrgc m
  [((s.mtrc m).tLast : Int), (c.tLast : Int), (c.cycles : Int), (c.seq : Int), (c.dmdSeq : Int), (boolNat c.running : Int), (c.nomStart : Int),
    (c.nomEnd : Int), (c.openMono : Int), (c.durBase : Int), (c.carry : Int)] ++ c.total.toList.map Int.ofNat ++ c.res.toList.map Int.ofNat
    ++ bucketFields c.cur ++ bucketFields c.ahead
def circOf (l : List Int) : NrgC :=
  let n (i : Nat) : Nat := (l.getD i 0).toNat
  { tLast := n 1, cycles := n 2, seq := n 3, dmdSeq := n 4, running := n 5 == 1, nomStart := n 6, nomEnd := n 7, openMono := n 8, durBase := n 9
    carry := n 10, total := vec6 (l.drop 11), res := vec6 (l.drop 17), cur := bucketOf (l.drop 23), ahead := bucketOf (l.drop 35) }

/-- Registers of a BG unit: LOOP.ENk and the settings of PTP. -/
def bgRegs : List Nat :=
  (List.range 16).map R.LOOP_EN ++ [R.PTP_ACT, R.PTP_STEP_LIMIT, R.PTP_UTC, R.PTP_SERVO, R.PTP_DCFG 0, R.PTP_DCFG 1, R.PTP_LOCK_NS 0, R.PTP_LOCK_NS 1,
    R.PTP_HOLD_S 0, R.PTP_HOLD_S 1]

def State.schedCells (s : State) : List Host.Cell := s.mem.filter (fun e => decide (0x10C60000 ≤ e.1) && decide (e.1 < 0x10C62000))
def State.areaCells (s : State) : List Host.Cell := s.mem.filter (fun e => decide (0x10840000 ≤ e.1) && decide (e.1 < 0x10840000 + 48 * 0x8000))
def State.stationCodes (s : State) : List (Nat × Nat) := s.mfp.stations.map (fun e => (e.1, sstateCode e.2.st))

/-- A point in a unit: VALUE, Q and instant under any force, as a release has left them (R273). -/
def State.pointEntry (s : State) (p : Nat) : Nat × Word × Nat × Nat :=
  match (s.point p).held with
  | some (v, q, t) => (p, v, q, t)
  | none => (p, (s.point p).value, (s.point p).q, (s.point p).inst)

/-- Points of these sources. -/
def State.pointsOf (s : State) (f : Point → Bool) : List (Nat × Word × Nat × Nat) :=
  (s.points.filter (fun e => f e.2)).map (fun e => s.pointEntry e.1)

def isLoopSrc : PSrc → Bool
  | .loop _ => true
  | _ => false

/-- A slot in a unit: its block, what it handed to inner loops, and whether it has been evaluated, is new, is to be reseeded and has been held. -/
def State.slotEntry (s : State) (k : Nat) : Nat × List Byte × Int × Nat × Nat :=
  let x := s.loopx k
  (k, s.bytesAt (slotBase k) 512, x.u, x.q, boolNat x.evaluated + 2 * boolNat x.first + 4 * boolNat x.reseed + 8 * boolNat x.heldSeen)

/-- Slots evaluated or stored to since the latest BG unit. -/
def State.slotsSince (s : State) : List Nat :=
  let n := s.bel.seen
  (List.range slotCount).filter (fun k => n.slots.contains k || (s.slotOn k && decide (n.mono ≤ (s.loopx k).lastMono.getD 0) && (s.loopx k).lastMono.isSome))

def State.forceEntries (s : State) (f : Nat → Bool) : List (Nat × List Nat) :=
  ((List.range 512).filter f).map (fun k => (k, forceFields (s.force k)))

/-- The points of metering as a BG unit of this cycle tells them: one that changes in this very cycle goes with the next unit (R28). -/
def State.meterTold (s : State) : Tab Point :=
  let now (p : Nat) : Bool := s.priorAt == s.cyc && (tabFind s.prior p).isSome
  (s.points.filter (fun e => e.2.src == .metering)).map (fun e => if now e.1 then (e.1, tabGet (fun _ => ({} : Point)) s.bel.seen.points e.1) else e)

/-- The contents of a BG unit: what has changed since the latest one. -/
def State.bgContents (s : State) (k : UnitKind) : CopyUnit :=
  let n := s.bel.seen
  let st := s.stationCodes
  { emptyUnit k with
    lines := s.dirtyLines
    points := s.meterTold.filterMap (fun e => if tabGet (fun _ => ({} : Point)) n.points e.1 = e.2 then none else some (s.pointEntry e.1))
    slots := s.slotsSince.map s.slotEntry
    regs := (bgRegs.zipIdx).filterMap (fun e => if n.regs[e.2]? = some (s.rd e.1) then none else some (e.1, s.rd e.1))
    cycle := s.mfp.nextCycle
    forces := s.forceEntries (fun i => tabGet (fun _ => ({} : Force)) n.forces i != s.force i)
    sched := if s.schedCells = n.sched then none else some s.schedCells
    commandOwners := if s.ownCommands = n.commandOwners then none else some s.ownCommands
    circuits := ((List.range circCount).filter (fun m => tabGet (fun _ => ({} : NrgC)) n.circs m != s.nrgc m)).map (fun m => (m, s.circFields m))
    stations := if st = n.stations then [] else st }

/-- What has been told. -/
def State.bgTold (s : State) (boundary : Nat) : State :=
  s.belSet (fun b => { b with seen :=
    { at_ := some boundary, mono := s.monoNow, forces := s.forces, points := s.meterTold, sched := s.schedCells, regs := bgRegs.map s.rd, commandOwners := s.ownCommands,
      circs := s.nrg.circs, stations := s.stationCodes, slots := [] } })

def State.allTasks (s : State) : List (Nat × List Nat) := (List.range taskCount).map (fun t => (t, taskFields s t))

/-- The full pass of a RESYNC (R487). -/
def State.fullPass (s : State) : CopyUnit :=
  { emptyUnit .pass with
    lines := s.bankLines s.bankBase
    areas := s.areaCells
    points := s.pointsOf (fun x => isTaskSrc x.src || isLoopSrc x.src || x.src == .metering)
    tasks := s.allTasks
    slots := (List.range slotCount).map s.slotEntry
    regs := bgRegs.map (fun r => (r, s.rd r))
    cycle := s.mfp.nextCycle
    forces := s.forceEntries (fun _ => true)
    sched := some s.schedCells
    commandOwners := some s.ownCommands
    circuits := (List.range circCount).map (fun m => (m, s.circFields m))
    stations := s.stationCodes }

/-! ### Applying a unit (R484, R545) -/

/-- The running builds of the pair differ, and the partner runs what the other bank here holds: one update is being switched (R545). -/
def State.sameUpdate (s : State) : Bool :=
  let i := 1 - boolNat s.flash.boot.activeB
  match s.bel.partner with
  | some m => m.build != s.trust.build && s.flash.boot.valid.toList.getD i false && m.build == s.flash.boot.build.toList.getD i 0
  | none => false

/-- Bank offset to which the map of the program running here carries the word at `o`; none outside every SRC range. -/
def State.mapWord (s : State) (o : Nat) : Option Nat :=
  (List.range (s.pkgMaps s.bankBase)).findSome? (fun k =>
    let (src, dst, len) := s.pkgMap s.bankBase k
    if src ≤ o ∧ o < src + len then some (dst + (o - src)) else none)

/-- A program line goes into the active bank, through the carry-over map while an update is being switched. -/
def State.applyLine (s : State) (l : Nat × List Byte) : State :=
  if s.sameUpdate then
    (List.range 8).foldl (fun s j =>
      match s.mapWord (l.1 + 8 * j) with
      | some d => s.storeWords (s.bankBase + d) (wordsOf 1 (l.2.drop (8 * j)))
      | none => s) s
  else s.storeWords (s.bankBase + l.1) (wordsOf 8 l.2)

/-- A published value, with the instant that the active module gave it; it ends what a release has kept (R273). -/
def State.applyPoint (s : State) (e : Nat × Word × Nat × Nat) : State :=
  s.pointMod e.1 (fun s => s.pointStore e.1 (fun x =>
    { x with value := e.2.1, q := e.2.2.1, inst := e.2.2.2, held := none, skew := false, latchMiss := false, init := false }))

def State.applyTask (s : State) (e : Nat × List Nat) : State :=
  let g (i : Nat) : Nat := e.2.getD i 0
  let s := (s.wr (R.TASK_OVR_CNT e.1) (BitVec.ofNat 32 (g 2))).wr (R.TASK_EXEC_MAX e.1) (BitVec.ofNat 32 (g 3))
  s.taskSet e.1 (fun x => { x with
    cycle := g 0, skipped := g 1, execPrev := g 4, lastRel := g 5, first := g 7 == 1, stepped := g 8 == 1, backStep := g 9 == 1 })

/-- A slot as the active module has it; the sample cycle of its latest evaluation is that of LAST_TIME. -/
def State.applySlot (s : State) (e : Nat × List Byte × Int × Nat × Nat) : State :=
  let f (i : Nat) : Bool := e.2.2.2.2 / 2 ^ i % 2 == 1
  let s := s.storeWords (slotBase e.1) (wordsOf 64 e.2.1)
  let t := (s.lw e.1 wTime).toNat
  s.loopSet e.1 (fun x => { x with
    u := e.2.2.1, q := e.2.2.2.1, evaluated := f 0, first := f 1, reseed := f 2, heldSeen := f 3
    lastMono := if t = 0 then none else some ((t : Int) - s.mtOff).toNat })

/-- A register of a unit. ACT.SEL is kept for the handover (R483). -/
def State.applyReg (s : State) (e : Nat × Word) : State :=
  if e.1 = R.PTP_ACT then (s.fput F.PTP_ACT_AUTO (fieldOf F.PTP_ACT_AUTO e.2)).belSet (fun b => { b with sel := fieldOf F.PTP_ACT_SEL e.2 })
  else if e.1 = R.PTP_DCFG 0 then s.dcfgWrite 0 e.2
  else if e.1 = R.PTP_DCFG 1 then s.dcfgWrite 1 e.2
  else s.wr e.1 e.2

def State.applyCirc (s : State) (e : Nat × List Int) : State :=
  (((s.nrgPut e.1 (circOf e.2)).mirror e.1)).mtrcSet e.1 (fun c => { c with tLast := (e.2.getD 0 0).toNat })

def sstateOf (n : Nat) : SState :=
  match n with
  | 0 => .absent | 1 => .assigned | 2 => .configuring | 3 => .ready | 4 => .present | 5 => .lost | 6 => .rejoining | _ => .cfgFail

/-- The package whose switch a unit carries is written into the inactive bank. -/
def State.placePackage (s : State) (p : List Byte × List (Nat × Byte) × List (Nat × Byte)) : State :=
  let b := s.spareBase
  let s := s.wipe (fun a => decide (b ≤ a) && decide (a < b + 0x400000))
  p.2.2.foldl (fun s e => s.putByte (b + e.1) e.2) s

/-- The standby module verifies the package that a unit carries, as for an online change (R268); that its signature and digest verify is part of the
unit's having arrived. -/
def State.packageOk (s : State) (p : List Byte × List (Nat × Byte) × List (Nat × Byte)) : Bool :=
  let t := s.placePackage p
  blockOk ((List.range 16).map (tabGet (fun _ => 0) p.2.1)) s.programKey true && s.progHeaderOk p.1 true && (t.pkgFail t.spareBase).isNone

/-- And switched to. -/
def State.applyPackage (s : State) (p : List Byte × List (Nat × Byte) × List (Nat × Byte)) : State :=
  let s := s.placePackage p
  let b := s.spareBase
  let s := ((s.carryOver s.bankBase b).installPackage b).ochgSet (fun o => { o with header := p.1, block := p.2.1, bank := p.2.2, recordDue := true })
  s.exchangeBanks.ochgSet (fun o => { o with installed := [] })

/-- A whole unit is applied. -/
def State.applyUnit (s : State) (u : CopyUnit) : State :=
  let s := match u.package with | some p => s.applyPackage p | none => s
  let b := s.bankBase
  let s := if u.kind = .pass then s.wipe (fun a => (decide (b ≤ a) && decide (a < b + 0x400000)) || (decide (0x10840000 ≤ a) && decide (a < 0x109C0000))) else s
  let s := u.areas.foldl (fun s e => s.putByte e.1 e.2) (u.lines.foldl State.applyLine s)
  let s := if u.kind = .task then s.storeWords (taskArea u.task) (wordsOf 8 u.header) else s
  let s := u.slots.foldl State.applySlot (u.tasks.foldl State.applyTask (u.points.foldl State.applyPoint s))
  let s := u.forces.foldl (fun s e => s.forceCopied e.1 (forceOf e.2)) (u.regs.foldl State.applyReg s)
  let s := match u.sched with
    | some c => c.foldl (fun s e => s.putByte e.1 e.2) (s.wipe (fun a => decide (0x10C60000 ≤ a) && decide (a < 0x10C62000)))
    | none => s
  let s : State := match u.commandOwners with | some o => { s with ownCommands := o } | none => s
  let s := u.stations.foldl (fun s e => s.stnSet e.1 (fun x => { x with st := sstateOf e.2 })) (u.circuits.foldl State.applyCirc s.forceAct)
  if u.kind = .task then s else s.mfpSet (fun m => { m with nextCycle := u.cycle })

/-! ### Resynchronisation (R487) -/

/-- RESYNC is entered (R487): the active module sends its full pass, the standby module aligns its time. -/
def State.resyncEnter (s : State) : State :=
  let s := (s.pairGo 2).belSet (fun b => { b with expect := none })
  if s.role = 1 then (s.formUnit s.fullPass).bgTold s.now else if s.role = 2 then s.alignPlan else s

/-- The identities agree, build and digests, or one update is being switched: no image has to go over (R487, R545). -/
def State.agrees (s : State) : Bool :=
  match s.bel.partner with
  | some m => (m.build == s.trust.build && m.image == s.bel.imgDigest && m.program == s.bel.progDigest) || s.sameUpdate
  | none => false

/-- LINKING ends when the identities agree. -/
def State.linkCheck (s : State) : State := if s.pairState = 1 ∧ s.agrees = true then s.resyncEnter else s

/-- A pair links anew: RESYNC when the identities agree, and else LINKING. -/
def State.relink (s : State) : State := if s.pairState = 0 then s else if s.agrees then s.resyncEnter else s.pairGo 1

/-! ### Demotion, fail-over and promotion (R480, R489 to R492) -/

/-- The active module demotes itself: STANDBY in RESYNC while a lane is up, or else WAIT. -/
def State.demote (s : State) : State := if s.anyUp then (s.becomeStandby 2 s.pairState).resyncEnter else s.becomeStandby 3 0

/-- A fail-over is decided, on a SYNCED standby module. -/
def State.failover (s : State) : State :=
  if s.role = 2 ∧ s.pairState = 3 ∧ s.bel.promote = none ∧ s.bel.handing = false then s.belSet (fun b => { b with promote := some true }) else s

/-- The promotion of R491, by a fail-over or in a planned handover. -/
def State.promoteNow (s : State) (fail : Bool) : State :=
  let sel := s.bel.sel
  let s := (s.roleGo (if fail then 0 else 1))
  let s := (if fail then s.pairGo 0 else s).activate.releaseOk
  let s := (s.mfpSet (fun m => { m with startCycle := some (m.startCycle.getD m.nextCycle) })).fput F.IOS_STAT_PHASE 4
  let s := (if sel = s.fget F.PTP_ACT_SEL then s else s.select sel).updAbandon
  let bit := if fail then Ev.BEL_FAILOVER else Ev.BEL_HANDOVER
  let s := ((s.countSat R.BEL_HO_COUNT 1).put64 R.BEL_LAST_HO_LO s.now).raise Pg.BEL bit
  s.belNote bit

/-- The demoted module sees the planned handover completed. -/
def State.handoverDone (s : State) : State :=
  if s.bel.handing then
    ((s.belSet (fun b => { b with handing := false, swapFrom := s.monoNow, retryAt := none, expect := none })).raise Pg.BEL Ev.BEL_HANDOVER).belNote Ev.BEL_HANDOVER
  else s

/-! ### Planned handover (R489, R493) -/

/-- The bits of the loop lanes failed, the channels in BUS_OFF and the ECC instances whose self-test is not passed. -/
def State.failedLanes (s : State) : BitVec 4 := BitVec.ofNat 4 ([0, 1, 2, 3].foldl (fun a l => a + boolNat (s.laneFailed l) * 2 ^ l) 0)
def State.busOffs (s : State) : BitVec 4 := BitVec.ofNat 4 ([0, 1, 2, 3].foldl (fun a n => a + boolNat (s.canState n == canBusOff) * 2 ^ n) 0)
def State.eccFails (s : State) : BitVec 8 := BitVec.ofNat 8 ((List.range 8).foldl (fun a n => a + boolNat (!s.fset (F.ECC_STAT_SELFTEST_OK n)) * 2 ^ n) 0)

/-- The conditions of a planned handover. -/
def State.swapOk (s : State) : Bool :=
  match s.bel.partner with
  | some m => s.pairState == 3 && s.ochg.st == .idle && m.lanes &&& ~~~s.failedLanes == 0 && m.busOff &&& ~~~s.busOffs == 0
      && m.eccBad &&& ~~~s.eccFails == 0
  | none => false

/-- The handover is refused; it is attempted again after 1 h. -/
def State.swapRefuse (s : State) : State :=
  ((s.belSet (fun b => { b with swap := none, retryAt := some (s.monoNow + 3600000000000) })).raise Pg.BEL Ev.BEL_SWAP_REFUSED).belNote Ev.BEL_SWAP_REFUSED

/-- A planned handover starts: TASK looks for a gap for 10 s, from this cycle on. -/
def State.swapStart (s : State) : State :=
  if s.swapOk then (s.belSet (fun b => { b with swap := some (s.monoNow + 10000000000), retryAt := none })).gapTest else s.swapRefuse

/-- The gap of a planned handover: R262, and no SYNC launch of any channel within 300 µs, where FNET launches any. -/
def State.swapGapHere (s : State) : Bool :=
  s.gapHere && (!s.enabled Pg.FNET || s.fget F.FNET_SYNC_CFG_CH_EN == 0 || decide (s.now + 300000 < s.syncLaunch (s.cycleFrom s.now)))

/-- Steps 1 to 3 of R489 on the active module: demotion at Hx, and the FINAL unit as of it. -/
def State.belGap (s : State) : State :=
  if s.bel.swap.isSome ∧ s.role = 1 ∧ s.swapOk = true ∧ s.swapGapHere = true then
    let s := s.nrgFlush
    let u := { s.bgContents .final with tasks := s.allTasks }
    let s := (s.formUnit u).bgTold s.now
    (s.becomeStandby 2 3).belSet (fun b => { b with swap := none, handing := true, expect := none })
  else s

/-- A write of BEL.CMD. -/
def State.swapCmd (s : State) : State :=
  if s.role = 1 ∧ s.pairState = 3 then s.swapStart else s.flag F.BEL_FAULT_BAD_CMD
def State.cancelCmd (s : State) : State := if s.isActive then s.belSet (fun b => { b with swap := none }) else s.flag F.BEL_FAULT_BAD_CMD
def State.relinquishCmd (s : State) : State :=
  if s.role = 1 ∧ s.pairState = 3 then (s.sendDown.becomeStandby 2 3).resyncEnter else s.flag F.BEL_FAULT_BAD_CMD

def State.belCmd (s : State) (v : Word) : State :=
  if fieldOf F.BEL_CMD_KEY v ≠ 0xBE1A then s.flag F.BEL_FAULT_BAD_KEY
  else
    let s := if v.getLsbD 2 then s.cancelCmd else s
    let s := if v.getLsbD 1 then s.relinquishCmd else s
    if v.getLsbD 0 then s.swapCmd else s

/-- Monotonic time at which the next handover starts by itself. -/
def State.swapDueAt (s : State) : Option Nat :=
  match s.bel.retryAt with
  | some t => some t
  | none => if s.fget F.BEL_SWAP_CFG_HOURS = 0 then none else some (s.bel.swapFrom + s.fget F.BEL_SWAP_CFG_HOURS * 3600000000000)

/-- NEXT_SWAP. -/
def State.nextSwap (s : State) : Nat :=
  match s.swapDueAt with
  | some t => if s.pairState = 3 ∧ s.fget F.BEL_SWAP_CFG_HOURS ≠ 0 then ((t : Int) + s.mtOff).toNat else 2 ^ 64 - 1
  | none => 2 ^ 64 - 1

/-- One of two active modules demotes itself (R480). -/
def State.dualActive (s : State) : State :=
  let s := (s.raise Pg.BEL Ev.BEL_DUAL_ACTIVE).belNote Ev.BEL_DUAL_ACTIVE
  let yields := match s.bel.partner with
    | some m => if m.sideB = s.pins.sideB then decide (m.serial < s.trust.otp.serial) else s.pins.sideB
    | none => s.pins.sideB
  if yields then (s.demote.raise Pg.BEL Ev.BEL_DEMOTED).belNote Ev.BEL_DEMOTED else s

/-- A foreign SYNC is stored (R153, R480); while a promotion is in progress it waits for that to complete (R497). -/
def State.foreignSync (s : State) (ts : Nat) : State :=
  let s := s.belSet (fun b => { b with foreign := some (s.monoNow, ts), dual := b.dual || b.promote.isSome })
  if s.enabled Pg.BEL && s.isActive && s.bel.decided then s.dualActive else s

/-! ### Checkpoint (R494 to R496) -/

def ckptAddr (k : Nat) : Nat := 0x60100000 + 0x100000 * k

/-- Byte `o` of the shadow. -/
def State.shadowBytes (s : State) (o n : Nat) : List Byte := (List.range n).map (fun i => tabGet (fun _ => (0 : Byte)) s.bel.shadow (o + i))

/-- A slot without its CRC. -/
def State.ckptImage (s : State) (reason seq : Nat) : List Byte :=
  let r := s.persistRanges s.bankBase
  natLe 2 1 ++ natLe 1 reason ++ natLe 1 r.length ++ natLe 4 seq ++ natLe 8 s.now ++ natLe 16 s.bel.progDigest.toNat ++ natLe 32 0
    ++ s.bytesAt (s.bankBase + 0x380000 + 0x52000) 1024 ++ r.flatMap (fun e => s.shadowBytes e.1 e.2)

/-- A save begins, into the slot that the previous one did not use; its CRC comes last. -/
def State.ckptBegin (s : State) (reason : Nat) : State :=
  let seq := (s.bel.ckptSeq + 1) % 2 ^ 32
  let slot := 1 - s.bel.ckptSlot
  let b := s.ckptImage reason seq
  (s.putBytes .bel (ckptAddr slot) (b ++ natLe 4 0)).belSet (fun x => { x with ckptSeq := seq, ckptSlot := slot, saving := some { slot := slot, bytes := b } })

/-- A cause of a save; one that comes during a save waits for it. -/
def State.ckptSave (s : State) (reason : Nat) : State :=
  if s.bel.saving.isSome then s.belSet (fun b => { b with ckptPend := some (max reason (b.ckptPend.getD 0)) })
  else s.ckptBegin reason

/-- The save in progress completes. -/
def State.ckptEnd (s : State) : State :=
  match s.bel.saving with
  | none => s
  | some c =>
    let s := s.putBytes .bel (ckptAddr c.slot + c.bytes.length) (natLe 4 (crc32c c.bytes).toNat)
    let p := s.bel.ckptPend
    let s := (s.belSet (fun b => { b with saving := none, ckptPend := none })).raise Pg.BEL Ev.BEL_CKPT_DONE
    match p with
    | some r => s.ckptBegin r
    | none => s

/-- Length of the contents of slot `k`. -/
def State.ckptLength (s : State) (k : Nat) : Nat :=
  1088 + (List.range 64).foldl (fun n i => n + s.le (ckptAddr k + 64 + 16 * i + 4) 4) 0

/-- Slot `k` has its FORMAT and its CRC. -/
def State.ckptWhole (s : State) (k : Nat) : Bool :=
  let n := s.ckptLength k
  s.mramOk (ckptAddr k) (n + 4) && s.le (ckptAddr k) 2 == 1 && decide (n ≤ 0xFFFFC) && (crc32c (s.bytesAt (ckptAddr k) n)).toNat == s.le (ckptAddr k + n) 4

/-- And the digest of the package. -/
def State.ckptValid (s : State) (k : Nat) : Bool := s.le (ckptAddr k + 16) 16 == s.bel.progDigest.toNat % 2 ^ 128 && s.ckptWhole k

def State.ckptSlotSeq (s : State) (k : Nat) : Nat := s.le (ckptAddr k + 4) 4

/-- The valid slot of the higher SEQ. -/
def State.ckptBest (s : State) : Option Nat :=
  match s.ckptValid 0, s.ckptValid 1 with
  | true, true => some (if s.ckptSlotSeq 0 < s.ckptSlotSeq 1 then 1 else 0)
  | true, false => some 0
  | false, true => some 1
  | false, false => none

/-- The ranges of slot `k` are copied into the active bank. -/
def State.ckptCopy (s : State) (k : Nat) : State :=
  ((List.range 64).foldl (fun (a : Nat × State) i =>
    let o := a.2.le (ckptAddr k + 64 + 16 * i) 4
    let n := a.2.le (ckptAddr k + 64 + 16 * i + 4) 4
    (a.1 + n, a.2.storeWords (a.2.bankBase + o) (wordsOf (n / 8) (a.2.bytesAt (ckptAddr k + a.1) n)))) (1088, s)).2

/-- Numbering of saves goes on from the slots that are whole. -/
def State.ckptResume (s : State) : State :=
  let a := if s.ckptWhole 0 then s.ckptSlotSeq 0 else 0
  let b := if s.ckptWhole 1 then s.ckptSlotSeq 1 else 0
  s.belSet (fun x => { x with ckptSeq := max a b, ckptSlot := if a < b ∨ (a = 0 ∧ b = 0) then 1 else 0 })

/-- The checkpoint is restored (R496). -/
def State.ckptRestore (s : State) : State :=
  let s := (s.mramNote (ckptAddr 0) (s.ckptLength 0 + 4)).mramNote (ckptAddr 1) (s.ckptLength 1 + 4)
  match s.ckptBest with
  | some k => ((s.ckptCopy k).fput F.BEL_STAT_CKPT_RESTORED 1).shadowUpdate
  | none => s.shadowUpdate

end Sys2Proof.Machine
end

