-- ==== Sys2Proof/Machine/Anc.lean ====
section
/-! DEFINITION. The anchor's own requests (19 R523 to R526, R552, R553, R556; 04 R124 to R126; 05 R171): challenge, lifecycle and key commands,
the device key, module sleep and the stored UTC offset. -/
namespace Sys2Proof.Machine

def State.otpSet (s : State) (f : Otp → Otp) : State := s.trustSet (fun t => { t with otp := f t.otp })

/-! ### Challenge (R552) -/

/-- A random number other than 0. -/
def State.drawNonzero (s : State) : BitVec 64 × State :=
  let (v, s) := s.draw
  (if v = 0 then 1 else v, s)

def State.challenge (s : State) (core : Nat) : State :=
  let (v, s) := s.drawNonzero
  (s.trustSet (fun t => { t with chal := some (v, s.monoNow + 600000000000) })).mboxEnd core mbDone

/-- CHALLENGE: mailbox request 0x01. -/
def execChallenge (core : Fin 4) (s : State) : Host.Outcome State Fault Refusal :=
  s.whenAwake fun s => s.mbox core 0x01 [] (s.coreComp0 core) (fun s => s.challenge core)

/-- CHALLENGE_EXPIRE: 600 s of monotonic time pass. -/
def execChallengeExpire (s : State) : Host.Outcome State Fault Refusal :=
  s.whenLive fun s =>
    match s.trust.chal with
    | some (_, t) => (s.reachMono t).trustSet (fun x => { x with chal := none })
    | none => s

/-! ### Saves that a reset or sleep waits for (R115, R171) -/

/-- The save of energy totals in progress is completed. -/
def State.nrgFinish (s : State) : State :=
  match s.nrg.saving with
  | none => s
  | some v => (s.saveCommit v).saveEnd.saveNext s.nrg.pending

/-- Energy totals and a checkpoint are saved, and the saves completed. -/
def State.savesDone (s : State) (reason : Nat) : State := ((((s.nrgSave reason).nrgFinish.nrgFinish).ckptSave reason).ckptEnd).ckptEnd

/-! ### Signed commands (R125, R126, R552, R553) -/

/-- Length of a command: its body and a signature block of ALG 1. -/
def lcLength : Nat := 256 + 29872

/-- Keys that sign a command: the factory key for PROVISION, the other slot of the role for REVOKE (R524), a COMMAND slot otherwise. -/
def lcKeyOk (o : Otp) (b : List Byte) (key : Nat) : Bool :=
  match byteOf b 2 with
  | 1 => key == 0xF0 && lcState o == 0
  | 6 => decide (byteOf b 24 < 6) && key == byteOf b 24 ^^^ 1 && slotUsable o key
  | _ => (key == 4 || key == 5) && slotUsable o key

/-- FORMAT, module identity and challenge. -/
def State.lcBodyOk (s : State) (b : List Byte) : Bool :=
  leOf b 0 2 == 1 && leOf b 4 6 == s.trust.otp.serial.toNat
    && (match s.trust.chal with
      | some (c, t) => leOf b 16 8 == c.toNat && decide (s.monoNow < t)
      | none => false)

/-- The export is acknowledged by the command, or the energy totals region was never written (R125, R397). -/
def State.exportAcked (s : State) (b : List Byte) : Bool :=
  match s.trust.exportDigest with
  | some d => leOf b 32 32 == d.toNat
  | none => !s.trust.energyWritten && leOf b 32 32 == 0

/-- Fuses after the command; none where R125 or R524 refuses it. -/
def State.lcFuses (s : State) (b : List Byte) (seed : BitVec 768) : Option Otp :=
  let o := s.trust.otp
  let st := lcState o
  match byteOf b 2 with
  | 1 =>
    if st = 0 then some { o with prov := true, seed := seed, slots := Vector.ofFn (fun i => BitVec.ofNat 256 (leOf b (64 + 32 * i.val) 32)) } else none
  | 2 => if st = 1 then some { o with comm := true } else none
  | 3 => if st = 2 ∧ 2 ≤ svcLeft o then some { o with service := o.service + 1 } else none
  | 4 => if st = 3 then some { o with service := o.service + 1 } else none
  | 5 => if 1 ≤ st ∧ st ≤ 3 ∧ s.exportAcked b = true then some { o with decom := true } else none
  | 6 => if st ≠ 4 ∧ slotUsable o (byteOf b 24 ^^^ 1) = true then some { o with revoked := o.revoked.setIfInBounds (byteOf b 24) true } else none
  | _ => none

/-- The command is accepted or refused: event and record. -/
def State.lcNote (s : State) (op result : Nat) : State :=
  (s.raise Pg.ANC Ev.ANC_LC).note Pg.ANC Ev.ANC_LC [BitVec.ofNat 8 op, BitVec.ofNat 8 result]

/-- The 96 bytes of a new device seed. -/
def State.drawSeed (s : State) : BitVec 768 × State :=
  (List.range 12).foldl (fun (a : BitVec 768 × State) _ => let (v, s) := a.2.draw; ((a.1 <<< 64) ||| v.zeroExtend 768, s)) (0, s)

/-- An accepted lifecycle change: NOTICE, the saves, the fuse, and a warm reset that takes effect when the save is done (R126). -/
def State.lcChange (s : State) (o : Otp) : State :=
  let s := ((s.raise Pg.RST Ev.RST_NOTICE).savesDone 3).otpSet (fun _ => o)
  { s.lcStat with boot := { s.boot with pend := some { warm := true, lifecycle := true, saveAt := s.cyc, saving := true } } }

/-- A command of bytes `b` is checked and performed. -/
def State.lcCmd (s : State) (core : Nat) (b : List Byte) (sigOk : Bool) : State :=
  let op := byteOf b 2
  let ok := s.lcBodyOk b
  let s1 := s.trustSet (fun t => { t with chal := none })
  let refuse (r : Nat) : State := (s1.lcNote op r).mboxEnd core r
  if s.trust.otp.decom then refuse mbRefused
  else if !blockOk (b.drop 256) (lcKeyOk s.trust.otp b) sigOk then refuse mbBadSignature
  else if !ok then refuse mbRefused
  else
    let (seed, s2) := if op = 1 then s1.drawSeed else (0, s1)
    match s2.lcFuses b seed with
    | none => refuse mbRefused
    | some o =>
      let s3 := if op = 6 then s2.otpSet (fun _ => o) else s2.lcChange o
      (s3.lcNote op mbDone).mboxEnd core mbDone

/-- LC_CMD: mailbox request 0x02. `sigOk` says that PK is the key that KEY names, and that SIG verifies (R526). -/
def execLcCmd (core : Fin 4) (src : Word64) (len : Word) (sigOk : Bool) (s : State) : Host.Outcome State Fault Refusal :=
  s.whenAwake fun s =>
    s.mbox core 0x02 [BitVec.ofNat 32 src.toNat, BitVec.ofNat 32 (src.toNat / 2 ^ 32), len] (s.coreComp0 core) (fun s =>
      if len.toNat = lcLength ∧ mboxRange core src.toNat len.toNat = true then s.lcCmd core (s.bytesAt src.toNat lcLength) sigOk
      else s.mboxEnd core mbBadRequest)

/-- DEVICE_KEY: mailbox request 0x03. Before provisioning there is no device key, and it is refused (log entry 5). -/
def execDeviceKey (core : Fin 4) (dst : Word64) (s : State) : Host.Outcome State Fault Refusal :=
  s.whenAwake fun s =>
    s.mbox core 0x03 [BitVec.ofNat 32 dst.toNat, BitVec.ofNat 32 (dst.toNat / 2 ^ 32), 64] (s.coreComp0 core) (fun s =>
      if mboxRange core dst.toNat 64 = false then s.mboxEnd core mbBadRequest
      else if s.trust.otp.prov && !s.trust.otp.decom then (s.anchorWrite dst.toNat (padTo 64 (Config.devicePublicKey s.trust.otp.seed))).mboxEnd core mbDone
      else s.mboxEnd core mbRefused)

/-- UTC_STORE: mailbox request 0x05. -/
def execUtcStore (core : Fin 4) (offset : Word) (s : State) : Host.Outcome State Fault Refusal :=
  s.whenAwake fun s =>
    s.mbox core 0x05 [offset] (s.coreComp0 core) (fun s =>
      if offset.toNat ≤ 255 then ({ s with flash := { s.flash with utc := some offset.toNat } } : State).mboxEnd core mbDone
      else s.mboxEnd core mbBadRequest)

/-! ### Module sleep (R170, R171) -/

/-- The conditions of R171. -/
def State.sleepOk (s : State) : Bool :=
  [0, 1, 2, 3].all (fun n => !s.enabled (Pg.CAN n) || s.canState n == canSleep) && s.role == 0 && s.pairState == 0
    && s.ochg.st == .idle && s.fget F.UPD_STAT_STATE == 0 && !s.fset F.SYS_STAT_FORCE_ACT

/-- The module goes to sleep: the save, whose REASON no rule states, and the queued records first, then SLEEP_n low and READY low, and what each
part does in sleep. -/
def State.sleepNow (s : State) : State :=
  let (v, s) := s.draw
  let s := (s.nrgSave (v.toNat % 5)).nrgFinish.nrgFinish
  let s := s.cairnFlush s.cairn.queue.length
  let s : State := { s.ready false with
    sup := { s.sup with asleep := true, waking := none }, pins := { (s.ready false).pins with sleepN := false }
    loops := s.loops.map (fun e => (e.1, { e.2 with due := none, out := none })) }
  (s.leaveAll.unitsEnd (fun _ => true) 3).netSleep

/-- SLEEP: mailbox request 0x04. -/
def execSleep (core : Fin 4) (s : State) : Host.Outcome State Fault Refusal :=
  s.whenAwake fun s =>
    s.mbox core 0x04 [] (s.coreComp0 core) (fun s => if s.sleepOk then (s.mboxEnd core mbDone).sleepNow else s.mboxEnd core mbRefused)

end Sys2Proof.Machine
end

