-- ==== Sys2Proof/Machine/Bel.lean ====
section
/-! DEFINITION. The commands of a redundant pair (17). -/
namespace Sys2Proof.Machine

/-- A command of the BEL block: nothing happens while its ENABLE is 0. -/
def State.belDo (s : State) (f : State → State) : Host.Outcome State Fault Refusal := s.whenAwake fun s => if s.enabled Pg.BEL then f s else s

/-- The module's own identity message (R478). -/
def State.identity17 (s : State) : IdMsg :=
  { sideB := s.pins.sideB, role := Fin.ofNat 4 s.role, starting := !s.bel.decided, pair := Fin.ofNat 4 s.pairState, serial := s.trust.otp.serial
    image := s.bel.imgDigest, program := s.bel.progDigest, build := s.trust.build, pfw := s.fset F.PFW_STAT_ASSERTED
    lanes := s.failedLanes, busOff := s.busOffs, eccBad := s.eccFails }

/-- Pairing of a module that has its role (R477, R488). -/
def State.pairUp (s : State) (m : IdMsg) : State :=
  if s.pairState ≠ 0 ∨ s.bel.decided = false ∨ m.starting = true ∨ m.sideB = s.pins.sideB then s
  else if s.role = 0 ∧ 2 ≤ m.role.val then (s.roleGo 1).pairGo 1
  else if 2 ≤ s.role ∧ m.role.val < 2 then (s.roleGo 2).pairGo 1
  else s

/-- Both modules read the same BEL_SIDE level: neither pairs, and each records the conflict once (R49). -/
def State.sideConflict (s : State) (m : IdMsg) : State :=
  if m.sideB = s.pins.sideB then
    if s.bel.conflict then s else (s.belSet (fun b => { b with conflict := true })).note Pg.BEL noBit [BitVec.ofNat 8 (boolNat s.pins.sideB)]
  else s.belSet (fun b => { b with conflict := false })

/-- An identity message arrives. A partner that has left SYNCED takes the pair to RESYNC, or to LINKING (log entry 29). -/
def State.identityIn (s : State) (m : IdMsg) : State :=
  let was := s.pairState
  let s := s.belSet (fun b => { b with partner := some m })
  let s := (s.fput F.BEL_ROLE_PARTNER_ROLE m.role.val).fput F.BEL_ROLE_PARTNER_PFW (boolNat m.pfw)
  let s := ((s.sideConflict m).pairUp m).linkCheck
  let s := if s.role = 1 ∧ m.role.val = 2 ∧ ((was = 3 ∧ m.pair.val = 2) ∨ (2 ≤ was ∧ m.pair.val = 1)) then s.relink else s
  if m.role.val = 1 then s.handoverDone else s

/-- IDENTITY_MESSAGE. -/
def execIdentityMessage (m : IdMsg) (s : State) : Host.Outcome State Fault Refusal := s.belDo fun s => if s.anyLock then s.identityIn m else s

/-- IDENTITY_MESSAGE_SEND: every 1 ms from symbol lock. -/
def execIdentityMessageSend (s : State) : Host.Outcome State Fault Refusal :=
  s.belDo fun s =>
    if s.anyLock then
      let s := s.reachMono (s.bel.idAt + 1000000)
      s.belSet (fun b => { b with idOut := some s.identity17, idAt := s.monoNow })
    else s

/-- SYMBOL_LOCK: the exchange of identity messages begins with the first lane. -/
def execSymbolLock (lane : Fin 2) (s : State) : Host.Outcome State Fault Refusal :=
  s.belDo fun s =>
    if s.fset (laneLockFld lane) || s.bit R.CLK_LOST 8 then s
    else
      let s := if s.anyLock then s else s.belSet (fun b => { b with idAt := s.monoNow })
      (s.fput (laneLockFld lane) 1).belSet (fun b => { b with lockAt := b.lockAt.setIfInBounds lane s.monoNow })

/-- The table of R478. A module that finds no partner and has heard no foreign SYNC has listened for 5 ms, from the ENABLE of BEL on. -/
def State.roleDecide (s : State) : State :=
  let from_ := s.bel.roleAt
  let s := s.belSet (fun b => { b with decided := true, roleAt := s.monoNow })
  let alone := if s.bel.foreign.isSome then (s.deactivate.roleGo 3).busesQuiet else s.reachMono (from_ + 5000000)
  match s.bel.partner with
  | some m =>
    if m.sideB = s.pins.sideB then alone
    else if m.starting then (if s.pins.sideB then s.becomeStandby 2 1 else (s.roleGo 1).pairGo 1)
    else if m.role.val < 2 then s.becomeStandby 2 1
    else alone
  | none => alone

/-- ROLE_DECIDE: before the field channels open. -/
def execRoleDecide (s : State) : Host.Outcome State Fault Refusal := s.belDo fun s => if s.bel.decided then s else s.roleDecide.linkCheck

/-- The floor is taken by a full start (R479, R206): stations that are not LOST begin anew. -/
def State.coldTake (s : State) : State :=
  let fresh (x : Stn) : Stn := if x.st = .lost then x else { x with st := .absent, exch := .none, attempts := 0, outTries := 0, missed := 0, greeted := false, inits := [], groups := [], got := [], gotFast := [] }
  let s := ((s.pairGo 0).roleGo 0).ckptRestore.activate
  let s := s.fnetEnable.mfpSet (fun m => { m with stations := m.stations.map (fun e => (e.1, fresh e.2)), startCycle := none, unparked := Vector.replicate 4 false })
  let s := (s.fput F.IOS_STAT_PHASE 1).fput F.IOS_STAT_IMAGE_FULL 0
  s.belNote noBit

/-- COLD_TAKE: 20 ms without a foreign SYNC. -/
def execColdTake (s : State) : Host.Outcome State Fault Refusal :=
  s.belDo fun s =>
    if s.standby && s.pairState != 3 && s.bel.promote.isNone then
      (s.reachMono (max s.bel.roleAt ((s.bel.foreign.map (·.1)).getD 0) + 20000000)).coldTake
    else s

/-! ### Lanes (R482) -/

/-- Both lanes are down: the pair state is NONE; a SYNCED standby module decides under R490 (log entry 29), but not the one that has just demoted itself in a
planned handover: there the other module's fail-over ends the handover (R497). -/
def State.linkDown (s : State) : State :=
  if s.anyUp ∨ s.pairState = 0 then s
  else if s.role = 1 then (s.pairGo 0).roleGo 0
  else if s.pairState = 3 ∧ s.bel.handing = false then s
  else s.pairGo 0

def State.laneDown (s : State) (n : Nat) (lockLost : Bool) (bad : Nat) : State :=
  let was := s.fset (laneUpFld n)
  let s := (s.addSat (laneErrFld n) bad).belSet (fun b => { b with lockAt := b.lockAt.setIfInBounds n s.monoNow })
  let s := if lockLost then s.fput (laneLockFld n) 0 else s
  let s := if lockLost && !s.anyLock then s.belSet (fun b => { b with lossAt := s.now }) else s
  if was then (((s.fput (laneUpFld n) 0).raise Pg.BEL Ev.BEL_LANE_CHG).belNote Ev.BEL_LANE_CHG).linkDown else s

/-- LANE_DOWN: symbol lock lost for 1 µs, or 16 bad link frames within 10 ms. -/
def execLaneDown (lane : Fin 2) (lockLost : Bool) (badFrames : Nat) (s : State) : Host.Outcome State Fault Refusal :=
  s.belDo fun s => if lockLost || decide (16 ≤ badFrames) then s.laneDown lane lockLost badFrames else s.addSat (laneErrFld lane) badFrames

/-- LANE_UP: 100 ms of lock without a bad frame. -/
def execLaneUp (lane : Fin 2) (s : State) : Host.Outcome State Fault Refusal :=
  s.belDo fun s =>
    if s.fset (laneLockFld lane) && !s.fset (laneUpFld lane) then
      let s := s.reachMono (s.bel.lockAt.toList.getD lane 0 + 100000000)
      ((s.fput (laneUpFld lane) 1).raise Pg.BEL Ev.BEL_LANE_CHG).belNote Ev.BEL_LANE_CHG
    else s

/-! ### Heartbeats (R481, R483, R490) -/

/-- HEARTBEAT_SEND: every 50 µs of own monotonic time; its module time is that of the link's follower (R36). -/
def execHeartbeatSend (s : State) : Host.Outcome State Fault Refusal :=
  s.belDo fun s =>
    let s := match s.bel.hbOut with | some h => s.reachMono (h.mono + 50000) | none => s
    let (t, s) := s.follower 8
    s.belSet (fun b => { b with hbOut := some { mt := t, mono := s.monoNow, lastRx := b.hbIn.map (·.at_), tinv := s.timeInvalid } })

/-- One-way delay: half of what a heartbeat sent, its echo's waiting at the partner and the echo's return leave. -/
def State.linkDelay (s : State) (mono lastRx : Nat) : Option Nat :=
  s.bel.hbOut.map (fun h => min 0xFFFF ((((s.monoNow : Int) - h.mono - ((mono : Int) - lastRx)) / 2).toNat))

/-- The rate that takes the standby module's time to the active module's within one heartbeat, limited to SLEW_PPM (R483). -/
def State.steerRate (s : State) (mt : Nat) : Int :=
  let e : Int := ((mt + s.fget F.BEL_LINK_DLY_NS : Nat) : Int) - s.now
  let m : Int := (s.slewPpm * 1000000 : Nat)
  clampI (-m) m (e * 20000000)

def State.heartbeatIn (s : State) (mt mono : Nat) (lastRx : Option Nat) (tinv : Bool) : State :=
  let s := match lastRx.bind (fun r => s.linkDelay mono r) with | some d => s.fput F.BEL_LINK_DLY_NS d | none => s
  let s := s.belSet (fun b => { b with hbIn := some { at_ := s.monoNow, mt := mt, mono := mono, tinv := tinv }, due := s.monoNow, miss := 0 })
  if s.steered then
    let s : State := { s with rate := s.steerRate mt }
    if tinv = s.timeInvalid then s else s.setTimeInvalid tinv
  else s

/-- HEARTBEAT_RX: a heartbeat arrives on either lane. -/
def execHeartbeatRx (mt mono : Word64) (lastRx : Option Word64) (timeInvalid : Bool) (s : State) : Host.Outcome State Fault Refusal :=
  s.belDo fun s => if s.anyLock then s.heartbeatIn mt.toNat mono.toNat (lastRx.map (·.toNat)) timeInvalid else s

/-- HEARTBEAT_MISS: 55 µs after the previous heartbeat or due time. -/
def State.heartbeatMiss (s : State) : State :=
  let s := (s.reachMono (s.bel.due + 55000)).countSat R.BEL_HB_MISS 1
  let s := s.belSet (fun b => { b with due := b.due + 50000, miss := b.miss + 1 })
  if 4 ≤ s.bel.miss ∧ s.anyLock = true then s.failover else s

def execHeartbeatMiss (s : State) : Host.Outcome State Fault Refusal :=
  s.belDo fun s => if s.bel.hbIn.isSome then s.heartbeatMiss else s

/-- DOWN arrives on either lane. -/
def execDown (s : State) : Host.Outcome State Fault Refusal := s.belDo State.failover

/-- LINK_LOSS_DECIDE: the first SYNC launch after the loss of lock, plus LATE_US. -/
def State.linkLossDecide (s : State) : State :=
  let s := s.reach (s.syncLaunch (s.cycleFrom s.bel.lossAt) + max 1 (s.fget F.FNET_SYNC_CFG_LATE_US) * 1000)
  match s.bel.foreign with
  | some (_, t) => if s.bel.lossAt ≤ t then s.pairGo 0 else s.failover
  | none => s.failover

def execLinkLossDecide (s : State) : Host.Outcome State Fault Refusal :=
  s.belDo fun s => if s.role == 2 && s.pairState == 3 && decide (4 ≤ s.bel.miss) && !s.anyLock && s.bel.promote.isNone then s.linkLossDecide else s

/-! ### Copy units (R484, R485, R487) -/

/-- The next boundary of 1 ms for which no BG unit has been formed. -/
def State.bgBoundary (s : State) : Nat :=
  let t := (s.instFrom + 999999) / 1000000 * 1000000
  if s.bel.seen.at_ = some t then t + 1000000 else t

/-- BG_UNIT: the interval's load is told, and the unit of the boundary is formed. -/
def State.bgUnit (s : State) : State :=
  let t := s.bgBoundary
  let s := s.reach t
  if s.stepDue then s
  else
  let s := s.nrgFlush
  let s := (s.wr R.BEL_COPY_PEAK (BitVec.ofNat 32 (max s.bel.load (s.rd R.BEL_COPY_PEAK).toNat))).belSet (fun b => { b with load := 0 })
  (s.formUnit (s.bgContents .bg)).bgTold t

def execBgUnit (s : State) : Host.Outcome State Fault Refusal := s.belDo fun s => if s.copies then s.bgUnit else s

/-- A unit that failed ends SYNCED on both modules. -/
def State.copyOvf (s : State) : State :=
  let s := (s.raise Pg.BEL Ev.BEL_COPY_OVF).belNote Ev.BEL_COPY_OVF
  if s.pairState = 3 then s.resyncEnter else s

/-- The Belay link controller reads the unit from its staging memory; which words it reads is open, so each listed word with flips is read or not by a
free value, and an uncorrectable one marks the copy bad (R131; log entry 54). -/
def State.stagedBad (s : State) : Bool × State :=
  ((s.ecc.map (·.1)).filter (fun a => eccInst a == some 6)).foldl (fun (x : Bool × State) a =>
    let (v, s) := x.2.draw
    if v.getLsbD 0 then (let (ok, s) := s.eccScan .bel [a]; (x.1 || !ok, s)) else (x.1, s)) (false, s)

/-- The standby module takes a whole unit. A unit before the next in order has been applied already. -/
def State.unitIn (s : State) (u : CopyUnit) : State :=
  let (bad, s) := s.stagedBad
  let old := match s.bel.expect with | some n => decide (u.seq < n) | none => u.kind != UnitKind.pass && s.pairState == 2
  if old then s
  else if bad || (match u.package with | some p => !s.packageOk p | none => false) then s.copyOvf
  else
    let s := ((s.applyUnit u).belSet (fun b => { b with expect := some (u.seq + 1) })).handoverDone
    if u.kind = UnitKind.final ∧ s.pairState = 3 then s.belSet (fun b => { b with promote := some false }) else s

/-- COPY_UNIT_APPLY: on the standby module a unit arrives whole or has failed; on the active module the partner reports one that has failed. -/
def execCopyUnitApply (unit : CopyUnit) (arrived : Bool) (s : State) : Host.Outcome State Fault Refusal :=
  s.belDo fun s =>
    if s.role == 2 && decide (2 ≤ s.pairState) then (let s := s.aligned s.ptp.steps.length; if arrived then s.unitIn unit else s.copyOvf)
    else if s.role == 1 && !arrived then s.copyOvf
    else s

/-! ### Handovers (R489 to R493, R499) -/

def execSwap (req : Req) (s : State) : Host.Outcome State Fault Refusal := s.regCmd req R.BEL_CMD State.swapCmd
def execCancel (req : Req) (s : State) : Host.Outcome State Fault Refusal := s.regCmd req R.BEL_CMD State.cancelCmd
def execRelinquish (req : Req) (s : State) : Host.Outcome State Fault Refusal := s.regCmd req R.BEL_CMD State.relinquishCmd

/-- SWAP_DUE: it waits for an online change to end, and for a paired update (R544). -/
def execSwapDue (s : State) : Host.Outcome State Fault Refusal :=
  s.belDo fun s =>
    match s.swapDueAt with
    | some t =>
      if s.role == 1 && s.pairState == 3 && s.bel.swap.isNone then
        let s := s.reachMono t
        if s.ochg.st == .idle && (s.upd.pairStep == 0 || s.bel.retryAt.isSome) then s.swapStart else s
      else s
    | none => s

/-- SWAP_REFUSED: a condition fails, or 10 s have passed. -/
def execSwapRefused (s : State) : Host.Outcome State Fault Refusal :=
  s.belDo fun s =>
    match s.bel.swap with
    | some t => (if s.swapOk then s.reachMono t else s).swapRefuse
    | none => s

/-- ALIVE: a write of BEL.ALIVE. -/
def State.aliveWrite (s : State) : State := s.belSet (fun b => { b with aliveAt := s.monoNow })
def execAlive (req : Req) (s : State) : Host.Outcome State Fault Refusal := s.regCmd req R.BEL_ALIVE State.aliveWrite

/-- ALIVE_TIMEOUT: MS milliseconds without a write on an active module. -/
def State.aliveTimeout (s : State) : State :=
  let s := s.reachMono (s.bel.aliveAt + min 1000 (s.fget F.BEL_ALIVE_CFG_MS) * 1000000)
  let s := if s.role = 1 ∧ s.pairState = 3 then s.sendDown.demote else s.aliveWrite
  (s.raise Pg.BEL Ev.BEL_DEMOTED).belNote Ev.BEL_DEMOTED

def execAliveTimeout (s : State) : Host.Outcome State Fault Refusal :=
  s.belDo fun s => if s.isActive && s.fget F.BEL_ALIVE_CFG_MS != 0 then s.aliveTimeout else s

/-- CKPT_SAVE: every CKPT_CFG.S seconds, of a module that runs alone with BEL disabled too (R75, R495). -/
def execCkptSave (s : State) : Host.Outcome State Fault Refusal :=
  s.whenAwake fun s =>
    let n := s.fget F.BEL_CKPT_CFG_S
    if n = 0 then s
    else
      let t := s.bel.ckptAt + n * 1000000000
      ((s.reachMono t).belSet (fun b => { b with ckptAt := t })).ckptSave 0

/-- CKPT_DONE: the CRC is written. -/
def execCkptDone (s : State) : Host.Outcome State Fault Refusal := s.whenAwake State.ckptEnd

end Sys2Proof.Machine
end

