-- ==== Sys2Proof/Machine/Upd.lean ====
section
/-! DEFINITION. Firmware update (19 R527 to R549, R554): containers, blocks, verification, staging, the Bivouac hold, the switch of a pair,
confirmation, and recovery. -/
namespace Sys2Proof.Machine

def State.flashSet (s : State) (f : Flash → Flash) : State := { s with flash := f s.flash }
def State.bootRecSet (s : State) (f : BootRec → BootRec) : State := s.flashSet (fun x => { x with boot := { f x.boot with seq := x.boot.seq + 1 } })
def State.updState (s : State) : Nat := s.fget F.UPD_STAT_STATE

/-- Number of the image bank that is active, and of the other. -/
def State.activeBank (s : State) : Nat := boolNat s.flash.boot.activeB
def State.idleBank (s : State) : Nat := 1 - s.activeBank

/-! ### Containers (R527 to R531) -/

/-- `n` bytes at offset `o` of the container in image bank `k`. -/
def State.cont (s : State) (k o n : Nat) : List Byte :=
  let b := s.flash.banks.toList.getD k []
  (List.range n).map (fun i => tabGet (fun _ => (0 : Byte)) b (o + i))

def State.contLe (s : State) (k o n : Nat) : Nat := leNat (s.cont k o n)

structure Part where
  type : Nat
  stype : Nat
  target : Nat
  version : Nat
  offset : Nat
  length : Nat
  base : Nat
  digest : Nat
deriving DecidableEq, Repr

/-- Part entry `i` of the manifest in bank `k` (R529). -/
def State.part (s : State) (k i : Nat) : Part :=
  let e := s.cont k (256 + 64 * i) 64
  { type := byteOf e 0, stype := leOf e 2 2, target := leOf e 4 6, version := leOf e 12 4, offset := leOf e 16 4, length := leOf e 20 4
    base := leOf e 24 8, digest := leOf e 32 32 }

def State.nParts (s : State) (k : Nat) : Nat := s.contLe k 6 2
def State.parts (s : State) (k : Nat) : List Part := (List.range (min 512 (s.nParts k))).map (s.part k)
def State.secVerOf (s : State) (k : Nat) : Nat := s.contLe k 8 1
def State.buildOf (s : State) (k : Nat) : BitVec 64 := BitVec.ofNat 64 (s.contLe k 16 8)
def State.serialA (s : State) (k : Nat) : Nat := s.contLe k 32 6
def State.serialB (s : State) (k : Nat) : Nat := s.contLe k 38 6

/-- The part of type `t` for the module with a serial. -/
def State.partFor (s : State) (k t serial : Nat) : Option Part := (s.parts k).find? (fun p => p.type == t && (p.target == 0 || p.target == serial))

/-- The part of type `t` for this module. -/
def State.myPart (s : State) (k t : Nat) : Option Part := s.partFor k t s.trust.otp.serial.toNat

/-- The manifest in bank `k` fits the module with a serial: both serials 0 fit any single module (R528). -/
def State.fits (s : State) (k serial : Nat) : Bool :=
  if s.serialA k = 0 ∧ s.serialB k = 0 then s.pairState == 0 else s.serialA k == serial || s.serialB k == serial

/-- Length limits by TYPE (R529). -/
def partLenOk (p : Part) : Bool :=
  match p.type with
  | 1 => decide (p.length ≤ 0x70000) | 2 => p.length == 0x400000 | 3 => decide (p.length ≤ 0x4000000) | 4 => p.length == 6160
  | 5 => decide (p.length ≤ 0x400000) | _ => false

/-- A part lies where R527 puts parts. -/
def partPlaceOk (len : Nat) (p : Part) : Bool := decide (0x20000 ≤ p.offset) && p.offset % 4096 == 0 && decide (p.offset + p.length ≤ len)

/-- Parts do not overlap. -/
def partsApart : List Part → Bool
  | [] => true
  | p :: l => l.all (fun q => decide (p.offset + p.length ≤ q.offset) || decide (q.offset + q.length ≤ p.offset)) && partsApart l

/-- The key of the manifest's signature (R526, R530). -/
def State.manifestKey (s : State) (key : Nat) : Bool :=
  if lcState s.trust.otp = 0 then key == 0xF0 else (key == 0 || key == 1) && slotUsable s.trust.otp key

/-- The manifest is laid out as R527 to R529 say, in a container of `len` bytes. -/
def State.manifestOk (s : State) (k len : Nat) : Bool :=
  let l := s.parts k
  s.contLe k 0 4 == 0x464D465A && s.contLe k 4 2 == 1 && decide (4 ≤ s.nParts k) && decide (s.nParts k ≤ 512) && s.contLe k 44 4 == len
    && l.all (fun p => partLenOk p && partPlaceOk len p) && partsApart l

/-- The serials that the manifest fits. -/
def State.fitSerials (s : State) (k : Nat) : List Nat :=
  if s.serialA k = 0 ∧ s.serialB k = 0 then [s.trust.otp.serial.toNat] else [s.serialA k, s.serialB k].filter (· != 0)

/-- Exactly one part of each TYPE 1 to 4 for each module, TYPE 4 with a TARGET, and one part of each STYPE. -/
def State.partSetOk (s : State) (k : Nat) : Bool :=
  let l := s.parts k
  (s.fitSerials k).all (fun n => [1, 2, 3, 4].all (fun t => l.countP (fun p => p.type == t && (p.target == 0 || p.target == n)) == 1))
    && l.all (fun p => p.type != 4 || p.target != 0) && noDup ((l.filter (fun p => p.type == 5)).map (·.stype))

/-- Serial of the partner. -/
def State.partnerFits (s : State) (k : Nat) : Bool := match s.bel.partner with | some m => s.fits k m.serial.toNat | none => false

/-- R531 on a metering tables part. -/
def State.tablesOk (s : State) (k : Nat) (p : Part) : Bool :=
  let id := s.contLe k p.offset 4
  id != 0 && id != 0xFFFFFFFF && s.contLe k (p.offset + 4) 6 == p.target && s.contLe k (p.offset + 10) 6 == 0
    && (List.range 24).all (fun c => calCheck (s.cont k (p.offset + 16 + 256 * c) 256) == 0)

/-- The reason for which verification of the container of `len` bytes in bank `k` fails; 0 where it passes (R530, R531, R536). A standby module goes by its
own serial (R539). -/
def State.verifyReason (s : State) (k len : Nat) (sigOk digestsOk : Bool) : Nat :=
  if !blockOk (s.cont k 0x10000 16) s.manifestKey sigOk then 1
  else if !s.manifestOk k len || !s.partSetOk k then 3
  else if s.secVerOf k < s.trust.otp.counter then 5
  else if !s.fits k s.trust.otp.serial.toNat && (s.role == 2 || !s.partnerFits k) then 6
  else if !digestsOk then 4
  else if !(s.parts k).all (fun p => p.type != 4 || s.tablesOk k p) then 3
  else 0

/-! ### UPD_BEGIN (R535) -/

/-- Largest container, and smallest. -/
def contMax : Nat := 768 * 1024 * 1024
def contMin : Nat := 0x21000

def State.bankValid (s : State) (k : Nat) (v : Bool) : State := s.bootRecSet (fun b => { b with valid := b.valid.setIfInBounds k v })

/-- The inactive bank is invalid, its program records are cleared, and a container of `len` bytes is expected. -/
def State.receiveBegin (s : State) (len id : Nat) : State :=
  let k := s.idleBank
  let s := s.bankValid k false
  let s := s.flashSet (fun f => { f with progs := (f.progs.setIfInBounds (2 * k) {}).setIfInBounds (2 * k + 1) {}, banks := f.banks.setIfInBounds k [] })
  let s := ((s.wr R.UPD_ID (BitVec.ofNat 32 id)).wr R.UPD_LENGTH (BitVec.ofNat 32 len)).wr R.UPD_RX_BLOCKS 0
  ((s.wr R.UPD_STAGE 0).updSet (fun u => { u with taken := [], verifying := none, activating := none, stations := [], partner := none, step := 0, pairStep := 0 })).updGo 1

def State.updBegin (s : State) (core len : Nat) : State :=
  if lcState s.trust.otp = 4 then (s.fput F.UPD_REASON_CODE 13).mboxDone core mbForbidden 13 0
  else if s.updState ≠ 0 then s.mboxEnd core mbForbidden
  else if len < contMin ∨ contMax < len then s.mboxEnd core mbBadRequest
  else
    let (v, s) := s.drawNonzero
    let id := if v.toNat % 2 ^ 32 = 0 then 1 else v.toNat % 2 ^ 32
    (s.receiveBegin len id).mboxDone core mbDone 0 id

/-- UPD_BEGIN: mailbox request 0x30. -/
def execUpdBegin (core : Fin 4) (len : Word) (s : State) : Host.Outcome State Fault Refusal :=
  s.whenAwake fun s => s.mbox core 0x30 [len] (s.coreComp0 core) (fun s => s.updBegin core len.toNat)

/-! ### Blocks (R532 to R534) -/

/-- Slot `k` of the update window. -/
def windowSlot (k : Nat) : Nat := 0x10EC4000 + 0x1100 * k

def State.slotBusy (s : State) (k : Nat) : Bool := s.bit R.UPD_SLOT_STAT k

/-- A write of UPD.SUBMIT. -/
def State.updSubmit (s : State) (k : Nat) : State :=
  if s.slotBusy k then s.flag F.UPD_FAULT_SLOT_BUSY else (s.setBit R.UPD_SLOT_STAT k true).setBit R.UPD_SLOT_STAT (8 + k) false

/-- UPD_SUBMIT. -/
def execUpdSubmit (req : Req) (slot : Fin 8) (s : State) : Host.Outcome State Fault Refusal := s.regCmd req R.UPD_SUBMIT (fun s => s.updSubmit slot)

/-- Number of blocks of a container of `len` bytes. -/
def blockCount (len : Nat) : Nat := (len + 4095) / 4096

/-- The first check of R534 that block `b` fails, past the check of the state; 0 where it passes. `taken` holds the offsets already taken and `old`
reads what they hold. -/
def blockReason (b : List Byte) (id len : Nat) (taken : List Nat) (old : Nat → Nat → List Byte) : Nat :=
  let n := leOf b 2 2
  let o := leOf b 8 8
  let d := (b.drop 64).take n
  if !(leOf b 0 2 == 1 && leOf b 4 4 == id && leOf b 20 44 == 0) then 1
  else if !(n == 4096 || (decide (n < 4096) && o + n == len)) then 2
  else if !(o % 4096 == 0 && decide (o < len)) then 3
  else if !(leOf b 16 4 == (crc32c (b.take 16 ++ d)).toNat) then 4
  else if taken.contains o && !(old o n == d) then 5
  else 0

/-- Bytes of a container go to flash at their offset. -/
def State.flashPut (s : State) (k o : Nat) (d : List Byte) : State :=
  let put (l : List Host.Cell) : List Host.Cell :=
    ((List.range d.length).zip d).foldl (fun l e => tabSet (fun _ => (0 : Byte)) l (o + e.1) e.2) l
  s.flashSet (fun f => { f with banks := f.banks.setIfInBounds k (put (f.banks.toList.getD k [])) })

/-- A block of `d` at offset `o` has passed: a new one is written, a repeated one counted; a flash write that fails twice ends the update. -/
def State.blockTake (s : State) (o : Nat) (d : List Byte) (writeOk : Bool) : State :=
  if s.upd.taken.contains o then (s.countSat R.UPD_RX_REPEAT 1).raise Pg.UPD Ev.UPD_BLOCK_DONE
  else if writeOk then
    (((s.flashPut s.idleBank o d).countSat R.UPD_RX_BLOCKS 1).updSet (fun u => { u with taken := o :: u.taken })).raise Pg.UPD Ev.UPD_BLOCK_DONE
  else (s.raise Pg.UPD Ev.UPD_BLOCK_DONE).updFail 15

/-- A block of a slot is refused. -/
def State.blockRefuse (s : State) (k reason : Nat) : State :=
  let s := if reason = 4 then s.countSat R.UPD_CRC_ERR 1 else s
  let s := (s.setBit R.UPD_SLOT_STAT (8 + k) true).wr R.UPD_SLOT_ERR (BitVec.ofNat 32 (k * 256 + reason))
  s.raise Pg.UPD Ev.UPD_BLOCK_ERR

/-- The block of slot `k` is checked and BUSY clears. An uncorrectable word of the window is a receive error (R131). -/
def State.slotCheck (s : State) (k : Nat) (writeOk : Bool) : State :=
  let s := s.setBit R.UPD_SLOT_STAT k false
  if s.updState ≠ 1 then s.blockRefuse k 6
  else
    let (ok, b, s) := s.readWords (windowSlot k) .upd 520
    let r := blockReason b (s.rd R.UPD_ID).toNat (s.rd R.UPD_LENGTH).toNat s.upd.taken (s.cont s.idleBank)
    if r = 0 ∧ ok = false then s.blockRefuse k 4
    else if r = 0 then s.blockTake (leOf b 8 8) ((b.drop 64).take (leOf b 2 2)) writeOk
    else s.blockRefuse k r

/-- A block that the active module's anchor sends over the link (R539); the first one begins the update here. -/
def State.linkBlock (s : State) (x : LinkBlock) (writeOk : Bool) : State :=
  if s.role = 2 ∧ s.anyUp = true then
    let s := if s.updState = 0 ∧ lcState s.trust.otp ≠ 4 then
        let (v, s) := s.drawNonzero
        s.receiveBegin x.length.toNat (if v.toNat % 2 ^ 32 = 0 then 1 else v.toNat % 2 ^ 32)
      else s
    let len := (s.rd R.UPD_LENGTH).toNat
    let o := x.offset.toNat
    let n := x.data.length
    if s.updState = 1 ∧ o % 4096 = 0 ∧ o < len ∧ (n = 4096 ∨ (n < 4096 ∧ o + n = len)) then
      if s.upd.taken.contains o ∧ s.cont s.idleBank o n ≠ x.data then s else s.blockTake o x.data writeOk
    else s
  else s

/-- UPD_BLOCK_DONE: the block of a slot, or one of the partner's container. `writeOk` is false where the flash write has failed twice. -/
def execUpdBlockDone (slot : Fin 8) (link : Option LinkBlock) (writeOk : Bool) (s : State) : Host.Outcome State Fault Refusal :=
  s.whenAwake fun s =>
    match link with
    | some x => s.linkBlock x writeOk
    | none => if s.slotBusy slot then s.slotCheck slot writeOk else s

/-! ### Staging (R537, R538) -/

/-- FW_CTL. -/
def State.fwCtl (s : State) (ch addr op a b : Nat) : State :=
  s.q0 (s.mfpFrame ch 7 addr 2 0 0 false ([BitVec.ofNat 8 op, 0] ++ natLe 2 a ++ natLe 4 b))

def sameStn (a b : Staging) : Bool := a.ch == b.ch && a.addr == b.addr

def State.stagePut (s : State) (g : Staging) : State := s.updSet (fun u => { u with stations := u.stations.map (fun x => if sameStn x g then g else x) })

/-- The station that channel `ch` is staging: the first that is not READY. -/
def State.stageOn (s : State) (ch : Nat) : Option Staging := s.upd.stations.find? (fun g => g.ch == ch && g.phase != .ready && g.phase != .activated)

/-- The staging of a station that is PRESENT begins, or begins anew. -/
def State.stageBegin (s : State) (g : Staging) : State :=
  match s.stn (stnKey g.ch g.addr) with
  | some x =>
    if x.st = .present then
      (s.fwCtl g.ch g.addr 1 g.stype g.length).stagePut { g with phase := .begun, offset := 0, tries := 0, sentAt := s.monoNow, lost := x.lostCount }
    else s.stagePut { g with phase := .waiting }
  | none => s

/-- Channel `ch` goes on to its next station. -/
def State.stageKick (s : State) (ch : Nat) : State :=
  match s.stageOn ch with
  | some g => if g.phase = .waiting then s.stageBegin g else s
  | none => s

/-- The station has been LOST since its staging began (R538). -/
def State.stageLost (s : State) (g : Staging) : Bool :=
  match s.stn (stnKey g.ch g.addr) with
  | some x => x.st != .present || x.lostCount != g.lost
  | none => true

/-- ABORT to the stations whose staging has begun. -/
def State.stageAbort (s : State) : State :=
  let l := s.upd.stations.filter (fun g => g.phase != .waiting && g.phase != .activated)
  (l.foldl (fun s g => s.fwCtl g.ch g.addr 5 0 0) s).updSet (fun u => { u with stations := [] })

/-- The update fails in staging. -/
def State.stageFail (s : State) (reason : Nat) : State := s.stageAbort.updFail reason

/-- The stations that the container in bank `k` is for (R538): PRESENT, with another firmware version. -/
def State.stageList (s : State) (k : Nat) : List Staging :=
  (s.parts k).flatMap (fun p =>
    if p.type = 5 then
      (s.mfp.stations.filter (fun e => e.2.st == .present && e.2.stype == p.stype && e.2.fwVer != p.version)).map (fun e =>
        { ch := e.1 / 256, addr := e.1 % 256, stype := p.stype, version := p.version, part := p.offset, length := p.length })
    else [])

/-- A station of the list has no second bank (CAPS bit 2 of R198). -/
def State.stageNoBank (s : State) : Bool :=
  s.upd.stations.any (fun g => match s.stn (stnKey g.ch g.addr) with | some x => x.caps / 4 % 2 == 0 | none => true)

/-- UPD.STAGE. -/
def State.stageStat (s : State) : State :=
  (s.fput F.UPD_STAGE_TOTAL s.upd.stations.length).fput F.UPD_STAGE_READY (s.upd.stations.countP (fun g => g.phase == .ready))

/-- Staging of the container in the inactive bank begins; a standby module stages no station. -/
def State.stageStart (s : State) : State :=
  let l := if s.standby then [] else s.stageList s.idleBank
  let s := (s.updSet (fun u => { u with stations := l })).stageStat
  if s.stageNoBank then s.stageFail 8 else [0, 1, 2, 3].foldl (fun s ch => s.stageKick ch) s

/-- Data bytes of a FW_DATA frame. -/
def fwChunk : Nat := 60

/-- The next FW_DATA frame of a staging is sent. -/
def State.fwSend (s : State) (g : Staging) : State :=
  let d := padTo 60 (s.cont s.idleBank (g.part + g.offset) (min fwChunk (g.length - g.offset)))
  let s := s.q0 (s.mfpFrame g.ch 7 g.addr 0 (g.offset / 60 % 4096) 0 false (natLe 4 g.offset ++ d))
  (s.stagePut { g with tries := g.tries + 1, sentAt := s.monoNow }).updSet (fun u => { u with sentAt := u.sentAt.setIfInBounds g.ch s.monoNow })

/-- The station has let the time of R537 for its FW_STAT pass: 10 ms after BEGIN, 2 s after END. That this fails the update is how the model reads R538
(DEDUCED, log entry 66). -/
def State.stageSilent (s : State) (g : Staging) : Bool :=
  (g.phase == .begun && decide (g.sentAt + 10000000 < s.monoNow)) || (g.phase == .ended && decide (g.sentAt + 2000000000 < s.monoNow))

/-- FW_DATA_SEND: at most one frame per 4 ms on a channel; again when no FW_ACK has come within 20 ms, and three times at most. -/
def State.fwData (s : State) (ch : Nat) : State :=
  match s.stageOn ch with
  | none => s
  | some g =>
    if g.phase = .waiting ∨ s.stageLost g = true then s.stageBegin g
    else if g.phase = .data then
      let s := s.reachMono (s.upd.sentAt.toList.getD ch 0 + 4000000)
      if g.tries = 0 then s.fwSend g
      else
        let s := s.reachMono (g.sentAt + 20000000)
        if g.tries ≤ 3 then s.fwSend g else s.stageFail 8
    else if s.stageSilent g then s.stageFail 8
    else s

/-- The update is being staged by this module. -/
def State.staging (s : State) : Bool := s.updState == 2 && s.iosSends

def execFwDataSend (ch : Fin 4) (s : State) : Host.Outcome State Fault Refusal := s.whenAwake fun s => if s.staging then s.fwData ch else s

/-- A FW_ACK: the station expects the image from offset `o` on. -/
def State.fwAcked (s : State) (g : Staging) (o : Nat) : State :=
  if g.phase ≠ .data then s
  else if s.stageLost g then s.stageBegin g
  else if g.length ≤ o then
    let crc := (crc32c (s.cont s.idleBank g.part g.length)).toNat
    (s.fwCtl g.ch g.addr 2 0 crc).stagePut { g with phase := .ended, offset := g.length, tries := 0, sentAt := s.monoNow }
  else s.stagePut { g with offset := o, tries := 0 }

/-- FW_ACK. -/
def execFwAck (ch : Fin 4) (s : State) : Host.Outcome State Fault Refusal :=
  s.whenAwake fun s => s.ringTakeKind ch (· == .fwAck) (fun h s => s.fromStation (stnKey ch h.addr) (fun _ s =>
    if s.staging then
      match s.stageOn ch with
      | some g => if g.addr = h.addr then s.fwAcked g (leOf h.data 0 4) else s
      | none => s
    else s))

/-- A FW_STAT of the station being staged. -/
def State.fwStatus (s : State) (g : Staging) (state version : Nat) : State :=
  if state = 3 then s.stageFail 8
  else if s.stageLost g then s.stageBegin g
  else if g.phase = .begun ∧ state = 1 then s.stagePut { g with phase := .data, offset := 0, tries := 0 }
  else if g.phase = .ended ∧ state = 2 ∧ version = g.version then ((s.stagePut { g with phase := .ready }).stageStat).stageKick g.ch
  else s

/-- FW_STAT. -/
def execFwStat (ch : Fin 4) (s : State) : Host.Outcome State Fault Refusal :=
  s.whenAwake fun s => s.ringTakeKind ch (· == .fwStat) (fun h s => s.fromStation (stnKey ch h.addr) (fun _ s =>
    if s.staging then
      match s.stageOn ch with
      | some g => if g.addr = h.addr ∧ g.phase ≠ .waiting then s.fwStatus g (byteOf h.data 0) (leOf h.data 4 4) else s
      | none => s
    else s))

/-! ### Verification (R535, R536) -/

/-- Every block of the container has been taken. -/
def State.complete19 (s : State) : Bool := s.upd.taken.length == blockCount (s.rd R.UPD_LENGTH).toNat

def State.updVerify (s : State) (core : Nat) : State :=
  if s.updState ≠ 1 then s.mboxEnd core 6
  else if s.upd.verifying.isSome then s.mboxEnd core mbBusy
  else if s.complete19 then s.updSet (fun u => { u with verifying := some core })
  else (s.fput F.UPD_REASON_CODE 7).mboxDone core mbRefused 7 0

/-- UPD_VERIFY: mailbox request 0x31. -/
def execUpdVerify (core : Fin 4) (s : State) : Host.Outcome State Fault Refusal :=
  s.whenAwake fun s => s.mbox core 0x31 [] (s.coreComp0 core) (fun s => s.updVerify core)

/-- Verification completes: the bank is marked valid with its BUILD_ID, and staging begins. -/
def State.verified (s : State) (sigOk : Bool) (out : VerifyOut) : State :=
  let k := s.idleBank
  let r := s.verifyReason k (s.rd R.UPD_LENGTH).toNat sigOk (out != .badDigest)
  if r ≠ 0 then (s.updFail r).verifyAnswer r
  else if out = .notWritten then (s.updFail 15).verifyAnswer 15
  else
    let build := s.buildOf k
    let s := s.bootRecSet (fun b => { b with valid := b.valid.setIfInBounds k true, build := b.build.setIfInBounds k build })
    ((s.updGo 2).verifyAnswer 0).stageStart

/-- UPD_VERIFY_DONE. A standby module verifies the partner's container when it is complete (R539). -/
def execUpdVerifyDone (sigOk : Bool) (out : VerifyOut) (s : State) : Host.Outcome State Fault Refusal :=
  s.whenAwake fun s =>
    if s.updState == 1 && s.complete19 && (s.upd.verifying.isSome || s.role == 2) then s.verified sigOk out else s

/-! ### READY (R539, R540) -/

/-- The partner's report: its BUILD_ID and its reason, 0 for READY. -/
def State.partnerReport (s : State) (build : BitVec 64) (reason : Nat) : State :=
  if s.role = 1 ∧ (s.updState = 1 ∨ s.updState = 2) ∧ (reason ≠ 0 ∨ build = s.buildOf s.idleBank) then
    let s := s.updSet (fun u => { u with partner := some reason })
    if s.updState = 2 ∧ reason ≠ 0 then s.stageFail 9 else s
  else s

/-- UPD_PARTNER_REPORT. -/
def execUpdPartnerReport (build : BitVec 64) (reason : BitVec 4) (s : State) : Host.Outcome State Fault Refusal :=
  s.whenAwake fun s => s.partnerReport build reason.toNat

/-- BASE of the TYPE 2 part is 0 or begins the digest of the running program. -/
def State.baseOk (s : State) : Bool :=
  match s.myPart s.idleBank 2 with
  | some p => p.base == 0 || p.base == s.bel.progDigest.toNat % 2 ^ 64
  | none => true

/-- The partner runs the container in the inactive bank already: this module joins it outside an update (R545). -/
def State.joins (s : State) : Bool :=
  match s.bel.partner with | some m => s.role == 2 && m.build == s.buildOf s.idleBank | none => false

/-- In a pair the active module waits for its partner. -/
def State.partnerReady (s : State) : Bool := s.role != 1 || s.upd.partner == some 0

def State.updReady (s : State) : State :=
  if s.updState ≠ 2 ∨ s.upd.stations.all (fun g => g.phase == .ready) = false then s
  else if s.role = 1 ∧ s.upd.partner.isSome = true ∧ s.upd.partner ≠ some 0 then s.stageFail 9
  else if s.partnerReady = false then s
  else if s.baseOk || s.joins then s.updGo 3 else s.stageFail 10

/-- UPD_READY. -/
def execUpdReady (s : State) : Host.Outcome State Fault Refusal := s.whenAwake State.updReady

/-! ### The switch (R541 to R545) -/

/-- The TYPE 2 part is copied into the inactive program bank. -/
def State.copyProgram (s : State) : State :=
  let b := s.spareBase
  match s.myPart s.idleBank 2 with
  | none => s
  | some p =>
    let cells := ((s.flash.banks.toList.getD s.idleBank []).filter (fun e => decide (p.offset ≤ e.1) && decide (e.1 < p.offset + p.length)))
    let s := s.wipe (fun a => decide (b ≤ a) && decide (a < b + 0x400000))
    cells.foldr (fun e s => s.putByte (b + (e.1 - p.offset)) e.2) s

def State.updActivate (s : State) (core : Nat) : State :=
  if s.updState ≠ 3 ∨ 2 ≤ s.role then s.mboxEnd core 6
  else if s.ochg.st ≠ .idle then s.mboxEnd core mbBusy
  else
    let s := s.copyProgram.updSet (fun u => { u with
      activating := some core, limit := s.monoNow + 10000000000, step := 0, pairStep := boolNat (s.role == 1) })
    (s.updGo 4).gapTest

/-- UPD_ACTIVATE: mailbox request 0x32, answered at the end of the switch. -/
def execUpdActivate (core : Fin 4) (s : State) : Host.Outcome State Fault Refusal :=
  s.whenAwake fun s => s.mbox core 0x32 [] (s.coreComp0 core) (fun s => s.updActivate core)

/-- The answer to the core whose UPD_ACTIVATE is being served. -/
def State.activateAnswer (s : State) (result reason : Nat) : State :=
  match s.upd.activating with
  | none => s
  | some c =>
    let s := s.updSet (fun u => { u with activating := none })
    if result = mbDone then s.mboxEnd c mbDone else s.mboxDone c result reason 0

/-- UPD_GAP_TIMEOUT. In a pair it comes only where the partner has left (log entry 5). -/
def execUpdGapTimeout (s : State) : Host.Outcome State Fault Refusal :=
  s.whenAwake fun s =>
    if s.updState == 4 && s.upd.step == 0 && s.role == 0 then
      ((((s.reachMono s.upd.limit).fput F.UPD_REASON_CODE 11).updSet (fun u => { u with pairStep := 0 })).updGo 3).activateAnswer mbRefused 11
    else s

/-- The Bivouac hold begins (step 1). A module whose partner has left in the switch of a pair keeps its build (R558). -/
def State.updGap (s : State) : State :=
  if s.updState = 4 ∧ s.upd.step = 0 ∧ s.role = 0 ∧ s.upd.pairStep = 0 ∧ s.gapHere = true then
    let s := (s.updSet (fun u => { u with hold := true, step := 1 })).ochgSet (fun o => { o with held := true })
    let s : State := { s with boot := { s.boot with rtRun := false, svcRun := false } }
    (s.sessionsEnd.fput F.ANC_STAT_STATE 3).raise Pg.ANC Ev.ANC_HOLD
  else s

/-- The standby module of a pair switches now: READY beside an active module that still runs the old build, or after the handover of step 3. -/
def State.standbySwitches (s : State) : Bool :=
  s.role == 2 && s.upd.step == 0 && (s.updState == 3 || (s.updState == 4 && s.upd.pairStep == 1))

/-- Steps 2 and 3: carry-over, point changes, task table and force releases; then the anchor's new image, with its version. -/
def State.reenter (s : State) : State :=
  let b := s.spareBase
  let s := (match s.myPart s.idleBank 2 with
    | some p => ((s.carryOver s.bankBase b).installPackage b).ochgSet (fun o => { o with header := padTo 32 [] ++ natLe 32 p.digest })
    | none => s)
  let s := match s.myPart s.idleBank 1 with | some p => s.wr R.ANC_FW_VER (BitVec.ofNat 32 p.version) | none => s
  s.updSet (fun u => { u with step := 3 })

/-- UPD_ANCHOR_REENTRY. -/
def execUpdAnchorReentry (s : State) : Host.Outcome State Fault Refusal :=
  s.whenAwake fun s =>
    if s.upd.hold && s.upd.step == 1 then s.reenter
    else if s.standbySwitches then
      let first := s.updState == 3
      let s := if first then (s.copyProgram.updSet (fun u => { u with pairStep := if s.joins then 0 else 2 })).updGo 4 else s
      ((s.pairGo 2).sessionsEnd).reenter
    else s

/-- The service image starts at the start of service memory. -/
def serviceBase : Nat := 0x210000000

/-- A service image fixes the entry points of R469: they are its own, and no rule gives them (log entry 9). -/
def State.drawEntries (s : State) : State :=
  let (v, s) := s.draw
  let e (x : Nat) : Nat := serviceBase + x % (0xE0000000 / 4) * 4
  (s.setPair R.CMPT_ENTRY2_LO R.CMPT_ENTRY2_HI (e v.toNat)).setPair R.CMPT_ENTRY3_LO R.CMPT_ENTRY3_HI (e (v.toNat / 2 ^ 32))

/-- The first 64 MiB of service memory are wiped and the service image of bank `k` is copied there. -/
def State.loadService (s : State) (k : Nat) : State :=
  match s.myPart k 3 with
  | none => s
  | some p =>
    let s := s.wipe (fun a => decide (serviceBase ≤ a) && decide (a < serviceBase + 0x4000000))
    let cells := ((s.flash.banks.toList.getD k []).filter (fun e => decide (p.offset ≤ e.1) && decide (e.1 < p.offset + p.length)))
    (cells.foldl (fun s e => s.putByte (serviceBase + (e.1 - p.offset)) e.2) s).drawEntries

/-- The metering tables of bank `k` are committed, with the effects of R356. -/
def State.loadTables (s : State) (k : Nat) : State :=
  match s.myPart k 4 with
  | none => s
  | some p =>
    let old := s.rd R.MTR_CAL_CRC
    let s := s.calInstall (s.cont k (p.offset + 16) 6144) (BitVec.ofNat 32 (s.contLe k p.offset 4))
    let s := s.mtrEvent Ev.MTR_CAL_CHG 0xFF
    let s := (List.range circCount).foldl (fun s m => if s.circOn m then s.mtrcSet m (fun c => { c with calChg := true }) else s) s
    s.note Pg.MTR Ev.MTR_CAL_CHG (natLe 4 old.toNat ++ natLe 4 (s.rd R.MTR_CAL_CRC).toNat)

/-- UPD_SERVICE_LOAD_DONE (step 4). -/
def execUpdServiceLoadDone (s : State) : Host.Outcome State Fault Refusal :=
  s.whenAwake fun s =>
    if s.upd.step == 3 then ((s.loadService s.idleBank).loadTables s.idleBank).updSet (fun u => { u with step := 4 }) else s

/-- Step 5: the boot record, the exchange of the program banks, and the restart of AC0 to AC3. -/
def State.bootRecordWritten (s : State) : State :=
  let k := s.idleBank
  let s := s.bootRecSet (fun b => { b with activeB := !b.activeB, trial := true, trialLeft := 2 })
  let s := s.trustSet (fun t => { t with build := s.buildOf k, secVer := s.secVerOf k })
  let fresh := s.ochg.installed
  let s := if (s.myPart k 2).isSome then s.exchangeBanks.ochgSet (fun o => { o with installed := [] }) else s
  let s : State := { s with boot := { s.boot with rtRun := true, svcRun := true, entry := (s.boot.entry.set 2 serviceBase).set 3 serviceBase } }
  s.updSet (fun u => { u with step := 5, fresh := if u.hold then [] else fresh })

/-- The switch completes: TRIAL, and the answer to UPD_ACTIVATE. -/
def State.switched (s : State) : State :=
  let s := (s.updSet (fun u => { u with trialFrom := s.monoNow, step := 0, hold := false })).updGo 5
  s.activateAnswer mbDone 0

/-- UPD_BOOT_RECORD_WRITTEN. A standby module has switched with it, and resynchronises (R544). -/
def execUpdBootRecordWritten (s : State) : Host.Outcome State Fault Refusal :=
  s.whenAwake fun s =>
    if s.upd.step == 4 then
      let s := s.bootRecordWritten
      if s.upd.hold then s
      else
        let last := s.upd.pairStep == 1
        (s.switched.updSet (fun u => { u with pairStep := if last then 0 else u.pairStep })).relink
    else s

/-- ACTIVATE to every staged station on its channel, for the first cycle at least 100 ms ahead (R543). -/
def State.activateStations (s : State) : State :=
  let n := (s.now + 100000000 + msNs - 1) / msNs
  let l := s.upd.stations.filter (fun g => g.phase == .ready)
  let s := l.foldl (fun s g => s.q0 (s.mfpFrame g.ch 7 g.addr 2 0 0 false ([4, 0] ++ natLe 6 n))) s
  s.updSet (fun u => { u with activateCycle := n, stations := l.map (fun g => { g with phase := .activated }) })

/-- Step 6: the hold ends. -/
def State.holdEnd (s : State) : State :=
  let t := s.monoNow
  let s : State := { s with tasks := s.tasks.map (fun e => (e.1, { e.2 with notBefore := max e.2.notBefore (t + 50000) })) }
  let s := (s.releaseHold.fput F.ANC_STAT_STATE 1).raise Pg.ANC Ev.ANC_HOLD
  s.switched.activateStations

/-- HOLD_END. -/
def execHoldEnd (s : State) : Host.Outcome State Fault Refusal :=
  s.whenAwake fun s => if s.upd.hold && s.upd.step == 5 then s.holdEnd else s

/-- The new active module of a pair whose update is being switched activates the stations (R544, step 4): those that its container is for. -/
def State.pairActivate (s : State) : State :=
  if s.updState = 5 ∧ s.upd.pairStep = 2 then
    let l := (s.stageList s.activeBank).map (fun g => { g with phase := .ready })
    (s.updSet (fun u => { u with stations := l, pairStep := 0 })).activateStations
  else s

/-- Tasks whose settings the new package changes start at the promotion, as reinstalled ones do (R264, R545). -/
def State.freshStart (s : State) (switching : Bool) : State :=
  (if switching then s.upd.fresh.foldl State.enableStart s else s).updSet (fun u => { u with fresh := [] })

/-- A foreign SYNC that came while the promotion was in progress (R497). -/
def State.dualAfter (s : State) : State := if s.bel.dual then (s.belSet (fun b => { b with dual := false })).dualActive else s

/-- PROMOTE: a fail-over or a planned handover completes. -/
def execPromote (s : State) : Host.Outcome State Fault Refusal :=
  s.belDo fun s =>
    match s.bel.promote with
    | some fail => if s.role = 2 then (((s.promoteNow fail).freshStart s.sameUpdate).pairActivate).dualAfter else s
    | none => s

/-- SYNCED: a pass of RESYNC has ended with nothing left. In a pair whose update is being switched the active module then hands over (R544, step 3). -/
def execSynced (s : State) : Host.Outcome State Fault Refusal :=
  s.belDo fun s =>
    if s.pairState == 2 && (s.role != 2 || s.upd.step == 0) then
      let s := s.pairGo 3
      if s.role == 1 && s.upd.pairStep == 1 && s.sameUpdate then s.swapStart else s
    else s

/-! ### Abort and confirmation (R535, R549, R558) -/

/-- UPD_ABORT. A gap found in its cycle goes first, and once the switch has begun the answer is TOO_LATE (R558); R535 has no abort in any other state
than RECEIVING to READY. -/
def State.updAbort (s : State) (core : Nat) : State :=
  let s := s.updGap
  if s.updState = 4 ∧ s.upd.step ≠ 0 then s.mboxEnd core mbTooLate
  else if s.updState = 0 ∨ 4 ≤ s.updState then s.mboxEnd core mbForbidden
  else ((s.stageFail 12).verifyAnswer 12).mboxEnd core mbDone

/-- UPD_ABORT: mailbox request 0x33. -/
def execUpdAbort (core : Fin 4) (s : State) : Host.Outcome State Fault Refusal :=
  s.whenAwake fun s => s.mbox core 0x33 [] (s.coreComp0 core) (fun s => s.updAbort core)

/-- A trial is confirmed: fuses up to SEC_VER, TRIAL 0, and the record. -/
def State.confirm (s : State) : State :=
  let s := s.otpSet (fun o => { o with counter := max o.counter (min 255 s.trust.secVer) })
  ((s.bootRecSet (fun b => { b with trial := false })).note Pg.UPD noBit (natLe 8 s.trust.build.toNat ++ natLe 1 s.trust.otp.counter)).updGo 0

/-- UPD_CONFIRM: mailbox request 0x34. -/
def execUpdConfirm (core : Fin 4) (s : State) : Host.Outcome State Fault Refusal :=
  s.whenAwake fun s =>
    s.mbox core 0x34 [] (s.coreComp0 core) (fun s => if s.updState = 5 then s.confirm.mboxEnd core mbDone else s.mboxEnd core 6)

/-- UPD_AUTO_CONFIRM. -/
def execUpdAutoConfirm (s : State) : Host.Outcome State Fault Refusal :=
  s.whenAwake fun s => if s.updState == 5 && s.pins.ready then (s.reachMono (s.upd.trialFrom + 3600000000000)).confirm else s

/-! ### Recovery (R554) -/

/-- The answer of the console: one byte, which goes out on CON_TXD. -/
def State.consoleSay (s : State) (x : Nat) : State := { s with resp := .bytes [BitVec.ofNat 8 x], console := s.console ++ [.answer [BitVec.ofNat 8 x]] }

/-- The last block has been accepted and the container is complete: verified, and booted by a cold reset requested through RST.CMD; or the reason is sent
too, and a new first frame is awaited. -/
def State.consoleVerify (s : State) (len : Nat) (sigOk digestsOk : Bool) : State :=
  let k := s.idleBank
  let r := s.verifyReason k len sigOk digestsOk
  let s := (s.trustSet (fun t => { t with consoleLen := none, consoleTaken := [] })).consoleSay 0
  if r ≠ 0 then { s.consoleSay r with resp := .bytes [0, BitVec.ofNat 8 r] }
  else
    let build := s.buildOf k
    let s := s.bootRecSet (fun b => { b with
      activeB := k == 1, trial := false, valid := b.valid.setIfInBounds k true, build := b.build.setIfInBounds k build })
    let s := s.raise Pg.RST Ev.RST_NOTICE
    { s with boot := { s.boot with pend := some { warm := false, lifecycle := false, saveAt := s.cyc, saving := false } } }

/-- A first frame: the container's length. -/
def State.consoleFirst (s : State) (b : List Byte) : State :=
  let d := (b.drop 64).take 4
  let n := leOf d 0 4
  if !(leOf b 0 2 == 1 && leOf b 4 4 == 0 && leOf b 20 44 == 0) then s.consoleSay 1
  else if leOf b 2 2 ≠ 4 ∨ n < contMin ∨ contMax < n then s.consoleSay 2
  else if leOf b 16 4 ≠ (crc32c (b.take 16 ++ d)).toNat then s.consoleSay 4
  else
    let k := s.idleBank
    let s := (s.bankValid k false).flashSet (fun f => { f with banks := f.banks.setIfInBounds k [] })
    (s.trustSet (fun t => { t with consoleLen := some n, consoleTaken := [] })).consoleSay 0

/-- A block frame. -/
def State.consoleBlock (s : State) (b : List Byte) (len : Nat) (sigOk digestsOk : Bool) : State :=
  let o := leOf b 8 8
  let r := blockReason b 0 len s.trust.consoleTaken (s.cont s.idleBank)
  if r ≠ 0 then s.consoleSay r
  else
    let s := if s.trust.consoleTaken.contains o then s
      else (s.flashPut s.idleBank o ((b.drop 64).take (leOf b 2 2))).trustSet (fun t => { t with consoleTaken := o :: t.consoleTaken })
    if s.trust.consoleTaken.length = blockCount len then s.consoleVerify len sigOk digestsOk else s.consoleSay 0

/-- RECOVERY_CONSOLE_FRAME: the bytes of a frame; bytes that do not begin with 0xA5 0x5A are none. -/
def execRecoveryConsoleFrame (bytes : List Byte) (sigOk digestsOk : Bool) (s : State) : Host.Outcome State Fault Refusal :=
  s.whenLive fun s =>
    if s.boot.recovery && bytes.take 2 == [0xA5, 0x5A] then
      let b := bytes.drop 2
      if leOf b 8 8 = 2 ^ 64 - 1 then s.consoleFirst b
      else match s.trust.consoleLen with
        | some n => s.consoleBlock b n sigOk digestsOk
        | none => s.consoleSay 6
    else s

end Sys2Proof.Machine
end

