-- ==== Sys2Proof/Machine/Reset.lean ====
section
/-! DEFINITION. Supply, clocks, reset and start-up (01 R38 to R42, 02 R66 to R86 and R564, 04 R113 to R127). -/
namespace Sys2Proof.Machine

def State.hold (s : State) (f : Holds → Holds) : State := ({ s with sup := { s.sup with holds := f s.sup.holds } } : State).faultPin

/-! ### Supply (R66 to R77) -/

/-- VIN_RISE: the power-on sequence begins, with cause POWER_ON; the supervisor's own registers and its view of the clocks start again (log entry 51). -/
def execVinRise (s : State) : Host.Outcome State Fault Refusal :=
  .next (
    if s.sup.vin = .low then
      let s : State := { s with sup := { s.sup with vin := .inRange, aonFromVin := true } }
      let on : Vector Bool 11 := (Vector.replicate 11 false).set 10 (s.clkFails 10)
      let s : State := { s with sup := { s.sup with lostClk := on, pllOpen := Vector.replicate 7 false } }
      let s := ((s.coldEnter causePowerOn).hold (fun h => { h with vinLow := false }))
      ((s.wr R.RST_COLD_COUNT 0).wr R.RST_WARM_COUNT 0).wr R.CLK_LAST_RESET 0
    else s)

/-- UNDER_V. -/
def execUnderV (s : State) : Host.Outcome State Fault Refusal :=
  .next (
    if s.sup.vin = .low then s
    else
      let s := s.coldReset causeUnderV
      ({ s with sup := { s.sup with vin := .low } } : State).hold (fun h => { h with vinLow := true, overV := false }))

/-- OVER_V. -/
def execOverV (s : State) : Host.Outcome State Fault Refusal :=
  .next (
    if s.sup.vin = .inRange then
      let s := s.coldReset causeOverV
      ({ s with sup := { s.sup with vin := .high } } : State).hold (fun h => { h with overV := true })
    else s)

/-- OVER_V_RELEASE. -/
def execOverVRelease (s : State) : Host.Outcome State Fault Refusal :=
  .next (
    if s.sup.vin = .high then ({ s with sup := { s.sup with vin := .inRange } } : State).hold (fun h => { h with overV := false }) else s)

/-- ALWAYS_ON_SUPPLY_SWITCH: VIN crosses 7.5 V, which it can do only where it is below the under-voltage threshold (R69). -/
def execAlwaysOnSupplySwitch (s : State) : Host.Outcome State Fault Refusal :=
  .next (if s.sup.vin = .low then { s with sup := { s.sup with aonFromVin := !s.sup.aonFromVin } } else s)

/-- RESET_PIN (R72). -/
def execResetPin (s : State) : Host.Outcome State Fault Refusal :=
  .next (
    if s.pins.resetAsserted then s
    else
      let s := (s.coldReset causePin).hold (fun h => { h with resetPin := true })
      { s with pins := { s.pins with resetAsserted := true } })

/-- RESET_PIN_RELEASE. -/
def execResetPinRelease (s : State) : Host.Outcome State Fault Refusal :=
  .next (
    let s := s.hold (fun h => { h with resetPin := false })
    { s with pins := { s.pins with resetAsserted := false } })

/-- THERMAL (R82). -/
def execThermal (s : State) : Host.Outcome State Fault Refusal :=
  .next (if s.sup.holds.thermal then s else (s.coldReset causeThermal).hold (fun h => { h with thermal := true }))

/-- THERMAL_RELEASE. -/
def execThermalRelease (s : State) : Host.Outcome State Fault Refusal := .next (s.hold (fun h => { h with thermal := false }))

/-! ### Clocks (R41, R42) -/

/-- The supervisor's record of a lost clock. -/
def State.lastReset (s : State) (d : Nat) : State := (s.fput F.CLK_LAST_RESET_VALID 1).fput F.CLK_LAST_RESET_CLOCK d

def State.setLost (s : State) (d : Nat) (b : Bool) : State :=
  { s with sup := { s.sup with lostClk := s.sup.lostClk.setIfInBounds d b } }

/-- ALL_OK follows LOST. -/
def State.clkStat (s : State) : State := s.fput F.CLK_STAT_ALL_OK (boolNat (s.rd R.CLK_LOST == 0))

/-- Ports and lanes whose clock is lost go down. -/
def State.portsDown (s : State) : State := [0, 1, 2, 3].foldl (fun s p => if s.portClock p then s else s.linkSet p false) s

/-- The consequences of R41 of the loss of clock `d`, and those that end when it is restored. -/
def State.clockEffect (s : State) (d : Nat) (lost : Bool) : State :=
  match d with
  | 5 => s.mtrClock lost
  | 6 => if lost then s.portsDown else s
  | 7 => if lost then s.portsDown else s
  | 8 => if lost then (s.laneDown 0 true 0).laneDown 1 true 0 else s
  | 10 => if lost then s.aonLost else s.aonBack
  | _ => s

/-- CK_CAN is gated: a channel is in SLEEP and none runs (R148; which channels gate the domain is log entry 51). -/
def State.canGated (s : State) : Bool :=
  let st (n : Nat) : Nat := s.canState n
  [0, 1, 2, 3].any (fun n => st n == canSleep) && [0, 1, 2, 3].all (fun n => st n == canSleep || st n == canOff)

/-- A clock that the module gates on purpose is not monitored (R42): in sleep all but CK_REF, CK_FAB, CK_WAKE and CK_AON stop or are gated (R171). -/
def State.monitored (s : State) (d : Nat) : Bool :=
  if s.sup.asleep then d == 0 || d == 2 || d == 9 || d == 10 else d != 4 || !s.canGated

/-- Clock `d`, one of 4 to 10, is flagged lost: the flags, the event, the record and the consequences of R41. -/
def State.clkFlag (s : State) (d : Nat) : State :=
  let s := (((s.setBit R.CLK_LOST d true).setBit R.CLK_LOST_EVER d true).clkStat).raise Pg.CLK Ev.CLK_LOSS
  (s.note Pg.CLK Ev.CLK_LOSS [BitVec.ofNat 8 d]).clockEffect d true

/-- After a reset the monitor flags the clocks that are still lost. -/
def State.clksFlag (s : State) : State := [4, 5, 6, 7, 8, 9, 10].foldl (fun s d => if s.clkFails d then s.clkFlag d else s) s

/-- PLL_LOCK as the lock detectors report it. -/
def State.pllLocks (s : State) : Word :=
  BitVec.ofNat 32 ((List.range 7).foldl (fun a p => a + boolNat (!s.sup.pllOpen.toList.getD p false) * 2 ^ p) 0)

/-- A loss that puts or keeps the module in cold reset: of CK_REF, CK_CORE, CK_FAB and CK_ANC always, of another PLL clock at the check of step 3 of R71
(R564). -/
def State.lossHolds (s : State) (d : Nat) : Bool := decide (d < 4) || (s.sup.inReset && pllClocks.contains d)

/-- CLOCK_LOSS: a cold reset with cause CLOCK_LOSS where the loss holds the module; of another clock a flag, its event, its record and its consequences.
CK_AON stops the RTC in reset as well. -/
def execClockLoss (d : Fin 11) (s : State) : Host.Outcome State Fault Refusal :=
  .next (
    if s.clkFails d || !s.monitored d then s
    else
      let t := s.setLost d true
      if s.lossHolds d then ((if d.val = 0 then t.coldEnter causeClock else t.coldReset causeClock).lastReset d).faultPin
      else if s.live then t.clkFlag d
      else if d.val = 10 then t.aonLost else t)

/-- CLOCK_RESTORE: the clock has run within its restore tolerance for the restore time. The cause CLOCK_LOSS clears with CK_REF alone; a restored PLL clock
passes the check of step 3, which had held the module again (R564, log entry 51). -/
def execClockRestore (d : Fin 11) (s : State) : Host.Outcome State Fault Refusal :=
  .next (
    if !s.clkFails d then s
    else
      let s := s.setLost d false
      if s.live = false then (if d.val = 10 then s.aonBack else s).faultPin
      else if s.bit R.CLK_LOST d = false then s
      else (((s.setBit R.CLK_LOST d false).clkStat).raise Pg.CLK Ev.CLK_RESTORE).clockEffect d false)

/-- The lock detector of PLL `p` reports lock, or its loss, in reset as well. -/
def State.pllSet (s : State) (p : Nat) (opened : Bool) : State :=
  let s : State := { s with sup := { s.sup with pllOpen := s.sup.pllOpen.setIfInBounds p opened } }
  if s.live then s.setBit R.CLK_PLL_LOCK p (!opened) else s

/-- PLL_UNLOCK: the event is that of the PLLs of CK_CAN, CK_ETH10, CK_ETH1 and CK_BEL. -/
def execPllUnlock (p : Fin 7) (s : State) : Host.Outcome State Fault Refusal :=
  .next (
    let s := s.pllSet p true
    if s.live && decide (3 ≤ p.val) then s.raise Pg.CLK Ev.CLK_PLL_UNLOCK else s)

/-- PLL_RELOCK. -/
def execPllRelock (p : Fin 7) (s : State) : Host.Outcome State Fault Refusal := .next (s.pllSet p false)

/-- A warm reset takes effect: module time and monotonic time run on (R114); the levels that the pages mirror read as they are (R85, R114), clocks still
lost are flagged again, and the start-up begins at step 1 (R116). -/
def State.warmReset (s : State) (c : Nat) : State :=
  let s := s.sendDown
  let invalid := s.timeInvalid
  let last := s.ptp.lastFreq
  let s' := (s.resetKeep regWarmKeep).cause c
  let m := s.monoNow
  let s' : State := { s' with
    mt := s.mt, mono := s.mono, instMin := s.instMin, cycCold := s.cycCold + s.cyc, ptp := { lastFreq := last }, rate := last, nrg := { s'.nrg with lastSave := m }
    bel := { s'.bel with ckptAt := m, idAt := m, roleAt := m, lockAt := Vector.replicate 2 m, due := m, swapFrom := m, aliveAt := m } }
  let s' := ((s'.countSat R.RST_WARM_COUNT 1).fput F.SYS_STAT_TIME_INVALID (boolNat invalid)).fput F.PTP_STAT_TIME_INVALID (boolNat invalid)
  let s' := (s'.fput F.PFW_STAT_ASSERTED (boolNat s.pins.pfwAsserted)).wr R.CLK_PLL_LOCK s.pllLocks
  s.changeLost ((s'.clksFlag).lcStat.stageDone 1)

/-! ### Release of a cold reset (R38, R71, R564) -/

/-- Every cause has cleared, and RESET_n and PFW_n are deasserted. -/
def State.causesClear (s : State) : Bool :=
  let h := s.sup.holds
  s.sup.inReset && s.sup.vin == .inRange && !h.vinLow && !h.overV && !h.resetPin && !h.thermal && !s.clkFails 0 && !s.pins.resetAsserted
    && !s.pins.pfwAsserted

/-- The PLL clocks that fail the check of step 3 of R71, and the PLLs that are not locked. -/
def State.step3Fails (s : State) : List Nat := pllClocks.filter s.clkFails
def State.pllsLocked (s : State) : Bool := s.sup.pllOpen.toList.all (fun b => !b)

/-- Nothing holds the module: the causes have cleared, all PLLs are locked and their clocks have passed the check (R71, R564). -/
def State.releasable (s : State) : Bool := s.causesClear && s.pllsLocked && s.step3Fails.isEmpty

/-- Module time starts from the RTC, or from zero with TIME_INVALID set (R38). -/
def State.timeStart (s : State) : State :=
  let s := s.wr R.PTP_UTC (BitVec.ofNat 32 (s.flash.utc.getD 37))
  let load (b : Bool) : State := (s.fput F.SYS_STAT_TIME_INVALID (boolNat b)).fput F.PTP_STAT_TIME_INVALID (boolNat b)
  if s.fset F.RTC_STAT_VALID then
    let sub := s.rtcSub * 1000000000 / 32768
    { load false with mt := BitVec.ofNat 96 ((s.taiOf s.calendar + sub) * 2 ^ 32) }
  else { load true with mt := 0 }

/-- Cold reset is released: the anchor fetches its first instruction (step 1 of R116), module time starts, and clocks still lost are flagged. -/
def State.release (s : State) : State :=
  (({ s with sup := { s.sup with inReset := false } } : State).timeStart.stageDone 1).clksFlag

/-- COLD_RESET_RELEASE. A PLL clock that fails the check of step 3 holds the module again, with cause CLOCK_LOSS (R564). -/
def execColdResetRelease (s : State) : Host.Outcome State Fault Refusal :=
  .next (
    if s.releasable then s.release
    else if s.causesClear then
      match s.step3Fails with
      | d :: _ => ((s.cause causeClock).lastReset d).faultPin
      | [] => s
    else s)

/-! ### Power-fail warning and temperature (R75, R76, R81 to R86) -/

/-- The module runs: start-up is complete. -/
def State.started (s : State) : Bool := s.fget F.RST_BOOT_STAT_STAGE == 9

/-- The saves and the records of an accepted assertion while running: of the queue the first 256 records (R75, R505, R517). -/
def State.pfwSave (s : State) : State :=
  let s := ((s.nrgSave 1).ckptSave 1).note Pg.PFW Ev.PFW_FALL []
  s.cairnFlush (min 256 s.cairn.queue.length)

/-- PFW_FALL. -/
def execPfwFall (s : State) : Host.Outcome State Fault Refusal :=
  .next (
    if s.pins.pfwAsserted then s
    else
      let s : State := { s with pins := { s.pins with pfwAsserted := true } }
      if s.live then
        let s := (((s.fput F.PFW_STAT_ASSERTED 1).countSat R.PFW_COUNT 1).put64 R.PFW_TS_LO s.now).raise Pg.PFW Ev.PFW_FALL
        if s.started && !s.sup.asleep then s.pfwSave else s
      else s)

/-- PFW_RISE. -/
def execPfwRise (s : State) : Host.Outcome State Fault Refusal :=
  .next (
    if s.pins.pfwAsserted then
      let s : State := { s with pins := { s.pins with pfwAsserted := false } }
      if s.live then (s.fput F.PFW_STAT_ASSERTED 0).raise Pg.PFW Ev.PFW_RISE else s
    else s)

/-- A reading of `deg` sixteenths of a degree. -/
def State.tempRead (s : State) (deg : BitVec 16) : State :=
  let t := deg.toInt
  let s := (s.fput F.TSENS_TEMP_VALID 1).fput F.TSENS_TEMP_DEG deg.toNat
  let s := if sgn16 (s.fget F.TSENS_MAX_DEG) < t then s.fput F.TSENS_MAX_DEG deg.toNat else s
  let w := sgn16 (s.fget F.TSENS_WARN_DEG)
  if w ≤ t ∧ s.sup.tempArmed = true then { s.raise Pg.TSENS Ev.TSENS_WARN with sup := { s.sup with tempArmed := false } }
  else if t ≤ w - 32 then { s with sup := { s.sup with tempArmed := true } }
  else s

/-- TSENS_READING. -/
def execTsensReading (deg : BitVec 16) (s : State) : Host.Outcome State Fault Refusal := s.whenAwake fun s => s.tempRead deg

/-! ### RST.CMD (R115, R122, R123) -/

/-- A request for a reset of a kind. -/
def State.rstRequest (s : State) (warm : Bool) (delay : Nat) : State :=
  let s := s.raise Pg.RST Ev.RST_NOTICE
  { s with boot := { s.boot with pend := some { warm := warm, lifecycle := false, saveAt := s.cyc + cycMs delay, saving := false } } }

/-- A request can no longer be replaced or cancelled. -/
def State.rstLate (s : State) : Bool := match s.boot.pend with | some p => p.saving || p.lifecycle | none => false

/-- A write of RST.CMD with its key. KIND 3 is ignored, after the save has begun too: whether LATE_CMD is set then is open (DESIGN CHOICE, log entry 47). -/
def State.rstCmd (s : State) (kind delay : Nat) : State :=
  if kind = 3 then s
  else if s.rstLate then s.flag F.RST_FAULT_LATE_CMD
  else match kind with
    | 1 => s.rstRequest true delay
    | 2 => s.rstRequest false delay
    | _ => { s with boot := { s.boot with pend := none } }

def State.rstWrite (s : State) (v : Word) : State :=
  if fieldOf F.RST_CMD_KEY v = 0xC3E1 then s.rstCmd (fieldOf F.RST_CMD_KIND v) (fieldOf F.RST_CMD_DELAY v) else s.flag F.RST_FAULT_BAD_KEY

def execRstCmdWarm (req : Req) (delay : Byte) (s : State) : Host.Outcome State Fault Refusal :=
  s.regCmd req R.RST_CMD (fun s => s.rstCmd 1 delay.toNat)
def execRstCmdCold (req : Req) (delay : Byte) (s : State) : Host.Outcome State Fault Refusal :=
  s.regCmd req R.RST_CMD (fun s => s.rstCmd 2 delay.toNat)
def execRstCmdCancel (req : Req) (s : State) : Host.Outcome State Fault Refusal := s.regCmd req R.RST_CMD (fun s => s.rstCmd 0 0)

/-- RESET_SAVE_START: DELAY ms after the request. -/
def execResetSaveStart (s : State) : Host.Outcome State Fault Refusal :=
  s.whenAwake fun s =>
    match s.boot.pend with
    | some p =>
      if p.saving then s
      else
        let s := s.reachCyc p.saveAt
        (({ s with boot := { s.boot with pend := some { p with saving := true } } } : State).nrgSave 2).ckptSave 2
    | none => s

/-- RESET_SAVE_DONE: the saves complete and the reset takes effect. -/
def execResetSaveDone (s : State) : Host.Outcome State Fault Refusal :=
  s.whenAwake fun s =>
    match s.boot.pend with
    | some p =>
      if p.saving then
        let s := s.nrgFinish.nrgFinish.ckptEnd.ckptEnd
        if p.warm then s.warmReset (if p.lifecycle then causeLifecycle else causeWarm) else s.coldReset causeCold
      else s
    | none => s

/-! ### Start-up (R116 to R120, R126, R127, R548, R551) -/

/-- The start-up is in a step before `k`. -/
def State.stageBefore (s : State) (k : Nat) : Bool := decide (s.fget F.RST_BOOT_STAT_STAGE < k)

/-- SRAM_WIPE_DONE. -/
def execSramWipeDone (s : State) : Host.Outcome State Fault Refusal :=
  s.whenAwake fun s =>
    if s.boot.sramWiping then
      let s := s.wipe (fun a => decide (0x10000000 ≤ a) && decide (a < 0x11000000))
      ({ s with boot := { s.boot with sramWiping := false } } : State).stageDone 3
    else s

/-- The 64-byte lifecycle marker of state code `st` and `n` burned service fuses (R126): the code, the count, zeros, and the CRC-32C of the 60 bytes before it.
Where in the record they stand is the model's choice, log entry 53. -/
def markerAddr : Nat := 0x60500000

def markerBytes (st n : Nat) : List Byte :=
  let b := padTo 60 [BitVec.ofNat 8 st, BitVec.ofNat 8 n]
  b ++ natLe 4 (crc32c b).toNat

/-- The marker of the lifecycle state in OTP. -/
def State.markerNow (s : State) : List Byte := markerBytes (lcState s.trust.otp) s.trust.otp.service

/-- A lifecycle wipe is pending: the marker in MRAM differs from OTP, its CRC fails, or the device cannot correct it (R126). -/
def State.lcWipeDue (s : State) : Bool := s.bytesAt markerAddr 64 != s.markerNow || !s.mramOk markerAddr 64

/-- The lifecycle wipe of R127 for the state in OTP; the marker is written last and the transition is the first record after it. -/
def State.lcWipe (s : State) : State :=
  let old := s.bytesAt markerAddr 2
  let decom := s.trust.otp.decom
  let s := s.wipe (fun a => inMram a && (decom || decide (0x60100000 ≤ a)))
  let s := s.cairnSet (fun c => { c with
    slots := [], clearMark := 0, nextNum := 1, queue := [], lost := none, dropSeen := false, accCyc := s.cyc, accFrom := 1, stoCyc := s.cyc, stoFrom := 1 })
  let s := (((s.wr R.CAIRN_DROP_FULL 0).wr R.CAIRN_DROP_BUSY 0).wr R.CAIRN_OVERWRITTEN 0).fput F.CAIRN_STAT_FULL 0
  let s := (s.flashSet (fun f => { f with utc := none })).fput F.RST_BOOT_STAT_LC_WIPE 1
  let s := if decom then { s with flash := {}, trust := { s.trust with energyWritten := false } } else s
  let s := (List.range 39).foldl (fun s p => s.fput (F.HDR_EXPERT p) 0) s
  let s := s.putBytes .anchor markerAddr s.markerNow
  s.note Pg.RST noBit (old ++ s.markerNow.take 2)

/-- LIFECYCLE_WIPE_DONE: between steps 5 and 6. -/
def execLifecycleWipeDone (s : State) : Host.Outcome State Fault Refusal :=
  s.whenAwake fun s => if s.lcWipeDue && s.fget F.RST_BOOT_STAT_STAGE == 5 then s.lcWipe else s

/-- The bank that the boot record and a trial choose (R548). -/
def State.trialBoot (s : State) : State :=
  let b := s.flash.boot
  if b.trial = false then s
  else if b.trialLeft = 0 ∧ b.valid.toList.getD s.idleBank false = true then
    let s := s.bootRecSet (fun x => { x with activeB := !x.activeB, trial := false })
    (s.fput F.ANC_BOOTREC_ROLLED 1).note Pg.ANC noBit [BitVec.ofNat 8 s.activeBank]
  else s.bootRecSet (fun x => { x with trialLeft := x.trialLeft - 1 })

/-- A program record passes R550 against the manifest of bank `k`. -/
def State.progOk (s : State) (k : Nat) (r : ProgRec) : Bool :=
  r.valid && blockOk ((List.range 16).map (tabGet (fun _ => 0) r.block)) s.programKey true && leOf r.header 0 2 == 1 && decide (s.trust.otp.counter ≤ byteOf r.header 2) && leOf r.header 4 8 == (s.buildOf k).toNat

/-- The valid program record of bank `k` with the highest SEQ. -/
def State.bootProg (s : State) (k : Nat) : Option ProgRec :=
  let a := s.prog (2 * k)
  let b := s.prog (2 * k + 1)
  match s.progOk k a, s.progOk k b with
  | true, true => some (if a.seq < b.seq then b else a)
  | true, false => some a
  | false, true => some b
  | false, false => none

/-- The program of bank `k` goes into program bank A. -/
def State.loadProgram (s : State) (k : Nat) : State :=
  let base := 0x10000000
  let put (s : State) (o : Nat) (l : List Host.Cell) : State := l.foldl (fun s e => s.putByte (base + (e.1 - o)) e.2) s
  match s.bootProg k with
  | some r => (put s 0 r.bank).belSet (fun b => { b with progDigest := BitVec.ofNat 256 (leOf r.header 32 32) })
  | none =>
    match s.myPart k 2 with
    | some p =>
      let cells := (s.flash.banks.toList.getD k []).filter (fun e => decide (p.offset ≤ e.1) && decide (e.1 < p.offset + p.length))
      (put s p.offset cells).belSet (fun b => { b with progDigest := BitVec.ofNat 256 p.digest })
    | none => s

/-- The metering tables of bank `k` become the active blocks (R357). -/
def State.bootTables (s : State) (k : Nat) : State :=
  match s.myPart k 4 with
  | some p => s.calInstall (s.cont k (p.offset + 16) 6144) (BitVec.ofNat 32 (s.contLe k p.offset 4))
  | none => s

/-- A checker of ECC0 to ECC6 has failed its self-test (R140). -/
def State.eccHeld (s : State) : Bool := s.fget F.RST_BOOT_STAT_ECC_FAIL % 128 != 0

/-- Bank `k` is booted: its anchor firmware runs, its program, service image, tables and checkpoint are in place, and the cores are released. -/
def State.bootBank (s : State) (k : Nat) : State :=
  let s := s.trustSet (fun t => { t with build := s.buildOf k, secVer := s.secVerOf k })
  let s := (s.fput F.RST_BOOT_STAT_BANK k).fput F.ANC_STAT_STATE 1
  let s := match s.myPart k 1 with | some p => s.wr R.ANC_FW_VER (BitVec.ofNat 32 p.version) | none => s
  let s := ((((s.loadProgram k).loadService k).bootTables k).ckptRestore).ckptResume
  let e := 0x10000000 + s.pkgEntry 0x10000000
  let svc := s.fget F.RST_BOOT_STAT_ECC_FAIL / 128 == 0
  let s : State := { s with
    boot := { s.boot with rtRun := true, svcRun := svc, entry := ((((s.boot.entry.set 0 e).set 1 e).set 2 serviceBase).set 3 serviceBase) } }
  (if s.flash.boot.trial then (s.updSet (fun u => { u with trialFrom := s.monoNow })).updGo 5 else s).stageDone (if s.boot.dramWiping then 7 else 8)

/-- Neither bank verifies: the recovery state (R119, R554). -/
def State.recover (s : State) : State :=
  (({ s with boot := { s.boot with recovery := true } } : State).fput F.ANC_STAT_STATE 2).cairnMode 3

/-- Bank `k` passes the checks of its manifest that State can make: the signature block names a key that the lifecycle state allows, in BLANK the factory
key alone (R120, R526), and SEC_VER is not below the counter (R549). `ok`: the signature and the digests verify. -/
def State.bankPasses (s : State) (k : Nat) (ok : Bool) : Bool :=
  blockOk (s.cont k 0x10000 16) s.manifestKey ok && decide (s.trust.otp.counter ≤ s.secVerOf k)

/-- BOOT_VERIFY_DONE: steps 6 and 7. The operands say whether signature and digests of the selected bank and of the other one verify. In DECOMMISSIONED, and
after a failed self-test of ECC0 to ECC6, no core is released. -/
def State.bootVerify (s : State) (selectedOk otherOk : Bool) : State :=
  let s := s.trialBoot
  let k := s.activeBank
  if s.bankPasses k selectedOk then s.bootBank k
  else
    let s := s.fput F.RST_BOOT_STAT_FALLBACK 1
    if s.bankPasses (1 - k) otherOk then s.bootBank (1 - k) else s.recover

def execBootVerifyDone (selectedOk otherOk : Bool) (s : State) : Host.Outcome State Fault Refusal :=
  s.whenAwake fun s =>
    if s.fget F.RST_BOOT_STAT_STAGE == 5 && !s.lcWipeDue && !s.trust.otp.decom && !s.eccHeld && !s.boot.recovery then s.bootVerify selectedOk otherOk
    else s

/-- DRAM_WIPE_DONE: the rest of DRAM is wiped; DRAM_READY is never set when the checker of ECC7 has failed (R140). -/
def execDramWipeDone (s : State) : Host.Outcome State Fault Refusal :=
  s.whenAwake fun s =>
    if s.boot.dramWiping && s.boot.tested.contains 7 && s.fget F.RST_BOOT_STAT_ECC_FAIL / 128 == 0 then
      let s := s.wipe (fun a => decide (0x100000000 ≤ a) && decide (a < 0x300000000)
        && !(decide (serviceBase ≤ a) && decide (a < serviceBase + 0x4000000)))
      let s : State := { s with boot := { s.boot with dramWiping := false } }
      let s := if s.fget F.RST_BOOT_STAT_STAGE = 7 then s.stageDone 8 else s
      (s.fput F.SYS_STAT_DRAM_READY 1).raise Pg.SYS Ev.SYS_DRAM_READY
    else s

end Sys2Proof.Machine
end

