-- ==== Sys2Proof/Machine/Configure.lean ====
section
/-! DEFINITION. The configuration image: its checks, what the anchor applies in which order, and ENABLE of the blocks
(00 R4 to R7, 01 R25, 06 R180, R192 to R195, R463, R567; 03 R91). -/
namespace Sys2Proof.Machine

/-! ### ENABLE of a block (R91) -/

/-- Page `p`'s block begins to run: ENABLE has become 1. -/
def State.blockOn (s : State) (p : Nat) : State :=
  if 16 ≤ p ∧ p < 20 then s.canEnable (p - 16)
  else if p = Pg.FNET then s.fnetEnable
  else if p = Pg.IOS then s.iosEnable
  else if p = Pg.TASK then s.taskUngate
  else if p = Pg.LOOP then s.loopEnable
  else if p = Pg.LIO then s.lioEnable
  else if p = Pg.MTR then s.mtrEnable
  else if p = Pg.NRG then s.nrgEnable
  else if p = Pg.SW then s.swStat
  else if p = Pg.MAC4 then s.mac4Stat
  else if 30 ≤ p ∧ p < 34 then s.macEnabled (p - 30)
  else if p = Pg.BEL then s.belSet (fun b => { b with ckptAt := s.monoNow, idAt := s.monoNow, aliveAt := s.monoNow, roleAt := s.monoNow })
  else s

/-- Page `p`'s block stops: ENABLE has become 0. -/
def State.blockOff (s : State) (p : Nat) : State :=
  if 16 ≤ p ∧ p < 20 then (s.canDisable (p - 16)).wakeCheck
  else if p = Pg.FNET then s.fnetDisable
  else if p = Pg.IOS then s.iosDisable
  else if p = Pg.TASK then s.taskGate
  else if p = Pg.LOOP then s.loopDisable
  else if p = Pg.MTR then s.mtrDisable
  else if p = Pg.NRG then s.nrgDisable
  else if p = Pg.SW then s.swStat
  else if p = Pg.MAC4 then s.mac4Stat
  else if 30 ≤ p ∧ p < 34 then s.macEnabled (p - 30)
  else s

/-- ENABLE of page `p` is written: a change from 0 or from 1 has the effect of its chapter. MAC4 refuses an enable with unfit rings (R443). -/
def State.setEnable (s : State) (p : Nat) (on : Bool) : State :=
  if pageAlwaysOn p then s
  else if s.enabled p = on then s
  else if on then (if p == Pg.MAC4 && !s.mac4Ok then s.flag F.MAC4_FAULT_BAD_WRITE else (s.fput (F.HDR_ENABLE p) 1).blockOn p)
  else (s.fput (F.HDR_ENABLE p) 0).blockOff p

/-! ### The checks of an image (R4, R5, R25, R180, R192, R193, R195, R515) -/

/-- Limits of a tier: physical points, virtual points, stations, loops. -/
def tierLimits (t : Nat) : Nat × Nat × Nat × Nat :=
  match t with
  | 0 => (1024, 2048, 64, 128)
  | 1 => (2048, 4096, 128, 256)
  | _ => (4096, 8192, 256, 512)

def cfgPoint (c : ConfigImage) (pid : Nat) : Option ImgPoint := c.points.find? (fun x => x.pid == pid)
def cfgStations (c : ConfigImage) (ch : Nat) : List ImgStation := c.stations.filter (fun x => x.ch == ch)

def isStationSrc (ch : Nat) : ImgSrc → Bool
  | .station c _ => c == ch
  | _ => false

def isLogicSrc : ImgSrc → Bool
  | .task _ => true
  | .loop _ => true
  | _ => false

/-- No value comes twice. -/
def distinct : List Nat → Bool
  | [] => true
  | a :: l => !l.contains a && distinct l

/-- Every record of a station is an input that this station is the one source of, or an output that something else is. -/
def cfgRecordsOk (c : ConfigImage) (x : ImgStation) : Bool :=
  (List.range (recCount x.image)).all (fun r =>
    match cfgPoint c (x.pids.getD r 0) with
    | some p => if recOut x.image r then p.isOut && isLogicSrc p.src else !p.isOut && p.src == .station x.ch x.addr
    | none => false)

/-- A point that an output pin is bound to (R25). -/
def cfgPinPoint (c : ConfigImage) (ptype : Nat) : Option Nat → Bool
  | none => true
  | some pid => match cfgPoint c pid with | some p => p.isOut && p.ptype == ptype && isLogicSrc p.src | none => false

/-- A point that an input pin is bound to. -/
def cfgInPoint (c : ConfigImage) : Option Nat → Bool
  | none => true
  | some pid => match cfgPoint c pid with | some p => !p.isOut && p.src == .lio | none => false

/-- The points of the DIO pins that are inputs: an input pin is its point's one source, and an output point may drive several pins (R25). -/
def dioInputs (c : ConfigImage) : List (Option Nat) := (c.dioPids.zipIdx.filter (fun e => !c.dioDir.getLsbD e.2)).map (·.1)

/-- Every point has one source (R25). -/
def cfgSourcesOk (c : ConfigImage) : Bool :=
  distinct (c.points.map (·.pid)) && c.points.all (fun p => decide (p.pid < 12288) && decide (p.ptype < 6)) && c.stations.all (cfgRecordsOk c)
    && distinct (c.stations.flatMap (fun x => ((List.range (recCount x.image)).filter (fun r => !recOut x.image r)).map (fun r => x.pids.getD r 0)))
    && distinct ((c.ainPids ++ dioInputs c).filterMap id)
    && c.ainPids.all (cfgInPoint c) && c.aoutPids.all (cfgPinPoint c 2)
    && (c.dioPids.zipIdx).all (fun e => if c.dioDir.getLsbD e.2 then cfgPinPoint c 0 e.1 else cfgInPoint c e.1)

/-- A station's image has the form of R203. -/
def stationForm (x : ImgStation) : Bool :=
  decide (1 ≤ x.addr) && decide (x.addr ≤ 64) && decide (x.ch < 4) && byteOf x.image 2 == x.addr && x.image.length == 64 + 8 * recCount x.image
    && x.pids.length == recCount x.image

/-- The channel's FAST limits (R192). -/
def fastOk (l : List (List Byte)) : Bool :=
  let ins (i : List Byte) : Nat := (recsOf i 0 false).length
  let outs (i : List Byte) : Nat := (recsOf i 0 true).length
  decide (l.countP (fun i => ins i + outs i != 0) ≤ 4) && decide ((l.map (fun i => ins i + outs i)).sum ≤ 32) && decide ((l.map outs).sum ≤ 24)

/-- R193 for one station, with COS_MS within its limits (R192). -/
def classOk (i : List Byte) : Bool :=
  (List.range (recCount i)).all (fun r => recCls i r != 3 && (!recCos i r || (!recOut i r && recCls i r != 0)))
    && ((recsOf i 0 false).isEmpty || leOf i 8 2 != 0) && ((recsOf i 0 true).isEmpty || byteOf i 16 != 0xFF)
    && (leOf i 6 2 == 0 || (decide (10 ≤ leOf i 6 2) && decide (leOf i 6 2 ≤ 1000)))

/-- RATE that the image gives a channel; none where it does not use the channel. -/
def cfgRate (c : ConfigImage) (ch : Nat) : Option Word := (c.channels.find? (fun x => x.ch == ch)).map (·.rate)

/-- U of channel `ch` in units of 0.01 % (R195). -/
def cfgLoad (c : ConfigImage) (ch : Nat) : Nat :=
  let st := cfgStations c ch
  let imgOf (a : Nat) : List Byte := ((st.find? (fun x => x.addr == a)).map (·.image)).getD []
  let outs := (c.outFrames.filter (fun f => f.ch == ch)).map (fun f => (f.cls, f.addr, f.group))
  let cos := (st.map (fun x => leOf x.image 6 2)).filter (· != 0)
  loadOf ((cfgRate c ch).getD 0) (schedFrames (c.syncCfg.getLsbD (8 + ch)) (st.map (·.image)) outs imgOf) cos

/-- A channel that carries MFP runs at 1 Mbit/s, or at 500 kbit/s with a data rate (R180). -/
def mfpRate (r : Word) : Bool := fieldOf (F.CAN_RATE_NOM 0) r == 1 || fieldOf (F.CAN_RATE_DATA 0) r != 0

def fourChannels : List Nat := [0, 1, 2, 3]

/-- The channel carries MFP: it has stations or output frames, or CH_EN sends SYNC on it (R180). -/
def cfgMfp (c : ConfigImage) (ch : Nat) : Bool :=
  !(cfgStations c ch).isEmpty || c.syncCfg.getLsbD (8 + ch) || c.outFrames.any (fun f => f.ch == ch)

/-- An output frame of the schedule: to the broadcast address or to a station of the table (R179), and FAST outputs in one broadcast with GROUP 0 (R188). -/
def outFrameOk (c : ConfigImage) (f : OutFrame) : Bool :=
  decide (f.ch < 4) && decide (f.cls < 3) && decide (f.group < 0xFF) && (f.addr == 0 || (cfgStations c f.ch).any (fun x => x.addr == f.addr))
    && (f.cls != 0 || (f.addr == 0 && f.group == 0))

/-- The records of the stations: point and class. -/
def cfgRecords (c : ConfigImage) : List (Nat × Nat) :=
  c.stations.flatMap (fun x => (List.range (recCount x.image)).map (fun r => (x.pids.getD r 0, recCls x.image r)))

/-- Every point of a station belongs to exactly one class: some record carries it, and all that do name the same class (R193). -/
def cfgClassesOk (c : ConfigImage) : Bool :=
  let l := cfgRecords c
  l.all (fun a => l.all (fun b => a.1 != b.1 || a.2 == b.2))
    && c.points.all (fun p => !fourChannels.any (fun ch => isStationSrc ch p.src) || l.any (fun a => a.1 == p.pid))

/-- The checks in order: number of the limit, and whether it is kept. -/
def cfgChecks (c : ConfigImage) : List (Nat × Bool) :=
  let (phys, virt, stns, loops) := tierLimits c.tier
  let onCh (ch : Nat) : List (List Byte) := (cfgStations c ch).map (·.image)
  [(0, decide (c.tier < 3)),
   (1, decide (c.points.countP (fun p => decide (p.pid < 4096)) ≤ phys)), (2, decide (c.points.countP (fun p => decide (4096 ≤ p.pid)) ≤ virt)),
   (3, decide (c.stations.length ≤ stns)), (4, decide (c.loops ≤ loops)),
   (5, fourChannels.all (fun ch => decide ((onCh ch).length ≤ 64))),
   (6, fourChannels.all (fun ch => decide (c.points.countP (fun p => isStationSrc ch p.src) ≤ 1024)
        && decide (((onCh ch).map recCount).sum ≤ 1024))),
   (7, c.stations.all (fun x => decide (recCount x.image ≤ 64))),
   (8, c.stations.all stationForm && distinct (c.stations.map (fun x => stnKey x.ch x.addr)) && c.stations.all (fun x => (cfgRate c x.ch).isSome)),
   (9, cfgSourcesOk c), (10, fourChannels.all (fun ch => !cfgMfp c ch || mfpRate ((cfgRate c ch).getD 0))),
   (11, fourChannels.all (fun ch => fastOk (onCh ch))), (12, c.stations.all (fun x => classOk x.image) && cfgClassesOk c),
   (13, fourChannels.all (fun ch => (cfgRate c ch).isNone || decide (cfgLoad c ch ≤ 8500))),
   (14, c.points.all (fun p => decide (p.lo < p.hi))), (15, c.outFrames.all (outFrameOk c))]

/-- The first limit found exceeded. -/
def cfgExceeds (c : ConfigImage) : Option Nat := ((cfgChecks c).find? (fun e => !e.2)).map (·.1)

/-! ### What an accepted image sets (R463, R567) -/

def srcOf : ImgSrc → PSrc
  | .none => .none
  | .station c a => .station c a
  | .lio => .lio
  | .task t => .task t
  | .loop k => .loop k
  | .metering => .metering

/-- A point as the image leaves it: an output holds its start value, an input has not been written (R6, R224). -/
def State.imgPoint (s : State) (p : ImgPoint) : Point :=
  { src := srcOf p.src, ptype := p.ptype, isOut := p.isOut, log := p.log, lo := p.lo, hi := p.hi, value := if p.isOut then p.start else 0
    q := if p.isOut then 0 else 2, inst := s.monoNow, written := p.isOut }

def ownTable (n : Nat) (l : List (Nat × Nat)) : Tab Nat :=
  l.foldl (fun t e => if e.1 < n then tabSet (fun _ => 0) t e.1 (e.2 % 64) else t) []

/-- The owner tables of CMPT and the owners of the pages; the sessions of a running module end (R470). -/
def State.loadOwners (s : State) (c : ConfigImage) : State :=
  let s := if s.pins.ready then s.sessionsEnd else s
  let s : State := { s with
    ownPoints := ownTable 12288 c.ownPoints, ownSlots := ownTable 512 c.ownSlots, ownCommands := ownTable 8192 c.ownCommands
    ownClasses := ownTable 1024 c.ownClasses }
  let own := ownTable 39 c.ownPages
  let s := (List.range 39).foldl (fun s p =>
    if pageOwnerFixed p then s else s.wr (R.BLK_OWNER p) (BitVec.ofNat 32 (tabGet (fun _ => 0) own p))) s
  (s.fput F.CMPT_STAT_LOADED 1).raise Pg.CMPT Ev.CMPT_TABLE_CHG

def imgStn (x : ImgStation) : Stn := { serial := x.serial, image := x.image, pids := x.pids, stdOffset := x.stdOffset }

/-- The station table and the schedule that the scan engine keeps. -/
def State.loadFloor (s : State) (c : ConfigImage) : State :=
  s.mfpSet (fun m => { m with
    stations := c.stations.foldl (fun t x => tabPut t (stnKey x.ch x.addr) (imgStn x)) []
    outs := Vector.ofFn (fun i : Fin 4 => (c.outFrames.filter (fun f => f.ch == i.val)).map
      (fun f => { cls := f.cls, addr := f.addr, group := f.group, slotUs := f.slotUs }))
    hasTable := !c.stations.isEmpty, startCycle := none, unparked := Vector.replicate 4 false, raised := [], parked := 0, waiting := [], helloAll := false })

/-- Bindings of the local pins to points. -/
def lioBinding (c : ConfigImage) : Tab Nat :=
  let add (base : Nat) (t : Tab Nat) (l : List (Option Nat)) : Tab Nat :=
    l.zipIdx.foldl (fun t e => match e.1 with | some p => tabPut t (base + e.2) p | none => t) t
  add 12 (add 8 (add 0 [] (c.ainPids.take 8)) (c.aoutPids.take 4)) (c.dioPids.take 16)

/-- Steps 1 to 4 of R567, with the image's points. -/
def State.loadSettings (s : State) (c : ConfigImage) : State :=
  let s := c.channels.foldl (fun s x => if x.ch < 4 then (s.canRateWrite x.ch (R.CAN_RATE x.ch) x.rate).canModeWrite x.ch (x.mode.toNat % 8) else s) s
  let s := (((s.fnetWrite R.FNET_SYNC_CFG c.syncCfg).fnetWrite R.FNET_DISC_CFG c.discCfg).fnetWrite R.FNET_START_TMO c.startTmo).fnetWrite R.FNET_Q0_CFG c.q0Cfg
  let s := (s.loadFloor c).dioDirWrite c.dioDir
  let s := fourChannels.foldl (fun s ch =>
    s.wr (R.FNET_LOAD ch) (BitVec.ofNat 32 (if (cfgRate c ch).isSome then cfgLoad c ch else 0))) s
  { s with
    points := c.points.foldl (fun t p => tabSet (fun _ => ({} : Point)) t p.pid (s.imgPoint p)) []
    lioPids := lioBinding c }

/-- ENABLE of FNET, IOS, LIO and the CAN pages becomes 0. -/
def State.floorOff (s : State) : State := [Pg.FNET, Pg.IOS, Pg.LIO, 16, 17, 18, 19].foldl (fun s p => s.setEnable p false) s

/-- Step 5: ENABLE of the channels used, of LIO, of IOS and of FNET. -/
def State.floorOn (s : State) (c : ConfigImage) : State :=
  let s := fourChannels.foldl (fun s ch => if (cfgRate c ch).isSome then s.setEnable (16 + ch) true else s) s
  ((s.setEnable Pg.LIO true).setEnable Pg.IOS true).setEnable Pg.FNET true

/-- The tier in force, and what the recorder does at it (R7). -/
def State.setTier (s : State) (t : Nat) : State :=
  let s : State := ({ s with tier := some t } : State).fput F.CAIRN_STAT_SUMMIT (boolNat (t == 2))
  if t = 2 ∧ s.isActive = true then s.sumOpenAt s.now false true else s.cairnSet (fun c => { c with sums := [] })

/-- Step 9 is complete: READY rises, and BOOT_TIME tells when (R73, R121). -/
def State.bootReady (s : State) : State :=
  if s.pins.ready then s
  else ((s.stageDone 9).wr R.RST_BOOT_TIME (BitVec.ofNat 32 (min 0xFFFFFFFF (s.cyc / 400)))).ready true

/-- The floor of the new image begins: discovery, or, without a station table, a full image at once (R206, R207, R222). -/
def State.floorStart (s : State) : State :=
  if s.mfp.hasTable then ((s.fput F.IOS_STAT_PHASE 1).fput F.IOS_STAT_IMAGE_FULL 0).fput F.IOS_STAT_TIMEOUT 0
  else (s.fput F.IOS_STAT_TIMEOUT 0).imageFull

/-- An image within every limit takes effect (R567). -/
def State.configApply (s : State) (c : ConfigImage) : State :=
  let s := (((s.loadOwners c).floorOff).loadSettings c).setTier c.tier
  let s := s.belSet (fun b => { b with imgDigest := c.digest })
  let s := if s.enabled Pg.BEL && !s.bel.decided then s.roleDecide.linkCheck else s
  (s.floorOn c).bootReady.floorStart

/-- An image that exceeds a limit is refused whole and recorded (R6). -/
def State.configRefuse (s : State) (limit : Nat) : State := s.note Pg.ANC noBit [BitVec.ofNat 8 limit]

/-- CONFIG_ACCEPT: the stored image at step 9 of a start-up, or a later one while running; none where no image is stored. A start-up without a valid
image completes too: no task is released and no channel opens (R6). -/
def State.configIn (s : State) (img : Option ConfigImage) : State :=
  match img with
  | none => s.bootReady
  | some c =>
    match cfgExceeds c with
    | none => s.configApply c
    | some k => (s.configRefuse k).bootReady

def execConfigAccept (img : Option ConfigImage) (s : State) : Host.Outcome State Fault Refusal :=
  s.whenAwake fun s => if s.boot.rtRun && !s.boot.recovery && !s.stageBefore 7 then s.configIn img else s

/-! ### Images from the partner (R487, R545) -/

/-- PARTNER_IMAGE_LOADED: a standby module in LINKING has received and verified what differed, and loads it: the configuration image, the program
package's bank, or both; then the pair enters RESYNC. No image goes over while the builds differ. -/
def execPartnerImageLoaded (img : Option ConfigImage) (program : Option (List (Nat × Byte))) (s : State) : Host.Outcome State Fault Refusal :=
  s.belDo fun s =>
    match s.bel.partner with
    | none => s
    | some m =>
      if s.role = 2 ∧ s.pairState = 1 ∧ m.build = s.trust.build then
        let s : State := match img with
          | some c =>
            if c.digest == m.image then (match cfgExceeds c with | none => s.configApply c | some k => s.configRefuse k) else s
          | none => s
        let s : State := match program with
          | some cells =>
            let b := s.bankBase
            let s := (s.wipe (fun a => decide (b ≤ a) && decide (a < b + 0x400000))).belSet (fun x => { x with progDigest := m.program })
            cells.foldl (fun s e => if e.1 < 0x400000 then s.putByte (b + e.1) e.2 else s) s
          | none => s
        s.linkCheck
      else s

end Sys2Proof.Machine
end

