-- ==== Sys2Proof/Machine/Levels.lean ====
section
/-! DEFINITION. The levels of the output pins of J1 and J2 (02 R45, R47), those that State holds and those that follow from its registers. -/
namespace Sys2Proof.Machine

/-- The output and bidirectional pins of J1 and J2. A pair counts as one. -/
inductive OutPin where
  | ready | forceActN | sysFaultN | sleepN | tdo | conTxd | cidScl | cidSda
  | canTxd (n : Fin 4) | canStbN (n : Fin 4) | mclk (n : Fin 4) | aout (n : Fin 4) | vrefOut | dio (n : Fin 16)
  | portTx (p : Fin 2) | belTx (lane : Fin 2) | mdi (p : Fin 2) | sfpTxdis (n : Fin 2) | sfpScl (n : Fin 2) | sfpSda (n : Fin 2)
  | linkN (p : Fin 2) | actN (p : Fin 2) | ppsOut
deriving DecidableEq, Repr

/-- What a pin shows. `active` is a line that carries a clock or traffic, `code` an analogue output by its 16-bit code. -/
inductive Level where
  | low | high | highZ | idle | active | off | on | input | code (c : Nat)
deriving DecidableEq, Repr

def Level.ofBool (b : Bool) : Level := if b then .high else .low

/-- The reset state of R45 and R47; that of SYS_FAULT_n outside a hold is high (R54). -/
def OutPin.resetLevel : OutPin → Level
  | .ready => .low
  | .forceActN => .high
  | .sysFaultN => .high
  | .sleepN => .high
  | .tdo => .highZ
  | .conTxd => .high
  | .cidScl => .highZ
  | .cidSda => .highZ
  | .canTxd _ => .high
  | .canStbN _ => .low
  | .mclk _ => .low
  | .aout _ => .code 0
  | .vrefOut => .on
  | .dio _ => .input
  | .portTx _ => .idle
  | .belTx _ => .idle
  | .mdi _ => .off
  | .sfpTxdis _ => .high
  | .sfpScl _ => .highZ
  | .sfpSda _ => .highZ
  | .linkN _ => .highZ
  | .actN _ => .highZ
  | .ppsOut => .low

/-- Belay lane `n` sends: BEL is enabled, its clock runs and the lane has not failed to (R482). -/
def State.laneSends (s : State) : Bool := s.live && s.enabled Pg.BEL && !s.sup.asleep && !s.clkFails 8

/-- The level of an output pin. The serial lines of the debug port, the console, the EEPROM buses and the activity LEDs rest at their reset state: their
bit streams are not modelled. A link LED is driven while the port has its link. PRESUMED, log entry 56. -/
def State.outPin (s : State) : OutPin → Level
  | .ready => Level.ofBool s.pins.ready
  | .forceActN => Level.ofBool s.pins.forceActN
  | .sysFaultN => Level.ofBool s.pins.sysFaultN
  | .sleepN => Level.ofBool s.pins.sleepN
  | .canTxd n => if s.pins.canTxd.get n then .high else .active
  | .canStbN n => Level.ofBool (s.pins.canStbN.get n)
  | .mclk n => if s.mclkRuns n then .active else .low
  | .aout n => .code (s.fget (F.LIO_AOUT_CODE n))
  | .dio n => if s.bit R.LIO_DIO_DIR n then Level.ofBool (s.bit R.LIO_DIO_OUT n) else .input
  | .portTx p => if s.portLink p then .active else .idle
  | .belTx _ => if s.laneSends then .active else .idle
  | .mdi p => if s.pins.phyOn.get p then .on else .off
  | .sfpTxdis n => Level.ofBool (s.pins.sfpTxdis.get n)
  | .linkN p => if s.portLink (p + 2) then .low else .highZ
  | .ppsOut => Level.ofBool s.ppsHigh
  | p => p.resetLevel

end Sys2Proof.Machine
end

