-- ==== Sys2Proof/Machine/RegAccess.lean ====
section
/-! DEFINITION. Reads and writes of the register pages by their access codes (00 R11, 03 R88 to R112), each register's own rule included, and the
commands of the common header. -/
namespace Sys2Proof.Machine

/-- STAGE as it reads: step 2 of R116, the start of the wipe engine, comes at the latest 20 µs after cold reset release and 30 µs after a warm reset, and is
taken to come then (DESIGN CHOICE, log entry 52). -/
def State.stageNow (s : State) : Nat :=
  let k := s.fget F.RST_BOOT_STAT_STAGE
  if k = 1 ∧ cycUs (if s.rd R.RST_CAUSE &&& 0x280 = 0 then 20 else 30) ≤ s.cyc then 2 else k

/-- Registers of a pair whose low word's read latches the high word (R9): the 64-bit quantity at the low word `k`, as it stands now. -/
def State.wide (s : State) (k : Nat) : Option Nat :=
  let n := k / 0x1000 - 16
  let j := (k % 0x1000 - 0x194) / 0x20
  if k = R.PFW_TS_LO ∨ k = R.LIO_AIN_TS_LO ∨ k = R.NRG_SAVE_TS_LO ∨ k = R.PTP_STEP_AT_LO ∨ k = R.PTP_STEP_NS_LO ∨ k = R.PTP_PPS_IN_LO
      ∨ k = R.BEL_LAST_HO_LO ∨ k = R.CAIRN_DROP_TS_LO then some (s.get64 k)
  else if n < 4 ∧ k = R.CAN_WAKE_TS_LO n then some (s.get64 k)
  else if j < 4 ∧ k = R.TUNE_CAP_T0_LO j then some (s.get64 k)
  else if k = R.FNET_CYCLE_LO then some (s.now / 1000000 % 2 ^ 48)
  else if k = R.TASK_MONO_LO then some s.monoNow
  else if k = R.TASK_MT_OFF_LO then some (BitVec.ofInt 64 s.mtOff).toNat
  else if k = R.TASK_NEXT_REL_LO then some (s.nextRel.getD (2 ^ 64 - 1))
  else if k = R.PTP_NOW_LO then some s.now
  else if k = R.PTP_OFF_LO 0 then some (BitVec.ofInt 64 (s.dom 0).offNs).toNat
  else if k = R.PTP_OFF_LO 1 then some (BitVec.ofInt 64 (s.dom 1).offNs).toNat
  else if k = R.BEL_NEXT_SWAP_LO then some s.nextSwap
  else if k = R.CAIRN_NEXT_NUM_LO then some s.cairn.nextNum
  else if k = R.ANC_CHAL_LO then some ((s.trust.chal.map (·.1.toNat)).getD 0)
  else if k = R.ANC_BUILD_LO then some s.trust.build.toNat
  else none

/-! ### Values that are formed when they are read -/

/-- Bit `j` is 1 while page `base + j` has a nonzero BLK_FAULT[15:0] (R101). -/
def State.faultMap (s : State) (base : Nat) : Nat :=
  (List.range 32).foldl (fun a j =>
    a + boolNat (decide (base + j < 39) && decide ((s.rd (R.BLK_FAULT (base + j))).toNat % 65536 ≠ 0)) * 2 ^ j) 0

/-- LEVEL register `i` of INTC. -/
def State.levels (s : State) (i : Nat) : Nat := (List.range 32).foldl (fun a j => a + boolNat (s.level (32 * i + j)) * 2 ^ j) 0

/-- ANC.SEC: REVOKED, PROGRAMMED and COUNTER. -/
def State.ancSec (s : State) : Nat :=
  let o := s.trust.otp
  (List.range 6).foldl (fun a i => a + boolNat (o.revoked.toList.getD i false) * 2 ^ (16 + i) + boolNat (o.slots.toList.getD i 0 != 0) * 2 ^ (8 + i))
    (o.counter % 256)

/-- ANC.BOOTREC. -/
def State.ancBootRec (s : State) : Nat :=
  let b := s.flash.boot
  boolNat b.activeB + 2 * boolNat b.trial + 4 * (b.trialLeft % 4) + 16 * s.fget F.ANC_BOOTREC_ROLLED + 32 * boolNat (b.valid.toList.getD 0 false)
    + 64 * boolNat (b.valid.toList.getD 1 false)

/-- The owner that OWN_SEL selects: its table and index, where they exist (R476). -/
def State.ownSel (s : State) : Option (Nat × Nat) :=
  let t := s.fget F.CMPT_OWN_SEL_TABLE
  let i := s.fget F.CMPT_OWN_SEL_INDEX
  if (t = 0 ∧ i < 12288) ∨ (t = 1 ∧ i < 512) ∨ (t = 2 ∧ i < 8192) ∨ (t = 3 ∧ i < 1024) then some (t, i) else none

def State.ownTab (s : State) (t : Nat) : Tab Nat :=
  match t with
  | 0 => s.ownPoints | 1 => s.ownSlots | 2 => s.ownCommands | _ => s.ownClasses

def State.ownData (s : State) : Nat :=
  match s.ownSel with
  | some (t, i) => tabGet (fun _ => 0) (s.ownTab t) i
  | none => 0

/-- The anchor writes the entry that OWN_SEL selects (R475). -/
def State.ownWrite (s : State) (v : Nat) : State :=
  let s := if s.ownSel.isSome then s.raise Pg.CMPT Ev.CMPT_TABLE_CHG else s
  match s.ownSel with
  | some (0, i) => { s with ownPoints := tabSet (fun _ => 0) s.ownPoints i v }
  | some (1, i) => { s with ownSlots := tabSet (fun _ => 0) s.ownSlots i v }
  | some (2, i) => { s with ownCommands := tabSet (fun _ => 0) s.ownCommands i v }
  | some (_, i) => { s with ownClasses := tabSet (fun _ => 0) s.ownClasses i v }
  | none => s

/-- A register of the trust boundary's page that is read from OTP, flash or the anchor (R560). -/
def State.ancValue (s : State) (k : Nat) : Option Nat :=
  if k = R.ANC_SEC then some s.ancSec
  else if k = R.ANC_SERIAL_LO then some s.trust.otp.serial.toNat
  else if k = R.ANC_SERIAL_HI then some (s.trust.otp.serial.toNat / 2 ^ 32)
  else if k = R.ANC_BOOTREC then some s.ancBootRec
  else none

/-- Index of a time register of RTC that reads through the shadow. -/
def rtcIndex (k : Nat) : Option Nat := (rtcKeys.zipIdx.find? (fun e => e.1 == k)).map (·.2)

def State.rtcValue (s : State) (k : Nat) : Option Nat :=
  match rtcIndex k with
  | some i => some (s.rtcRead i).toNat
  | none =>
    if k = R.RTC_CD_VAL then some s.cdVal
    else if k = R.RTC_STAT then some (fieldPut F.RTC_STAT_FROZEN (s.rd k) (boolNat s.frozen)).toNat
    else none

/-- AOUTn with SRC_LOOP: the source of its point is a loop (R315). -/
def State.lioValue (s : State) (k : Nat) : Option Nat :=
  (List.range 4).findSome? (fun n =>
    if k = R.LIO_AOUT n then
      let loop := match tabFind s.lioPids (8 + n) with
        | some p => isLoopSrc (s.point p).src
        | none => false
      some (fieldPut (F.LIO_AOUT_SRC_LOOP n) (s.rd k) (boolNat loop)).toNat
    else none)

/-- TASK.RUNc and TSTATt. -/
def State.taskValue (s : State) (k : Nat) : Option Nat :=
  let o := k % 0x1000
  let t := (o - 0x140) / 0x20
  if k = R.TASK_RUN0 then some (s.runWord 0)
  else if k = R.TASK_RUN1 then some (s.runWord 1)
  else if t < taskCount ∧ 0x140 ≤ o ∧ k = R.TASK_TSTAT t then some (tstateCode (s.task t).st)
  else none

def State.ptpValue (s : State) (k : Nat) : Option Nat :=
  if k = R.PTP_FREQ 0 then some (word32 (s.dom 0).freq).toNat
  else if k = R.PTP_FREQ 1 then some (word32 (s.dom 1).freq).toNat
  else if k = R.PTP_ACT then some (fieldPut F.PTP_ACT_SLEWING (s.rd k) (boolNat s.slewingNow)).toNat
  else if k = R.BLK_STAT Pg.PTP then some (fieldPut F.PTP_STAT_SLEWING (s.rd k) (boolNat s.slewingNow)).toNat
  else none

/-- The registers whose value is not stored: what a read at `k` returns now. -/
def State.formed (s : State) (k : Nat) : Option Nat :=
  let p := k / 0x1000
  if k % 0x1000 = 0x18 then some (s.rd (R.INT_RAW p) &&& s.rd (R.INT_EN p)).toNat
  else match s.wide k with
    | some v => some v
    | none =>
      if p = Pg.SYS then
        if k = R.SYS_FAULT_MAP_LO then some (s.faultMap 0) else if k = R.SYS_FAULT_MAP_HI then some (s.faultMap 32) else none
      else if p = Pg.INTC then (if R.INTC_LEVEL 0 ≤ k ∧ k ≤ R.INTC_LEVEL 7 then some (s.levels ((k - R.INTC_LEVEL 0) / 4)) else none)
      else if p = Pg.ANC then s.ancValue k
      else if p = Pg.RTC then s.rtcValue k
      else if p = Pg.TASK then s.taskValue k
      else if p = Pg.LIO then s.lioValue k
      else if p = Pg.PTP then s.ptpValue k
      else if p = Pg.IOS then s.iosValue k
      else if 8 ≤ p ∧ p < 16 ∧ k = R.BLK_STAT p then
        some (fieldPut (F.ECC_STAT_SCRUB_LATE (p - 8)) (s.rd k) (boolNat (s.fset (F.ECC_STAT_SCRUB_LATE (p - 8)) || s.scrubLate (p - 8)))).toNat
      else if k = R.RST_BOOT_STAT then some (fieldPut F.RST_BOOT_STAT_STAGE (s.rd k) s.stageNow).toNat
      else if 16 ≤ p ∧ p < 20 then s.canWindow (p - 16) k
      else if k = R.MTR_CAL_DATA then some s.calData.toNat
      else if (List.range 4).any (fun q => k == R.MAC_TX_FRAMES q) || k == R.SW_DROP then some (s.netRun.rd k).toNat
      else if k = R.SW_FDB_CNT then some (s.fdbTidy.rd k).toNat
      else if k = R.SW_VLAN_DATA then some (s.vlanData (s.fget F.SW_VLAN_SEL_VID)).toNat
      else if k = R.CMPT_OWN_DATA then some s.ownData
      else if k = R.CAIRN_HELD then some (if s.fset F.CAIRN_STAT_INDEX_READY then s.cairn.slots.length else 0)
      else none

/-! ### Reads (R11, R13) -/

/-- What a write-only register reads as, and the mailbox registers of another core (R559). -/
def hidden (req : Req) (k : Nat) : Bool :=
  let p := k / 0x1000
  let o := k % 0x1000
  (match rowOf p o with | some (r, _) => r.wo | none => false) || o == 0x1C
    || (p == Pg.ANC && decide (0x100 ≤ o) && decide (o < 0x180) && req != .anchor && req != Req.ofCore ((o - 0x100) / 0x20))

/-- Bits that a read clears to their reset value. -/
def rcMask (k : Nat) : Word := match rowOf (k / 0x1000) (k % 0x1000) with | some (r, _) => BitVec.ofNat 32 r.rc | none => 0

/-- A read that does more than return a value. -/
def State.readActs (s : State) (k : Nat) : Option (State × Word) :=
  if k = R.IOS_EVT then some s.evtRead
  else if k = R.TASK_DISPATCH0 then some (s.dispatch 0)
  else if k = R.TASK_DISPATCH1 then some (s.dispatch 1)
  else if k = R.NRG_TOT_LO then some s.totRead
  else if k = R.NRG_TALLY then some s.tallyRead
  else if k = R.RTC_SEC then some s.rtcFreeze
  else if k = R.RTC_YEAR_HI then some s.rtcRelease
  else if k = R.CLK_MON_PPM then (if s.fget F.CLK_MON_SEL_D ≤ 10 then (let (v, s) := s.draw; some (s, v.truncate 32)) else some (s, 0))
  else if k = R.BEL_RESYNC_LEFT then (if s.pairState = 2 then (let (v, s) := s.draw; some (s, v.truncate 32)) else some (s, 0))
  else none

/-- CLAIMt is read: the state with the claim made, and the value. -/
def State.claimTake (s : State) (t : Nat) : State × Word :=
  let s' := s.claim t
  ({ s' with resp := s.resp }, match s'.resp with | .data v => v.truncate 32 | _ => 0)

/-- A read of CLAIMt by its 32 bits. -/
def State.claimRead (s : State) (k : Nat) : Option (State × Word) :=
  (List.range 5).findSome? (fun t =>
    if k = R.INTC_CLAIM t then some (s.claimTake t) else none)

/-- A 32-bit read of the register at `k` by a requester that R93 lets in. -/
def State.regRead (s : State) (req : Req) (k : Nat) : State × Word :=
  if hidden req k then (s, 0)
  else match s.readActs k with
    | some x => x
    | none => match s.claimRead k with
      | some x => x
      | none =>
        match s.wide k with
        | some v => (s.wr (k + 4) (BitVec.ofNat 32 (v / 2 ^ 32)), BitVec.ofNat 32 v)
        | none =>
          let v := match s.formed k with | some v => BitVec.ofNat 32 v | none => s.rd k
          (s.wr k ((s.rd k &&& ~~~rcMask k) ||| (regReset k &&& rcMask k)), v)

/-! ### Writes (R11, R14) -/

/-- A write under the access code alone: RW bits take the value, W1C bits written 1 are cleared, all other bits stay. -/
def State.plainWrite (s : State) (req : Req) (k : Nat) (v : Word) : State :=
  match rowOf (k / 0x1000) (k % 0x1000) with
  | none => s
  | some (r, _) =>
    let m := BitVec.ofNat 32 (if req = .anchor then r.rw ||| r.anc else r.rw)
    let c := BitVec.ofNat 32 r.w1c
    s.wr k (((s.rd k &&& ~~~m) ||| (v &&& m)) &&& ~~~(v &&& c))

/-- A capture register whose CAPT, bit 31, is written 1: CAPT and MORE clear; MORE clears also when it is written 1. -/
def State.captWrite (s : State) (k : Nat) (v : Word) : State :=
  if v.getLsbD 31 then s.wr k (s.rd k &&& 0x3FFFFFFF) else if v.getLsbD 30 then s.wr k (s.rd k &&& 0xBFFFFFFF) else s

/-- BLK_FAULT is W1C; in SYS the capture is freed by CAPT (R99). -/
def State.faultWrite (s : State) (p : Nat) (v : Word) : State :=
  let k := R.BLK_FAULT p
  if p = Pg.SYS then (s.wr k (s.rd k &&& ~~~(v &&& 0x1F))).captWrite k v else s.wr k (s.rd k &&& ~~~v)

/-- A write of BLK_CTL: ENABLE, then the table of R96. -/
def State.ctlWrite (s : State) (req : Req) (p key : Nat) (expert enable : Bool) : State :=
  (if keyActs key then s.setEnable p enable else s).blkCtlKey req p key expert

/-- The common header (R89). -/
def State.headerWrite (s : State) (req : Req) (p o : Nat) (v : Word) : State :=
  if o = 0x8 then s.ctlWrite req p (v.toNat / 65536) (v.getLsbD 1) (v.getLsbD 0)
  else if o = 0x14 then s.wr (R.INT_EN p) v
  else if o = 0x1C then s.intClear p v
  else if o = 0x20 then s.ownerWrite req p v
  else if o = 0x24 then s.faultWrite p v
  else s

/-- The state that a command's meaning answers. -/
def nextOf (s : State) (o : Host.Outcome State Fault Refusal) : State := match o with | .next t => t | _ => s

/-- A write of GO: the request that REQ names with its arguments. HS, OPEN and SEAL act through their own rows, which carry their bytes; what
signatures of the others are worth is a free value here. -/
def State.goWrite (s : State) (c : Fin 4) : State :=
  let a (i : Nat) : Word := s.rd (R.ANC_ARG_0 c + 4 * i)
  let w : Word64 := BitVec.ofNat 64 (addrOf (a 0) (a 1))
  let (b, s') := s.draw
  match s.fget (F.ANC_REQ_CODE c) with
  | 0x01 => nextOf s (execChallenge c s)
  | 0x02 => nextOf s (execLcCmd c w (a 2) (b.getLsbD 0) s')
  | 0x03 => nextOf s (execDeviceKey c w s)
  | 0x04 => nextOf s (execSleep c s)
  | 0x05 => nextOf s (execUtcStore c (a 0) s)
  | 0x10 => nextOf s (execOchgArm c (b.getLsbD 0) (b.getLsbD 1) (b.getLsbD 2) s')
  | 0x11 => nextOf s (execOchgCancel c s)
  | 0x20 => s
  | 0x21 => nextOf s (execEnter c (a 0) s)
  | 0x22 => nextOf s (execLeave c s)
  | 0x23 => s
  | 0x24 => s
  | 0x25 => nextOf s (execClose c (a 0) s)
  | 0x30 => nextOf s (execUpdBegin c (a 0) s)
  | 0x31 => nextOf s (execUpdVerify c s)
  | 0x32 => nextOf s (execUpdActivate c s)
  | 0x33 => nextOf s (execUpdAbort c s)
  | 0x34 => nextOf s (execUpdConfirm c s)
  | code => s.mbox c code [a 0, a 1, a 2, a 3] true (fun s => s.mboxEnd c mbBadRequest)

/-- A write of a mailbox register: another core's is ignored and sets OTHER_BOX (R559). -/
def State.ancWrite (s : State) (req : Req) (o : Nat) (v : Word) : State :=
  if 0x100 ≤ o ∧ o < 0x180 then
    let c : Fin 4 := Fin.ofNat 4 ((o - 0x100) / 0x20)
    if req = .anchor then s.plainWrite req (Pg.ANC * 0x1000 + o) v
    else if req ≠ Req.ofCore c then s.flag F.ANC_FAULT_OTHER_BOX
    else if o % 0x20 = 0x14 then (if v.getLsbD 0 then s.goWrite c else s)
    else s.plainWrite req (Pg.ANC * 0x1000 + o) v
  else s

def State.intcWrite (s : State) (req : Req) (o : Nat) (v : Word) : State :=
  if 0x100 ≤ o ∧ o < 0x500 then s.routeWrite req ((o - 0x100) / 4) v
  else if 0x600 ≤ o ∧ o < 0x650 ∧ o % 0x10 = 8 then s.complete ((o - 0x600) / 0x10) (v.toNat % 256)
  else if o = 0x700 then s.swiSet v
  else s.plainWrite req (Pg.INTC * 0x1000 + o) v

def State.rtcWrite (s : State) (req : Req) (k : Nat) (v : Word) : State :=
  if k = R.RTC_CMD then s.rtcCmd (v.getLsbD 0) (v.getLsbD 1)
  else if k = R.RTC_CD_CTL then s.cdCtl v
  else if k = R.RTC_CD_LOAD then s.cdLoad v
  else s.plainWrite req k v

/-- The test registers take writes of the anchor, and of a core in compartment 0 in BLANK or SERVICE (R141). -/
def State.eccTestWrite (s : State) (req : Req) (n k : Nat) (v : Word) : State :=
  if req == .anchor || (s.comp0 req && s.fset (F.HDR_EXPERT (Pg.ECC n)) && (lcState s.trust.otp == 0 || lcState s.trust.otp == 3)) then s.plainWrite req k v
  else s.flag (F.ECC_FAULT_TEST_LOCKED n)

def State.eccWrite (s : State) (req : Req) (n k : Nat) (v : Word) : State :=
  if k = R.ECC_BUCKET_CFG n then s.bucketCfg n v
  else if k = R.ECC_UE_INFO n then s.captWrite k v
  else if R.ECC_TEST_FLIP_LO n ≤ k then s.eccTestWrite req n k v
  else s.plainWrite req k v

def State.canWrite (s : State) (req : Req) (n k : Nat) (v : Word) : State :=
  if k = R.CAN_MODE n then s.canModeWrite n (v.toNat % 8)
  else if k = R.CAN_RATE n ∨ 0x800 ≤ k % 0x1000 then s.canRateWrite n k v
  else if k = R.CAN_CMD n then s.canCmdWrite n v
  else if k = R.CAN_RX_CFG n then s.rxCfgWrite n (v.getLsbD 0)
  else if k = R.CAN_RX_RD_FW n then s.rdFwWrite n (v.toNat % 65536)
  else if k = R.CAN_TXQ1_WR n then s.txqWrWrite n 1 (v.toNat % 65536)
  else if k = R.CAN_TXQ2_WR n then s.txqWrWrite n 2 (v.toNat % 65536)
  else if R.CAN_WAKE_CFG n ≤ k ∧ k ≤ R.CAN_WAKE_DATA n then s.canWakeWrite n k (rwBits k v)
  else s.plainWrite req k v

def State.taskWrite (s : State) (req : Req) (k : Nat) (v : Word) : State :=
  let o := k % 0x1000
  let t := (o - 0x140) / 0x20
  if k = R.TASK_COMMIT0 then s.commit 0 (v.toNat % 64)
  else if k = R.TASK_COMMIT1 then s.commit 1 (v.toNat % 64)
  else if k = R.TASK_SW_TRIG then s.swTrig v
  else if o < 0x140 ∨ 0x740 ≤ o then s.plainWrite req k v
  else if k = R.TASK_TCFG t then s.tcfgWrite t v
  else if (o - 0x140) % 0x20 < 0x10 then s.taskSetting t k (rwBits k v)
  else s.plainWrite req k v

def State.loopWrite (s : State) (req : Req) (k : Nat) (v : Word) : State :=
  if R.LOOP_EN 0 ≤ k ∧ k ≤ R.LOOP_EN 15 then s.loopEnWrite ((k - R.LOOP_EN 0) / 4) v
  else if k = R.LOOP_STAT_CLR then s.statClrWrite v
  else s.plainWrite req k v

/-- TUNE: the registers of a unit, its injections in rows 0 to 3 and its captures above. -/
def State.tunePage (s : State) (k : Nat) (v : Word) : State :=
  let o := k % 0x1000
  if 0x100 ≤ o ∧ o < 0x180 then
    let i := (o - 0x100) / 0x20
    if k = R.TUNE_INJ_CMD i then s.injCmd i v
    else if (o - 0x100) % 0x20 < 0x18 then s.tuneWrite (s.injRuns i) k (rwBits k v)
    else s
  else if 0x180 ≤ o ∧ o < 0x200 then
    let j := (o - 0x180) / 0x20
    if k = R.TUNE_CAP_CMD j then s.capCmd j v
    else if (o - 0x180) % 0x20 < 8 then s.tuneWrite (s.capRuns j) k (rwBits k v)
    else s
  else s

/-- CAL_CMD: LOAD, then COMMIT. -/
def State.calCmd (s : State) (req : Req) (v : Word) : State :=
  let s := if v.getLsbD 0 then s.calLoad else s
  if v.getLsbD 1 then s.calCommit req else s

def State.mtrWrite (s : State) (req : Req) (k : Nat) (v : Word) : State :=
  let o := k % 0x1000
  let m := (o - 0x200) / 0x10
  if k = R.MTR_MOD_EDGE ∨ k = R.MTR_FILT_CFG then s.mtrIdleWrite k (rwBits k v)
  else if k = R.MTR_ZC_CFG then s.zcCfgWrite v
  else if 0x800 ≤ o then
    s.calWrite req o (fun s =>
      if k = R.MTR_CAL_DATA then s.calDataWrite v
      else if k = R.MTR_CAL_CMD then s.calCmd req v
      else s.plainWrite req k v)
  else if 0x200 ≤ o ∧ m < 18 then
    if k = R.MTR_CIRC_CFG m then s.cfgWrite req m v
    else if k = R.MTR_CIRC_PID m ∨ k = R.MTR_CIRC_CREEP m then s.circRegWrite m k (rwBits k v)
    else s
  else s.plainWrite req k v

def State.nrgWrite (s : State) (req : Req) (k : Nat) (v : Word) : State :=
  let m := (k % 0x1000 - 0x200) / 4
  if k = R.NRG_DMD_CFG then s.dmdWrite v
  else if k = R.NRG_SAVE_CFG then s.saveCfgWrite v
  else if k = R.NRG_EXP_CMD then (if v.getLsbD 0 then s.exportCreate else s)
  else if m < 18 ∧ k = R.NRG_CIRC_TCFG m then s.unitWrite m (v.toNat % 8)
  else s.plainWrite req k v

def State.ptpWrite (s : State) (req : Req) (k : Nat) (v : Word) : State :=
  if k = R.PTP_ACT then s.actWrite v
  else if k = R.PTP_STEP_CMD_LO ∨ k = R.PTP_MT_LO 0 ∨ k = R.PTP_MT_LO 1 ∨ k = R.PTP_MT_HI 0 ∨ k = R.PTP_MT_HI 1 ∨ k = R.PTP_MO_LO 0
      ∨ k = R.PTP_MO_LO 1 then s.wr k v
  else if k = R.PTP_STEP_CMD_HI then s.stepCmd v
  else if k = R.PTP_DCFG 0 then s.dcfgWrite 0 v
  else if k = R.PTP_DCFG 1 then s.dcfgWrite 1 v
  else if k = R.PTP_MO_HI 0 then s.sampleWrite 0 v
  else if k = R.PTP_MO_HI 1 then s.sampleWrite 1 v
  else s.plainWrite req k v

def State.swWrite (s : State) (req : Req) (k : Nat) (v : Word) : State :=
  if k = R.SW_PORT_STATE then s.portStateWrite v
  else if k = R.SW_MODE ∨ k = R.SW_AGE ∨ (R.SW_PVID 0 ≤ k ∧ k ≤ R.SW_PVID 4) then s.swIdleWrite k (rwBits k v)
  else if k = R.SW_FDB_FLUSH then s.fdbFlush v
  else if k = R.SW_VLAN_DATA then s.vlanWrite v
  else s.plainWrite req k v

def State.mac4Write (s : State) (req : Req) (k : Nat) (v : Word) : State :=
  if k = R.MAC4_RX_BASE_LO ∨ k = R.MAC4_RX_BASE_HI ∨ k = R.MAC4_RX_SIZE ∨ k = R.MAC4_TX_BASE_LO ∨ k = R.MAC4_TX_BASE_HI ∨ k = R.MAC4_TX_SIZE then
    s.mac4IdleWrite k (rwBits k v)
  else if k = R.MAC4_RX_RD then s.mac4RxRd (v.toNat % 2 ^ 17)
  else if k = R.MAC4_TX_WR then s.mac4TxWr (v.toNat % 2 ^ 17)
  else s.plainWrite req k v

/-- CURc, ENTRYc and OWN_DATA are the anchor's (R476). -/
def State.cmptWrite (s : State) (req : Req) (k : Nat) (v : Word) : State :=
  if k ≤ R.CMPT_ENTRY3_HI ∨ k = R.CMPT_OWN_DATA then
    if req ≠ .anchor then s.flag F.CMPT_FAULT_ANCHOR_ONLY
    else if k = R.CMPT_CUR2 then s.coreSwitch 0 v
    else if k = R.CMPT_CUR3 then s.coreSwitch 1 v
    else if k = R.CMPT_OWN_DATA then s.ownWrite (v.toNat % 64)
    else s.plainWrite req k v
  else if k = R.CMPT_DENY_INFO then s.captWrite k v
  else s.plainWrite req k v

def State.belWrite (s : State) (req : Req) (k : Nat) (v : Word) : State :=
  if k = R.BEL_CMD then s.belCmd v
  else if k = R.BEL_ALIVE then s.aliveWrite
  else if k = R.BEL_ALIVE_CFG then (s.plainWrite req k v).aliveWrite
  else s.plainWrite req k v

/-- A write of the basic or expert area by a requester that R93 and R98 let through. -/
def State.regPut (s : State) (req : Req) (p o : Nat) (v : Word) : State :=
  let k := p * 0x1000 + o
  if p = Pg.INTC then s.intcWrite req o v
  else if p = Pg.ANC then s.ancWrite req o v
  else if p = Pg.RST then (if k = R.RST_CMD then s.rstWrite v else s.plainWrite req k v)
  else if p = Pg.RTC then s.rtcWrite req k v
  else if 8 ≤ p ∧ p < 16 then s.eccWrite req (p - 8) k v
  else if 16 ≤ p ∧ p < 20 then s.canWrite req (p - 16) k v
  else if p = Pg.FNET then (if o < 0x110 then s.fnetWrite k (rwBits k v) else s.plainWrite req k v)
  else if p = Pg.TASK then s.taskWrite req k v
  else if p = Pg.LOOP then s.loopWrite req k v
  else if p = Pg.TUNE then s.tunePage k v
  else if p = Pg.LIO then (if k = R.LIO_DIO_DIR then s.dioDirWrite v else s.plainWrite req k v)
  else if p = Pg.MTR then s.mtrWrite req k v
  else if p = Pg.NRG then s.nrgWrite req k v
  else if p = Pg.PTP then s.ptpWrite req k v
  else if p = Pg.SW then s.swWrite req k v
  else if 30 ≤ p ∧ p < 34 then (if k = R.MAC_MODE (p - 30) then s.macModeWrite (p - 30) v else s.plainWrite req k v)
  else if p = Pg.MAC4 then s.mac4Write req k v
  else if p = Pg.BEL then s.belWrite req k v
  else if p = Pg.CAIRN then (if k = R.CAIRN_CMD then s.cairnCmd req v else s.plainWrite req k v)
  else if p = Pg.UPD then (if k = R.UPD_SUBMIT then s.updSubmit (v.toNat % 8) else s.plainWrite req k v)
  else if p = Pg.CMPT then s.cmptWrite req k v
  else s.plainWrite req k v

/-- Expert registers whose writes check for themselves: those of calibration (R356), and the test registers of ECC for the anchor, which may write them at
any time (R142). -/
def ownLock (req : Req) (p o : Nat) : Bool :=
  (p == Pg.MTR && (o == 0x800 || o == 0x804 || o == 0x808)) || (decide (8 ≤ p) && decide (p < 16) && decide (0x804 ≤ o) && req == .anchor)

/-- The expert area is locked while EXPERT is 0; an offset that no chapter defines is RSV (R88, R98). -/
def State.regWrite (s : State) (req : Req) (p o : Nat) (v : Word) : State :=
  if o < 0x28 then s.headerWrite req p o v
  else if o < 0x100 ∨ (rowOf p o).isNone then s
  else if 0x800 ≤ o ∧ s.fset (F.HDR_EXPERT p) = false ∧ ownLock req p o = false then
    let s := s.lockedWrite req p o
    if 8 ≤ p ∧ p < 16 ∧ 0x804 ≤ o ∧ req ≠ .anchor then s.flag (F.ECC_FAULT_TEST_LOCKED (p - 8)) else s
  else s.regPut req p o v

/-! ### The commands -/

/-- REGISTER_WRITE: a 32-bit store to a register page. -/
def execRegisterWrite (req : Req) (page : Fin 39) (off : Nat) (value : Word) (s : State) : Host.Outcome State Fault Refusal :=
  s.whenAwake fun s =>
    let o := off % 0x1000 / 4 * 4
    s.onPage req page o (fun s => s.regWrite req page o value)

/-- EXPERT_ARM: BLK_CTL written with KEY 0x5A3C. -/
def execExpertArm (req : Req) (page : Fin 39) (enable : Bool) (s : State) : Host.Outcome State Fault Refusal :=
  s.regCmd req (R.BLK_CTL page) (fun s => s.ctlWrite req page keyArm false enable)

/-- EXPERT_UNLOCK: KEY 0x3CA5 with EXPERT 1. -/
def execExpertUnlock (req : Req) (page : Fin 39) (enable : Bool) (s : State) : Host.Outcome State Fault Refusal :=
  s.regCmd req (R.BLK_CTL page) (fun s => s.ctlWrite req page keyUnlock true enable)

/-- EXPERT_CLEAR: KEY 0 with EXPERT 0. -/
def execExpertClear (req : Req) (page : Fin 39) (enable : Bool) (s : State) : Host.Outcome State Fault Refusal :=
  s.regCmd req (R.BLK_CTL page) (fun s => s.ctlWrite req page 0 false enable)

/-- BLOCK_ENABLE: KEY 0 with ENABLE 1. -/
def execBlockEnable (req : Req) (page : Fin 39) (expert : Bool) (s : State) : Host.Outcome State Fault Refusal :=
  s.regCmd req (R.BLK_CTL page) (fun s => s.ctlWrite req page 0 expert true)

/-- BLOCK_DISABLE: KEY 0 with ENABLE 0. -/
def execBlockDisable (req : Req) (page : Fin 39) (expert : Bool) (s : State) : Host.Outcome State Fault Refusal :=
  s.regCmd req (R.BLK_CTL page) (fun s => s.ctlWrite req page 0 expert false)

def execIntClr (req : Req) (page : Fin 39) (value : Word) (s : State) : Host.Outcome State Fault Refusal :=
  s.regCmd req (R.INT_CLR page) (fun s => s.intClear page value)

def execBlkOwnerWrite (req : Req) (page : Fin 39) (value : Word) (s : State) : Host.Outcome State Fault Refusal :=
  s.regCmd req (R.BLK_OWNER page) (fun s => s.ownerWrite req page value)

def execIntcRouteWrite (req : Req) (source : Fin 256) (value : Word) (s : State) : Host.Outcome State Fault Refusal :=
  s.regCmd req (R.INTC_ROUTE source) (fun s => s.routeWrite req source value)

/-- INTC_CLAIM: CLAIMt is read. -/
def execIntcClaim (req : Req) (target : Fin 5) (s : State) : Host.Outcome State Fault Refusal :=
  s.regReadCmd req (R.INTC_CLAIM target) (fun s => s.claimTake target)

/-- INTC_COMPLETE: COMPLETEt is written. -/
def execIntcComplete (req : Req) (target : Fin 5) (source : Fin 256) (s : State) : Host.Outcome State Fault Refusal :=
  s.regCmd req (R.INTC_COMPLETE target) (fun s => s.complete target source)

def execIntcSwiSet (req : Req) (value : Word) (s : State) : Host.Outcome State Fault Refusal :=
  s.regCmd req R.INTC_SWI_SET (fun s => s.swiSet value)

end Sys2Proof.Machine
end

