-- ==== Sys2Proof/Machine/Access.lean ====
section
/-! DEFINITION. Loads, stores and fetches of the application cores, and the debug port: the address map, what each requester reaches, and what the
access does there (01 R16 to R24, 03 R87 to R93, 04 R129 to R134, R464 to R466, R563, and the access rules of the areas). -/
namespace Sys2Proof.Machine

/-- What a load finds at its address. -/
inductive Path where
  /-- not reached: region and index as CMPT records them -/
  | deny (region index : Nat)
  /-- in no row of R87 -/
  | nowhere
  /-- admitted by CMPT and not open now (R24) -/
  | shut
  | plain
  | point (p : Nat)
  | force (k : Nat)
  | cairn (k : Nat)
  /-- reads return 0, writes are ignored -/
  | zero
deriving DecidableEq, Repr

/-- What a store finds. -/
inductive SPath where
  | deny (region index : Nat)
  | nowhere
  /-- refused by the rule of the region itself, or not open now (R24) -/
  | shut
  | plain
  /-- the active program bank, whose lines the copy to the partner follows -/
  | active
  /-- entry `k` of the output buffer of task `t` -/
  | output (t k : Nat)
  /-- a list of a task that is not DISABLED -/
  | lists
  /-- word of a loop slot's block that takes a store -/
  | slot (k : Nat)
  /-- a store that R282 does not open -/
  | slotBad (k : Nat)
  | sched (k w : Nat)
  | command (k : Nat)
  | cairn (k : Nat)
  | force (k : Nat)
  | ignore
deriving DecidableEq, Repr

/-- AC0 and AC1, and the debug port with the grants of both sides. -/
def isRt : Req → Bool
  | .ac0 => true
  | .ac1 => true
  | .debug => true
  | _ => false

/-- A core of either side in compartment 0. -/
def State.core0 (s : State) (req : Req) : Bool := isRt req || ((svcCore req).isSome && s.comp0 req)

/-- The service side in compartment 0. -/
def State.svc0 (s : State) (req : Req) : Bool := ((svcCore req).isSome || req == .debug) && s.comp0 req

/-- The tenant compartment of a service core, if it is in one. -/
def State.tenant (s : State) (req : Req) : Option Nat :=
  match svcCore req, s.session req with
  | some _, some (n + 1) => some (n + 1)
  | _, _ => none

/-- Granted to compartment 0, and to the tenant that `own` names. -/
def State.owned (s : State) (req : Req) (own : Nat → Bool) (yes no : Path) : Path :=
  if s.core0 req then yes
  else match s.tenant req with | some n => if own n then yes else no | none => no

def within (a lo hi : Nat) : Bool := decide (lo ≤ a) && decide (a < hi)

/-- The circuit whose ring, mirror block or demand ring holds `a`. -/
def meterCirc (a : Nat) : Option Nat :=
  if within a 0x10A10000 0x10A22000 then some ((a - 0x10A10000) / 0x1000)
  else if within a 0x10A40000 0x10A41200 then some ((a - 0x10A40000) / 0x100)
  else if within a 0x10A60000 0x10A72000 then some ((a - 0x10A60000) / 0x1000)
  else none

/-- Region and index that CMPT records for the metering area: the channel of a calibration block, the circuit of the others (R476). -/
def meterDeny (a : Nat) : Nat × Nat :=
  if a < 0x10A01800 then (3, (a - 0x10A00000) / 0x100)
  else match meterCirc a with | some m => (3, m) | none => (8, 0)

/-- Tenant `n` reads the metering word at `a` (R464). -/
def State.meterOwned (s : State) (a n : Nat) : Bool :=
  if a < 0x10A01800 then (s.usersOf ((a - 0x10A00000) / 0x100)).any (fun m => s.circOwner m == n)
  else match meterCirc a with | some m => s.circOwner m == n | none => false

/-- The mailbox buffer at `a` is the requester's own, in compartment 0 (R555). -/
def State.ownBuffer (s : State) (req : Req) (a : Nat) : Bool :=
  req == Req.ofCore ((a - 0x10ED0000) / 0x8000) && s.comp0 req

/-! ### Loads -/

/-- Loads in the frame buffers: only what a chapter grants. -/
def State.frameLoad (s : State) (req : Req) (a : Nat) : Path :=
  let zeroOnly (region index : Nat) : Path := if s.core0 req then .plain else .deny region index
  if a < 0x10C60000 then zeroOnly 8 0
  else if a < 0x10C62000 then let k := (a - 0x10C60000) / 32; s.owned req (fun n => s.schedOwner k == n) .plain (.deny 4 k)
  else if within a 0x10C80000 0x10E80000 then zeroOnly 8 0
  else if within a 0x10E80000 0x10EC0000 then zeroOnly 5 ((a - 0x10E80000) / 32)
  else if within a 0x10EC0000 0x10EC2000 then
    let k := (a - 0x10EC0000) / 0x400
    if ctxOf req = some k then (if s.ctxOpen k then .cairn k else .deny 9 k) else .deny 9 k
  else if within a 0x10EC4000 0x10ECC800 then zeroOnly 8 0
  else if within a 0x10ED0000 0x10EF0000 then (if s.ownBuffer req a then .plain else .deny 8 0)
  else if within a 0x10EFC000 0x10F00000 then (if s.core0 req then .force ((a - 0x10EFC000) / 32) else .deny 8 0)
  else .deny 8 0

/-- Loads in on-chip SRAM (R21). -/
def State.sramLoad (s : State) (req : Req) (fetch : Bool) (a : Nat) : Path :=
  if a < 0x10800000 then (if isRt req && within a s.bankBase (s.bankBase + 0x400000) then .plain else .deny 8 0)
  else if fetch then .deny 8 0
  else if a < 0x10818000 then let p := (a - 0x10800000) / 8; s.owned req (fun n => tabGet (fun _ => 0) s.ownPoints p == n) (.point p) (.deny 1 p)
  else if a < 0x10840000 then .deny 8 0
  else if a < 0x109C0000 then (if s.core0 req then .plain else .deny 8 0)
  else if a < 0x10A00000 then let k := (a - 0x109C0000) / 512; s.owned req (fun n => tabGet (fun _ => 0) s.ownSlots k == n) .plain (.deny 2 k)
  else if a < 0x10B00000 then s.owned req (s.meterOwned a) .plain (.deny (meterDeny a).1 (meterDeny a).2)
  else if a < 0x10F00000 then s.frameLoad req a
  else if a < 0x10F80000 then .deny 8 0
  else if isRt req then .plain else .deny 8 0

/-- Loads in the MRAM window (R23). -/
def State.mramLoad (s : State) (req : Req) (a : Nat) : Path :=
  if a < 0x60100000 then (if s.core0 req then .plain else .deny 8 0)
  else if a < 0x60500000 then (if isRt req then .plain else .deny 8 0)
  else if a < 0x60D00000 then (if s.core0 req then .plain else .deny 8 0)
  else if a < 0x61000000 then (if s.core0 req then .zero else .deny 8 0)
  else .deny 8 0

/-- DRAM is closed until its wipe is complete, but for the first 64 MiB of service memory (R24). -/
def State.dramOpen (s : State) (a : Nat) : Bool := s.fset F.SYS_STAT_DRAM_READY || within a 0x210000000 0x214000000

/-- Loads and fetches in DRAM (R23, R464). -/
def State.dramLoad (s : State) (req : Req) (fetch : Bool) (a : Nat) : Path :=
  let ten := s.tenant req
  let yes : Path := if s.dramOpen a then .plain else .shut
  if (svcCore req).isNone && req != .debug then .deny 8 0
  else if a < 0x100001000 then (if fetch then .deny 6 0 else yes)
  else if a < 0x200000000 then
    let r := (a - 0x100001000) / 16
    if fetch then .deny 6 0
    else if s.svc0 req || (match ten with | some n => (s.byte (0x100001000 + 16 * r + 11)).toNat == n | none => false) then yes
    else .deny 6 0
  else if a < 0x210000000 then (if s.svc0 req then yes else .deny 8 0)
  else if a < 0x2F0000000 then yes
  else let w := (a - 0x2F0000000) / 0x400000; if s.svc0 req || ten == some w then yes else .deny 7 0

/-- What a load or fetch finds at `a`, outside the register pages (R87). -/
def State.loadPath (s : State) (req : Req) (fetch : Bool) (a : Nat) : Path :=
  if a < 0x10000000 then .deny 8 0
  else if a < 0x11000000 then s.sramLoad req fetch a
  else if within a 0x40000000 0x50000000 then .deny 0 0
  else if within a 0x60000000 0x62000000 then (if fetch then .deny 8 0 else s.mramLoad req a)
  else if within a 0x100000000 0x300000000 then s.dramLoad req fetch a
  else .nowhere

/-- The bytes of a word from address `a` on. -/
def partOf (w : Word64) (a n : Nat) : Nat := w.toNat / 2 ^ (8 * (a % 8)) % 2 ^ (8 * n)

/-- An access outside every row of R87 is a fault of KIND 1. -/
def State.nowhereFault (s : State) (req : Req) (write : Bool) (a : Nat) : State :=
  { s.sysFault req write 1 a with resp := if write then .storeFault else .loadFault }

/-- A word of plain memory as a core's load gets it: an uncorrectable word of program SRAM or DRAM is an access fault, elsewhere the stored bits come
uncorrected; an MRAM word that the device cannot correct is an access fault and is recorded (R131). -/
def State.plainLoad (s : State) (req : Req) (a n : Nat) : Option Nat × State :=
  if !s.mramOk a n then (none, { s.note Pg.SYS noBit (natLe 8 a) with resp := .loadFault })
  else match s.eccRead a req with
  | (.uncorrectable, s') =>
    if a < 0x10800000 ∨ 0x100000000 ≤ a then (none, { s' with resp := .loadFault })
    else (some (partOf (s.storedWord a) a n), s')
  | (_, s') => (some (partOf (s.readWord a) a n), s')

/-- Refusals of a load along a path, or the value. -/
def State.loadPart (s : State) (req : Req) (fetch : Bool) (a n : Nat) : Option Nat × State :=
  match s.loadPath req fetch a with
  | .deny region index => (none, s.memRefuse req false region index a)
  | .nowhere => (none, s.nowhereFault req false a)
  | .shut => (none, s.memFault req false a)
  | .plain => s.plainLoad req a n
  | .point p => let s := (s.eccRead a req).2; (some (partOf (s.pointWord p) a n), s)
  | .force k => (some (leOf (s.force k).bytes (a % 32) n), s)
  | .cairn k => (some (leNat ((s.ctx k).bytes (a % 0x400) n)), s)
  | .zero => (some 0, s)

/-! ### Stores -/

def State.frameStore (s : State) (req : Req) (a n : Nat) : SPath :=
  if a < 0x10C40000 then .deny 8 0
  else if a < 0x10C60000 then (if s.core0 req && within ((a - 0x10C40000) % 0x8000) 0x5000 0x7800 then .plain else .deny 8 0)
  else if a < 0x10C62000 then (if n = 8 then .sched ((a - 0x10C60000) / 32) (a / 8 % 4) else if s.core0 req then .shut else .deny 4 ((a - 0x10C60000) / 32))
  else if within a 0x10E80000 0x10EC0000 then
    (if n = 8 ∧ a % 32 = 0 then .command ((a - 0x10E80000) / 32) else if s.core0 req then .shut else .deny 5 ((a - 0x10E80000) / 32))
  else if within a 0x10EC0000 0x10EC2000 then
    let k := (a - 0x10EC0000) / 0x400
    if ctxOf req = some k then (if s.ctxOpen k then .cairn k else .deny 9 k) else .deny 9 k
  else if within a 0x10EC4000 0x10ECC800 then (if s.core0 req && !s.slotBusy ((a - 0x10EC4000) / 0x1100) then .plain else .deny 8 0)
  else if within a 0x10ED0000 0x10EF0000 then (if s.ownBuffer req a then .plain else .deny 8 0)
  else if within a 0x10EFC000 0x10F00000 then
    if n = 8 ∧ a % 32 = 0 ∧ s.core0 req = true ∧ s.standby = false then .force ((a - 0x10EFC000) / 32) else .deny 8 0
  else .deny 8 0

/-- The requester is the core that runs task `t`, or the debug port with its grants. -/
def State.taskReq (s : State) (req : Req) (t : Nat) : Bool :=
  match req with
  | .ac0 => s.taskCore t == 0
  | .ac1 => s.taskCore t == 1
  | .debug => true
  | _ => false

/-- Stores to a task area: of the writers of R227 alone; any other core's is one that is not granted (R22; log entry 58). -/
def State.areaStore (s : State) (req : Req) (a : Nat) : SPath :=
  let t := (a - 0x10840000) / 0x8000
  let o := (a - 0x10840000) % 0x8000
  if within o 0x2100 0x4100 then (if s.taskReq req t then .output t ((o - 0x2100) / 8) else .deny 8 0)
  else if within o 0x4100 0x5100 then (if !isRt req then .deny 8 0 else if (s.task t).st = .disabled then .plain else .lists)
  else if within o 0x80 0x100 || decide (0x5100 ≤ o) then .ignore
  else .deny 8 0

/-- Stores to a loop slot's block (R282). -/
def State.blockStore (s : State) (req : Req) (a n : Nat) : SPath :=
  let k := (a - 0x109C0000) / 512
  let o := a % 512
  if !s.core0 req then .deny 2 k
  else if s.standby then .shut
  else if n = 8 ∧ o < 0x88 ∧ (¬(o = 0 ∨ o = 0x10 ∨ o = 0x18 ∨ o = 0x20) ∨ s.slotOn k = false) then .slot k
  else .slotBad k

def State.sramStore (s : State) (req : Req) (a n : Nat) : SPath :=
  if within a s.bankBase (s.bankBase + 0x400000) then (if isRt req && !s.standby then .active else .deny 8 0)
  else if a < 0x10800000 then (if s.core0 req && s.updState != 3 && s.updState != 4 then .plain else .deny 8 0)
  else if a < 0x10818000 then .deny 1 ((a - 0x10800000) / 8)
  else if a < 0x10840000 then .deny 8 0
  else if a < 0x109C0000 then (if s.core0 req then s.areaStore req a else .deny 8 0)
  else if a < 0x10A00000 then s.blockStore req a n
  else if a < 0x10B00000 then .deny (meterDeny a).1 (meterDeny a).2
  else if a < 0x10F00000 then s.frameStore req a n
  else .deny 8 0

def State.mramStore (s : State) (req : Req) (a : Nat) : SPath :=
  if within a 0x60100000 0x60300000 then (if isRt req then .plain else .deny 8 0)
  else if within a 0x60300000 0x60500000 then (if isRt req then .ignore else .deny 8 0)
  else if within a 0x60D00000 0x61000000 then (if s.core0 req then .ignore else .deny 8 0)
  else .deny 8 0

def State.dramStore (s : State) (req : Req) (a : Nat) : SPath :=
  let w := (a - 0x2F0000000) / 0x400000
  let yes : SPath := if s.dramOpen a then .plain else .shut
  if (svcCore req).isNone && req != .debug then .deny 8 0
  else if a < 0x200000000 then (if s.svc0 req then yes else .deny 6 0)
  else if a < 0x210000000 then (if s.svc0 req then yes else .deny 8 0)
  else if a < 0x2F0000000 then (if (s.tenant req).isNone then yes else .deny 8 0)
  else if s.svc0 req || s.tenant req == some w then yes else .deny 7 0

/-- What a store of `n` bytes finds at `a`, outside the register pages. -/
def State.storePath (s : State) (req : Req) (a n : Nat) : SPath :=
  if a < 0x10000000 then .deny 8 0
  else if a < 0x11000000 then s.sramStore req a n
  else if within a 0x40000000 0x50000000 then .deny 0 0
  else if within a 0x60000000 0x62000000 then s.mramStore req a
  else if within a 0x100000000 0x300000000 then s.dramStore req a
  else .nowhere

/-- A store to plain memory: whole aligned words go straight in, narrower ones as a read-modify-write, which an uncorrectable word discards with an
access fault (R132, R134). -/
def State.plainStore (s : State) (req : Req) (a n v : Nat) : State :=
  if n = 8 then { s.storeWord a (BitVec.ofNat 64 v) with resp := .data 0 }
  else
    let (ok, s) := s.storeNarrow a n v req
    { s with resp := if ok then .data 0 else .storeFault }

/-- A line of the active bank has been written since the latest copy unit (R484). -/
def State.markLine (s : State) (a : Nat) : State :=
  let o := (a - s.bankBase) / 64 * 64
  if s.bel.dirty.contains o then s else { s with bel := { s.bel with dirty := s.bel.dirty ++ [o] } }

/-- Entry `k` of the output buffer of task `t` is marked as written (R232). -/
def State.markOutput (s : State) (t k : Nat) : State :=
  s.taskSet t (fun x => if x.written.contains k then x else { x with written := k :: x.written })

/-- A store of `n` bytes inside one word. -/
def State.storePart (s : State) (req : Req) (a n v : Nat) : State :=
  match s.storePath req a n with
  | .deny region index => s.memRefuse req true region index a
  | .nowhere => s.nowhereFault req true a
  | .shut => s.memFault req true a
  | .plain => s.plainStore req a n v
  | .active => (s.plainStore req a n v).markLine a
  | .output t k => let s := s.plainStore req a n v; if s.resp = .storeFault then s else s.markOutput t k
  | .lists => (s.memFault req true a).flag F.TASK_FAULT_BAD_WRITE
  | .slot k => ((s.keepBlk a).plainStore req a n v).markSlot k
  | .slotBad _ => (s.memFault req true a).flag F.LOOP_FAULT_BAD_WRITE
  | .sched k w => s.schedStore req k w (BitVec.ofNat 64 v)
  | .command k => s.cmdStore req k (BitVec.ofNat 64 v)
  | .cairn k => s.ctxStore req k (a % 0x400) n (BitVec.ofNat 64 v)
  | .force k => { s.forceWrite k (BitVec.ofNat 64 v) with resp := .data 0 }
  | .ignore => { s with resp := .data 0 }

/-! ### Register pages (R92, R93) -/

/-- A 32-bit read of the page register at address `a`. A refused narrow load is recorded at the address of the register it would have read, a narrow store at
its own byte address; R101 does not say which (DESIGN CHOICE, log entry 46). -/
def State.pageLoad (s : State) (req : Req) (a : Nat) : Option Nat × State :=
  let p := (a - 0x40000000) / 0x1000
  let o := a % 0x1000 / 4 * 4
  if s.pageGrant req p o then (let (s, v) := s.regRead req (p * 0x1000 + o); (some v.toNat, s)) else (none, s.pageRefuse req p o false)

/-- An aligned load of a page: narrower loads read the whole register, a 64-bit load reads two. -/
def State.pageRead (s : State) (req : Req) (a n : Nat) : Option Nat × State :=
  match s.pageLoad req a with
  | (none, s) => (none, s)
  | (some v, s) =>
    if n ≤ 4 then (some (v / 2 ^ (8 * (a % 4)) % 2 ^ (8 * n)), s)
    else match s.pageLoad req (a + 4) with
      | (none, s) => (none, s)
      | (some w, s) => (some (v + w * 2 ^ 32), s)

/-- A 32-bit write of the page register at address `a`. -/
def State.pageStore (s : State) (req : Req) (a : Nat) (v : Word) : State :=
  let p := (a - 0x40000000) / 0x1000
  let o := a % 0x1000
  s.onPage req p o (fun s => s.regWrite req p o v)

/-- An aligned store to a page: narrower ones are ignored, a 64-bit store writes two registers. -/
def State.pageWrite (s : State) (req : Req) (a n v : Nat) : State :=
  let p := (a - 0x40000000) / 0x1000
  let o := a % 0x1000
  if n < 4 then s.onPage req p o (fun s => s.narrowWrite req p o)
  else if n = 4 then s.pageStore req a (BitVec.ofNat 32 v)
  else
    let s := s.pageStore req a (BitVec.ofNat 32 v)
    if s.resp = .storeFault then s else s.pageStore req (a + 4) (BitVec.ofNat 32 (v / 2 ^ 32))

/-! ### Whole accesses (R92, R563) -/

def widthBytes : Width → Nat
  | .b1 => 1 | .b2 => 2 | .b4 => 4 | .b8 => 8

/-- Where a misaligned access raises the core's exception: the assigned register pages, uncacheable regions, the MRAM window. One to the unassigned pages
gets the access fault of R87 instead (DESIGN CHOICE, log entry 46). -/
def faultsMisaligned (a : Nat) : Bool :=
  within a 0x10800000 0x10F00000 || within a 0x10F80000 0x11000000 || within a 0x40000000 0x40027000 || within a 0x60000000 0x62000000

/-- The cores cache this address. -/
def cached (a : Nat) : Bool := within a 0x10000000 0x10800000 || within a 0x100000000 0x300000000

def inPages (a : Nat) : Bool := within a 0x40000000 0x40027000

/-- An aligned load. A fetch from a register page is refused as R93 refuses an access, whoever fetches: the spec does not say what it gets (DESIGN CHOICE,
log entry 46). -/
def State.loadOne (s : State) (req : Req) (fetch : Bool) (a n : Nat) : Option Nat × State :=
  if inPages a then (if fetch then (none, s.pageRefuse req ((a - 0x40000000) / 0x1000) (a % 0x1000) false) else s.pageRead req a n)
  else s.loadPart req fetch a n

/-- A load: a misaligned one raises the exception, or goes as the two aligned accesses that cover it. -/
def State.loadAny (s : State) (req : Req) (fetch : Bool) (a n : Nat) : Option Nat × State :=
  if a % n = 0 then s.loadOne req fetch a n
  else if faultsMisaligned a && !fetch then (none, { s with resp := .misaligned })
  else if cached a then
    let b := a / n * n + n
    match s.loadOne req fetch a (b - a) with
    | (none, s) => (none, s)
    | (some v, s) =>
      match s.loadOne req fetch b (a + n - b) with
      | (none, s) => (none, s)
      | (some w, s) => (some (v + w * 2 ^ (8 * (b - a))), s)
  else s.loadPart req fetch a n

def State.storeOne (s : State) (req : Req) (a n v : Nat) : State :=
  if inPages a then s.pageWrite req a n v else s.storePart req a n v

def State.storeAny (s : State) (req : Req) (a n v : Nat) : State :=
  if a % n = 0 then s.storeOne req a n v
  else if faultsMisaligned a then { s with resp := .misaligned }
  else if cached a then
    let b := a / n * n + n
    let s := s.storeOne req a (b - a) (v % 2 ^ (8 * (b - a)))
    if s.resp = .storeFault then s else s.storeOne req b (a + n - b) (v / 2 ^ (8 * (b - a)))
  else s.storePart req a n v

/-- The access's answer to its requester. -/
def State.loadAnswer (x : Option Nat × State) (fetch : Bool) : State :=
  match x with
  | (some v, s) => { s with resp := .data (BitVec.ofNat 64 v) }
  | (none, s) => if fetch && s.resp == .loadFault then { s with resp := .fetchFault } else s

/-! ### The anchor (R87, R522) -/

/-- What an aligned access of the anchor, an RV32 core, finds. -/
inductive APath where
  /-- the boot ROM and the engines of its private space, whose contents the spec does not give, and what the map does not grant it -/
  | none
  | dwin
  | page
  /-- its reader context -/
  | cairn
  /-- memory at an address of the map -/
  | plain (a : Nat)
deriving DecidableEq, Repr

/-- The DRAM address that the window shows for an address of the anchor (R522). -/
def State.windowAddr (s : State) (a : Nat) : Nat := 0x100000000 + s.trust.dwin.toNat * 0x4000000 + (a - 0xC000000)

/-- DRAM through the window, anchor SRAM, the mailbox buffers (R555), the energy totals and the configuration region of MRAM (R23). -/
def State.anchorPath (s : State) (a n : Nat) : APath :=
  if a % n ≠ 0 ∨ 4 < n then .none
  else if a = 0x2F000 then .dwin
  else if within a 0xC000000 0x10000000 then .plain (s.windowAddr a)
  else if within a 0x10ED0000 0x10EF0000 || within a 0x10F00000 0x10F80000 || within a 0x60000000 0x60100000 || within a 0x60500000 0x60D00000 then .plain a
  else if within a 0x10EC1000 0x10EC1400 then .cairn
  else if inPages a then .page
  else .none

/-- Anchor SRAM is its own: an uncorrectable word there makes it request a cold reset (R131). -/
def State.ownRead (s : State) (a n : Nat) : State := if within a 0x10F00000 0x10F80000 then s.anchorRead a n else s

/-- A load or fetch of the anchor; CMPT checks none. -/
def State.anchorLoad (s : State) (a n : Nat) : Option Nat × State :=
  match s.anchorPath a n with
  | .none => (Option.none, { s with resp := .ignored })
  | .dwin => (some (s.trust.dwin.toNat % 2 ^ (8 * n)), s)
  | .plain b => let t := s.ownRead b n; if t.sup.inReset then (Option.none, t) else s.plainLoad .anchor b n
  | .cairn => (some (leNat ((s.ctx 4).bytes (a % 0x400) n)), s)
  | .page => s.pageRead .anchor a n

/-- A store of the anchor. DWIN takes whole words. -/
def State.anchorStore (s : State) (a n v : Nat) : State :=
  match s.anchorPath a n with
  | .none => { s with resp := .ignored }
  | .dwin => if n = 4 then { s with trust := { s.trust with dwin := BitVec.ofNat 7 v }, resp := .data 0 } else { s with resp := .ignored }
  | .plain b => let t := s.ownRead b n; if t.sup.inReset then t else s.plainStore .anchor b n v
  | .cairn => s.ctxStore .anchor 4 (a % 0x400) n (BitVec.ofNat 64 v)
  | .page => s.pageWrite .anchor a n v

/-- CORE_MEMORY_LOAD: a load or an instruction fetch of AC0 to AC3, or of the anchor, core 4. -/
def execCoreMemoryLoad (core : Fin 5) (fetch : Bool) (addr : Nat) (width : Width) (s : State) : Host.Outcome State Fault Refusal :=
  s.whenAwake fun s =>
    if core = 4 then State.loadAnswer (s.anchorLoad addr (widthBytes width)) false
    else State.loadAnswer (s.loadAny (Req.ofCore core) fetch addr (widthBytes width)) fetch

/-- CORE_MEMORY_STORE. -/
def execCoreMemoryStore (core : Fin 5) (addr : Nat) (width : Width) (data : Word64) (s : State) : Host.Outcome State Fault Refusal :=
  s.whenAwake fun s =>
    let v := data.toNat % 2 ^ (8 * widthBytes width)
    if core = 4 then s.anchorStore addr (widthBytes width) v else s.storeAny (Req.ofCore core) addr (widthBytes width) v

/-- The debug port answers in BLANK and SERVICE only (R55, R128). -/
def State.debugOpen (s : State) : Bool := lcState s.trust.otp == 0 || lcState s.trust.otp == 3

/-- DEBUG_ACCESS. -/
def execDebugAccess (acc : Access) (s : State) : Host.Outcome State Fault Refusal :=
  s.whenLive fun s =>
    if s.debugOpen then
      match acc with
      | .load a w => State.loadAnswer (s.loadAny .debug false a (widthBytes w)) false
      | .store a w v => s.storeAny .debug a (widthBytes w) (v.toNat % 2 ^ (8 * (widthBytes w)))
    else { s with resp := .ignored }

end Sys2Proof.Machine
end

