-- ==== Sys2Proof/Machine/Events.lean ====
section
/-! DEFINITION. Events that touch several blocks at once: a channel becomes idle or wakes, a frame becomes valid, a quiescent gap comes. -/
namespace Sys2Proof.Machine

/-- CAN_INTEGRATION_DONE: 11 consecutive recessive bits in INTEGRATING or SLEEP_PENDING (R148, R149); for the channel that woke the module, READY rises with it (R170). -/
def execCanIntegrationDone (ch : Fin 4) (s : State) : Host.Outcome State Fault Refusal :=
  s.whenAwake fun s => (s.canIdleRun ch).wakeCheck

/-- The wake detector's verdict; between its two bounds a free value decides (R168). -/
def State.wakeSays (s : State) (n : Nat) (c : CanWakeCause) : Bool × State :=
  match s.wakeMatch n c with
  | some b => (b, s)
  | none =>
    let (v, s) := s.draw
    (v.getLsbD 0, s)

/-- A channel in SLEEP sees a wake condition (R168 to R170). -/
def State.wakeHeard (s : State) (n : Nat) (c : CanWakeCause) : State :=
  if s.canState n == canSleep && !s.clockLost 9 then
    let (hit, s) := s.wakeSays n c
    if hit then (s.canWakeUp n).wakeEnd (some n) else s
  else s

/-- CAN_WAKE. It also comes while the module is asleep. -/
def execCanWake (ch : Fin 4) (cause : CanWakeCause) (s : State) : Host.Outcome State Fault Refusal :=
  s.whenLive fun s => s.wakeHeard ch cause

/-- An extended data frame with the identifier of SYNC (R181). -/
def isSyncFrame (f : CanFrame) : Bool := f.ide && !f.rtr && f.id == 0

/-- A stored SYNC of another module: a standby takes its T_S from it, with SKEW where it came more than 1 µs late (R186, R190), an active module finds that it is not alone (R480). -/
def State.syncStored (s : State) (n sof : Nat) (f : CanFrame) : State :=
  let c := leNat (f.data.take 6)
  let s := if s.standby then s.syncHeard n c sof (decide (s.syncLaunch c + 1000 < sof)) else s
  s.foreignSync sof

/-- CAN_RX_VALID: a frame of another node becomes valid, its SOF at module time `sof`. -/
def execCanRxValid (ch : Fin 4) (frame : CanFrame) (sof : Word64) (s : State) : Host.Outcome State Fault Refusal :=
  s.whenAwake fun s =>
    let stored := s.canReceives ch sof.toNat && !s.ringFull ch
    let s := s.canRx ch frame sof.toNat
    if stored && isSyncFrame frame then s.syncStored ch sof.toNat frame else s

/-- QUIESCENT_GAP: the gap of R262 is there for whatever waits for one: an armed online change, a planned handover, an anchor update. -/
def execQuiescentGap (s : State) : Host.Outcome State Fault Refusal :=
  s.whenAwake fun s => ((s.ochgGap).belGap).updGap

end Sys2Proof.Machine
end

