-- ==== Sys2Proof/Machine/Dispatch.lean ====
section
/-! DEFINITION. One arm per command. -/
namespace Sys2Proof.Machine

def exec (i : Instr) (s : State) : Host.Outcome State Fault Refusal :=
  match i with
  | .vinRise => Sys2Proof.Machine.execVinRise s
  | .underV => Sys2Proof.Machine.execUnderV s
  | .overV => Sys2Proof.Machine.execOverV s
  | .overVRelease => Sys2Proof.Machine.execOverVRelease s
  | .resetPin => Sys2Proof.Machine.execResetPin s
  | .resetPinRelease => Sys2Proof.Machine.execResetPinRelease s
  | .coldResetRelease => Sys2Proof.Machine.execColdResetRelease s
  | .clockLoss d => Sys2Proof.Machine.execClockLoss d s
  | .clockRestore d => Sys2Proof.Machine.execClockRestore d s
  | .pllUnlock p => Sys2Proof.Machine.execPllUnlock p s
  | .pllRelock p => Sys2Proof.Machine.execPllRelock p s
  | .thermal => Sys2Proof.Machine.execThermal s
  | .thermalRelease => Sys2Proof.Machine.execThermalRelease s
  | .pfwFall => Sys2Proof.Machine.execPfwFall s
  | .pfwRise => Sys2Proof.Machine.execPfwRise s
  | .tsensReading deg => Sys2Proof.Machine.execTsensReading deg s
  | .ppsOutPulse => Sys2Proof.Machine.execPpsOutPulse s
  | .ppsIn => Sys2Proof.Machine.execPpsIn s
  | .debugAccess acc => Sys2Proof.Machine.execDebugAccess acc s
  | .coreMemoryLoad core fetch addr width => Sys2Proof.Machine.execCoreMemoryLoad core fetch addr width s
  | .coreMemoryStore core addr width data => Sys2Proof.Machine.execCoreMemoryStore core addr width data s
  | .eccBucketLeak n => Sys2Proof.Machine.execEccBucketLeak n s
  | .scrubWord n => Sys2Proof.Machine.execScrubWord n s
  | .scrubPassDone n => Sys2Proof.Machine.execScrubPassDone n s
  | .bucketCfgWrite req n value => Sys2Proof.Machine.execBucketCfgWrite req n value s
  | .registerWrite req page off value => Sys2Proof.Machine.execRegisterWrite req page off value s
  | .expertArm req page enable => Sys2Proof.Machine.execExpertArm req page enable s
  | .expertUnlock req page enable => Sys2Proof.Machine.execExpertUnlock req page enable s
  | .expertClear req page enable => Sys2Proof.Machine.execExpertClear req page enable s
  | .blockEnable req page expert => Sys2Proof.Machine.execBlockEnable req page expert s
  | .blockDisable req page expert => Sys2Proof.Machine.execBlockDisable req page expert s
  | .intClr req page value => Sys2Proof.Machine.execIntClr req page value s
  | .blkOwnerWrite req page value => Sys2Proof.Machine.execBlkOwnerWrite req page value s
  | .intcRouteWrite req source value => Sys2Proof.Machine.execIntcRouteWrite req source value s
  | .intcClaim req target => Sys2Proof.Machine.execIntcClaim req target s
  | .intcComplete req target source => Sys2Proof.Machine.execIntcComplete req target source s
  | .intcSwiSet req value => Sys2Proof.Machine.execIntcSwiSet req value s
  | .rstCmdWarm req delay => Sys2Proof.Machine.execRstCmdWarm req delay s
  | .rstCmdCold req delay => Sys2Proof.Machine.execRstCmdCold req delay s
  | .rstCmdCancel req => Sys2Proof.Machine.execRstCmdCancel req s
  | .resetSaveStart => Sys2Proof.Machine.execResetSaveStart s
  | .resetSaveDone => Sys2Proof.Machine.execResetSaveDone s
  | .sramWipeDone => Sys2Proof.Machine.execSramWipeDone s
  | .lifecycleWipeDone => Sys2Proof.Machine.execLifecycleWipeDone s
  | .eccSelftest n pass => Sys2Proof.Machine.execEccSelftest n pass s
  | .bootVerifyDone selectedOk otherOk => Sys2Proof.Machine.execBootVerifyDone selectedOk otherOk s
  | .dramWipeDone => Sys2Proof.Machine.execDramWipeDone s
  | .nrgTotalsLoad => Sys2Proof.Machine.execNrgTotalsLoad s
  | .configAccept img => Sys2Proof.Machine.execConfigAccept img s
  | .canIntegrationDone ch => Sys2Proof.Machine.execCanIntegrationDone ch s
  | .canModeNormal req ch => Sys2Proof.Machine.execCanModeNormal req ch s
  | .canModeListen req ch => Sys2Proof.Machine.execCanModeListen req ch s
  | .canModeLoopback req ch => Sys2Proof.Machine.execCanModeLoopback req ch s
  | .canModeSleep req ch => Sys2Proof.Machine.execCanModeSleep req ch s
  | .canProtocolError ch kind inData tecInc recInc => Sys2Proof.Machine.execCanProtocolError ch kind inData tecInc recInc s
  | .canRecover req ch => Sys2Proof.Machine.execCanRecover req ch s
  | .canRecoveryDone ch => Sys2Proof.Machine.execCanRecoveryDone ch s
  | .canWake ch cause => Sys2Proof.Machine.execCanWake ch cause s
  | .canRxValid ch frame sof => Sys2Proof.Machine.execCanRxValid ch frame sof s
  | .canRxWmTimeout ch => Sys2Proof.Machine.execCanRxWmTimeout ch s
  | .canTxStart ch => Sys2Proof.Machine.execCanTxStart ch s
  | .canTxSuccess ch loopDelay measured => Sys2Proof.Machine.execCanTxSuccess ch loopDelay measured s
  | .canTxDropLate ch queue => Sys2Proof.Machine.execCanTxDropLate ch queue s
  | .canPop req ch => Sys2Proof.Machine.execCanPop req ch s
  | .canAbortQ1 req ch => Sys2Proof.Machine.execCanAbortQ1 req ch s
  | .canAbortQ2 req ch => Sys2Proof.Machine.execCanAbortQ2 req ch s
  | .canRxRdFwWrite req ch index => Sys2Proof.Machine.execCanRxRdFwWrite req ch index s
  | .canRxCfgWrite req ch fwConsumer => Sys2Proof.Machine.execCanRxCfgWrite req ch fwConsumer s
  | .canTxqWrWrite req ch second index => Sys2Proof.Machine.execCanTxqWrWrite req ch second index s
  | .fnetSyncQueue => Sys2Proof.Machine.execFnetSyncQueue s
  | .fnetTimeQueue => Sys2Proof.Machine.execFnetTimeQueue s
  | .discOpen ch => Sys2Proof.Machine.execDiscOpen ch s
  | .announce ch => Sys2Proof.Machine.execAnnounce ch s
  | .hello ch => Sys2Proof.Machine.execHello ch s
  | .helloTimeout ch addr => Sys2Proof.Machine.execHelloTimeout ch addr s
  | .cfgAck ch => Sys2Proof.Machine.execCfgAck ch s
  | .cfgTimeout ch addr => Sys2Proof.Machine.execCfgTimeout ch addr s
  | .initReport ch => Sys2Proof.Machine.execInitReport ch s
  | .start => Sys2Proof.Machine.execStart s
  | .outSetTimeout ch addr => Sys2Proof.Machine.execOutSetTimeout ch addr s
  | .stationPresent => Sys2Proof.Machine.execStationPresent s
  | .mfpInputFrame ch => Sys2Proof.Machine.execMfpInputFrame ch s
  | .mfpCosFrame ch => Sys2Proof.Machine.execMfpCosFrame ch s
  | .mfpAlarmFrame ch => Sys2Proof.Machine.execMfpAlarmFrame ch s
  | .iosOutputBuild ch frame => Sys2Proof.Machine.execIosOutputBuild ch frame s
  | .iosQ0Enqueue ch => Sys2Proof.Machine.execIosQ0Enqueue ch s
  | .stationMissedCycle => Sys2Proof.Machine.execStationMissedCycle s
  | .startTmo => Sys2Proof.Machine.execStartTmo s
  | .iosEvtRead req => Sys2Proof.Machine.execIosEvtRead req s
  | .fwDataSend ch => Sys2Proof.Machine.execFwDataSend ch s
  | .fwAck ch => Sys2Proof.Machine.execFwAck ch s
  | .fwStat ch => Sys2Proof.Machine.execFwStat ch s
  | .taskRelease t => Sys2Proof.Machine.execTaskRelease t s
  | .taskTrigger => Sys2Proof.Machine.execTaskTrigger s
  | .taskLatchDone t => Sys2Proof.Machine.execTaskLatchDone t s
  | .dispatch req c => Sys2Proof.Machine.execDispatch req c s
  | .commit req c t => Sys2Proof.Machine.execCommit req c t s
  | .taskPublish t => Sys2Proof.Machine.execTaskPublish t s
  | .taskBudgetExpire t => Sys2Proof.Machine.execTaskBudgetExpire t s
  | .swTrig req value => Sys2Proof.Machine.execSwTrig req value s
  | .taskEnable req t => Sys2Proof.Machine.execTaskEnable req t s
  | .taskDisable req t => Sys2Proof.Machine.execTaskDisable req t s
  | .imageKeeperVisit pid => Sys2Proof.Machine.execImageKeeperVisit pid s
  | .ochgArm core sigOk digestOk partnerOk => Sys2Proof.Machine.execOchgArm core sigOk digestOk partnerOk s
  | .ochgCancel core => Sys2Proof.Machine.execOchgCancel core s
  | .ochgTimeout => Sys2Proof.Machine.execOchgTimeout s
  | .quiescentGap => Sys2Proof.Machine.execQuiescentGap s
  | .carryOverDone => Sys2Proof.Machine.execCarryOverDone s
  | .ochgSwitchDone => Sys2Proof.Machine.execOchgSwitchDone s
  | .ochgRecordDone => Sys2Proof.Machine.execOchgRecordDone s
  | .forceStore req entry word => Sys2Proof.Machine.execForceStore req entry word s
  | .loopSample slot => Sys2Proof.Machine.execLoopSample slot s
  | .loopFixedEvaluation lane => Sys2Proof.Machine.execLoopFixedEvaluation lane s
  | .loopFixedOutput slot => Sys2Proof.Machine.execLoopFixedOutput slot s
  | .loopEvaluation lane => Sys2Proof.Machine.execLoopEvaluation lane s
  | .loopDeadlineMiss slot => Sys2Proof.Machine.execLoopDeadlineMiss slot s
  | .loopSlotEnable req slot => Sys2Proof.Machine.execLoopSlotEnable req slot s
  | .loopSlotDisable req slot => Sys2Proof.Machine.execLoopSlotDisable req slot s
  | .loopLaneFault lane selfCheck => Sys2Proof.Machine.execLoopLaneFault lane selfCheck s
  | .statClrSlot req slot => Sys2Proof.Machine.execStatClrSlot req slot s
  | .statClrAll req => Sys2Proof.Machine.execStatClrAll req s
  | .lioAinHold volts levels => Sys2Proof.Machine.execLioAinHold volts levels s
  | .lioAinResult => Sys2Proof.Machine.execLioAinResult s
  | .lioAoutShort n => Sys2Proof.Machine.execLioAoutShort n s
  | .injStart req n => Sys2Proof.Machine.execInjStart req n s
  | .injStop req n => Sys2Proof.Machine.execInjStop req n s
  | .capArm req j => Sys2Proof.Machine.execCapArm req j s
  | .capStop req j => Sys2Proof.Machine.execCapStop req j s
  | .modFault c => Sys2Proof.Machine.execModFault c s
  | .modFaultClear c => Sys2Proof.Machine.execModFaultClear c s
  | .mtrTempUpdate => Sys2Proof.Machine.execMtrTempUpdate s
  | .calLoad req => Sys2Proof.Machine.execCalLoad req s
  | .calCommit req => Sys2Proof.Machine.execCalCommit req s
  | .circEnable req m => Sys2Proof.Machine.execCircEnable req m s
  | .circDisable req m => Sys2Proof.Machine.execCircDisable req m s
  | .zeroCrossing ch inp => Sys2Proof.Machine.execZeroCrossing ch inp s
  | .zcLost ch => Sys2Proof.Machine.execZcLost ch s
  | .timedWindow m => Sys2Proof.Machine.execTimedWindow m s
  | .cycleRecord m cyc => Sys2Proof.Machine.execCycleRecord m cyc s
  | .window m delay => Sys2Proof.Machine.execWindow m delay s
  | .nrgRecordAdd => Sys2Proof.Machine.execNrgRecordAdd s
  | .intervalClose m => Sys2Proof.Machine.execIntervalClose m s
  | .nrgSavePeriodic => Sys2Proof.Machine.execNrgSavePeriodic s
  | .nrgSaveDone writeFailed => Sys2Proof.Machine.execNrgSaveDone writeFailed s
  | .nrgUnitWrite req m unit => Sys2Proof.Machine.execNrgUnitWrite req m unit s
  | .nrgTotRead req => Sys2Proof.Machine.execNrgTotRead req s
  | .nrgTallyRead req => Sys2Proof.Machine.execNrgTallyRead req s
  | .exportCreate req => Sys2Proof.Machine.execExportCreate req s
  | .exportDone => Sys2Proof.Machine.execExportDone s
  | .rtcSecond => Sys2Proof.Machine.execRtcSecond s
  | .rtcSecRead req => Sys2Proof.Machine.execRtcSecRead req s
  | .rtcYearHiRead req => Sys2Proof.Machine.execRtcYearHiRead req s
  | .rtcFreezeTimeout => Sys2Proof.Machine.execRtcFreezeTimeout s
  | .load req => Sys2Proof.Machine.execLoad req s
  | .loadSec req => Sys2Proof.Machine.execLoadSec req s
  | .rtcLoadApply => Sys2Proof.Machine.execRtcLoadApply s
  | .rtcTimeLost => Sys2Proof.Machine.execRtcTimeLost s
  | .cdStart req => Sys2Proof.Machine.execCdStart req s
  | .cdStop req => Sys2Proof.Machine.execCdStop req s
  | .cdExpire => Sys2Proof.Machine.execCdExpire s
  | .ptpSampleCommit req d hi => Sys2Proof.Machine.execPtpSampleCommit req d hi s
  | .domainEnable req d => Sys2Proof.Machine.execDomainEnable req d s
  | .domainDisable req d => Sys2Proof.Machine.execDomainDisable req d s
  | .holdover d => Sys2Proof.Machine.execHoldover d s
  | .ptpSelect req sel => Sys2Proof.Machine.execPtpSelect req sel s
  | .slewDone => Sys2Proof.Machine.execSlewDone s
  | .stepCmd req hi => Sys2Proof.Machine.execStepCmd req hi s
  | .timeStep => Sys2Proof.Machine.execTimeStep s
  | .scheduleFire entry => Sys2Proof.Machine.execScheduleFire entry s
  | .scheduleEntryStore req entry word data => Sys2Proof.Machine.execScheduleEntryStore req entry word data s
  | .ethFrameRx port frame transit => Sys2Proof.Machine.execEthFrameRx port frame transit s
  | .ethLinkChange port up => Sys2Proof.Machine.execEthLinkChange port up s
  | .sfpChg cage present los txFault => Sys2Proof.Machine.execSfpChg cage present los txFault s
  | .fdbAgeOut => Sys2Proof.Machine.execFdbAgeOut s
  | .fdbFlushAll req => Sys2Proof.Machine.execFdbFlushAll req s
  | .fdbFlushPorts req ports => Sys2Proof.Machine.execFdbFlushPorts req ports s
  | .mac4TxWrWrite req index => Sys2Proof.Machine.execMac4TxWrWrite req index s
  | .mac4TxDescriptor => Sys2Proof.Machine.execMac4TxDescriptor s
  | .mac4RxRdWrite req index => Sys2Proof.Machine.execMac4RxRdWrite req index s
  | .ethLaunch port jitter => Sys2Proof.Machine.execEthLaunch port jitter s
  | .ethDropLate port => Sys2Proof.Machine.execEthDropLate port s
  | .commandExchangeStore req slot word => Sys2Proof.Machine.execCommandExchangeStore req slot word s
  | .accessRequest r => Sys2Proof.Machine.execAccessRequest r s
  | .historianSample pid => Sys2Proof.Machine.execHistorianSample pid s
  | .hs core src len out reply live => Sys2Proof.Machine.execHs core src len out reply live s
  | .enter core handle => Sys2Proof.Machine.execEnter core handle s
  | .leave core => Sys2Proof.Machine.execLeave core s
  | .cmptSwitch core value => Sys2Proof.Machine.execCmptSwitch core value s
  | .openRecord core src len dst out => Sys2Proof.Machine.execOpenRecord core src len dst out s
  | .seal core src len dst out => Sys2Proof.Machine.execSeal core src len dst out s
  | .close core handle => Sys2Proof.Machine.execClose core handle s
  | .sessionIdleTimeout handle => Sys2Proof.Machine.execSessionIdleTimeout handle s
  | .scratchWipeDone n => Sys2Proof.Machine.execScratchWipeDone n s
  | .identityMessage m => Sys2Proof.Machine.execIdentityMessage m s
  | .roleDecide => Sys2Proof.Machine.execRoleDecide s
  | .coldTake => Sys2Proof.Machine.execColdTake s
  | .laneDown lane lockLost badFrames => Sys2Proof.Machine.execLaneDown lane lockLost badFrames s
  | .laneUp lane => Sys2Proof.Machine.execLaneUp lane s
  | .heartbeatSend => Sys2Proof.Machine.execHeartbeatSend s
  | .heartbeatRx mt mono lastRx timeInvalid => Sys2Proof.Machine.execHeartbeatRx mt mono lastRx timeInvalid s
  | .heartbeatMiss => Sys2Proof.Machine.execHeartbeatMiss s
  | .down => Sys2Proof.Machine.execDown s
  | .linkLossDecide => Sys2Proof.Machine.execLinkLossDecide s
  | .bgUnit => Sys2Proof.Machine.execBgUnit s
  | .copyUnitApply unit arrived => Sys2Proof.Machine.execCopyUnitApply unit arrived s
  | .synced => Sys2Proof.Machine.execSynced s
  | .swap req => Sys2Proof.Machine.execSwap req s
  | .cancel req => Sys2Proof.Machine.execCancel req s
  | .relinquish req => Sys2Proof.Machine.execRelinquish req s
  | .swapDue => Sys2Proof.Machine.execSwapDue s
  | .swapRefused => Sys2Proof.Machine.execSwapRefused s
  | .promote => Sys2Proof.Machine.execPromote s
  | .alive req => Sys2Proof.Machine.execAlive req s
  | .aliveTimeout => Sys2Proof.Machine.execAliveTimeout s
  | .ckptSave => Sys2Proof.Machine.execCkptSave s
  | .ckptDone => Sys2Proof.Machine.execCkptDone s
  | .cairnRecordSubmit r => Sys2Proof.Machine.execCairnRecordSubmit r s
  | .cairnRecordStore => Sys2Proof.Machine.execCairnRecordStore s
  | .cairnLoss => Sys2Proof.Machine.execCairnLoss s
  | .cairnIndexReady => Sys2Proof.Machine.execCairnIndexReady s
  | .clear req => Sys2Proof.Machine.execClear req s
  | .testEnter req => Sys2Proof.Machine.execTestEnter req s
  | .testLeave req => Sys2Proof.Machine.execTestLeave req s
  | .first k => Sys2Proof.Machine.execFirst k s
  | .next k => Sys2Proof.Machine.execNext k s
  | .last k => Sys2Proof.Machine.execLast k s
  | .cairnSearchDone k => Sys2Proof.Machine.execCairnSearchDone k s
  | .submit k => Sys2Proof.Machine.execSubmit k s
  | .pointSummary => Sys2Proof.Machine.execPointSummary s
  | .updBegin core len => Sys2Proof.Machine.execUpdBegin core len s
  | .updSubmit req slot => Sys2Proof.Machine.execUpdSubmit req slot s
  | .updBlockDone slot link writeOk => Sys2Proof.Machine.execUpdBlockDone slot link writeOk s
  | .updVerify core => Sys2Proof.Machine.execUpdVerify core s
  | .updVerifyDone sigOk out => Sys2Proof.Machine.execUpdVerifyDone sigOk out s
  | .updPartnerReport build reason => Sys2Proof.Machine.execUpdPartnerReport build reason s
  | .updReady => Sys2Proof.Machine.execUpdReady s
  | .updActivate core => Sys2Proof.Machine.execUpdActivate core s
  | .updGapTimeout => Sys2Proof.Machine.execUpdGapTimeout s
  | .updAnchorReentry => Sys2Proof.Machine.execUpdAnchorReentry s
  | .updServiceLoadDone => Sys2Proof.Machine.execUpdServiceLoadDone s
  | .updBootRecordWritten => Sys2Proof.Machine.execUpdBootRecordWritten s
  | .holdEnd => Sys2Proof.Machine.execHoldEnd s
  | .updAbort core => Sys2Proof.Machine.execUpdAbort core s
  | .updConfirm core => Sys2Proof.Machine.execUpdConfirm core s
  | .updAutoConfirm => Sys2Proof.Machine.execUpdAutoConfirm s
  | .challenge core => Sys2Proof.Machine.execChallenge core s
  | .challengeExpire => Sys2Proof.Machine.execChallengeExpire s
  | .lcCmd core src len sigOk => Sys2Proof.Machine.execLcCmd core src len sigOk s
  | .deviceKey core dst => Sys2Proof.Machine.execDeviceKey core dst s
  | .sleep core => Sys2Proof.Machine.execSleep core s
  | .utcStore core offset => Sys2Proof.Machine.execUtcStore core offset s
  | .recoveryConsoleFrame bytes sigOk digestsOk => Sys2Proof.Machine.execRecoveryConsoleFrame bytes sigOk digestsOk s
  | .symbolLock lane => Sys2Proof.Machine.execSymbolLock lane s
  | .identityMessageSend => Sys2Proof.Machine.execIdentityMessageSend s
  | .hsrUniq => Sys2Proof.Machine.execHsrUniq s
  | .partnerImageLoaded img program => Sys2Proof.Machine.execPartnerImageLoaded img program s
  | .alwaysOnSupplySwitch => Sys2Proof.Machine.execAlwaysOnSupplySwitch s
  | .aoutShortEnd n => Sys2Proof.Machine.execAoutShortEnd n s

end Sys2Proof.Machine
end

