-- ==== Sys2Proof/Machine/Idle.lean ====
section
/-! DEFINITION. What passes while no command waits. -/
namespace Sys2Proof.Machine

/-- One CK_FAB cycle: module time, monotonic time and the offsets of the PTP domains move by one increment (R35, R243, R415). In cold reset the clocks of the
module stand (R71). The ports of the switch send what waits for them (R438), and the anchor writes the record of a second's refusals that it did not record singly (R466). DESIGN CHOICE, log entry 1. -/
def State.idle (s : State) : State := if s.live then (((s.tick 1).denySum 0).denySum 1).netRun else s

end Sys2Proof.Machine
end

