-- ==== Sys2Proof/WellFormed.lean ====
section
/-! DEFINITION. Which operand values a command can come with: what a bus, a link or a requester can send by the formats of the spec. -/
namespace Sys2Proof

/-- Data bytes that a DLC stands for (R153): above 8, a CAN FD frame carries 12 to 64. -/
def dlcBytes (fdf : Bool) (dlc : Nat) : Nat :=
  if dlc ≤ 8 then dlc
  else if !fdf then 8
  else [12, 16, 20, 24, 32, 48, 64].getD (dlc - 9) 64

/-- A frame of a field bus has the form of R153: a base identifier has 11 bits, a remote frame is classical and has no data, only CAN FD frames switch the
rate or carry ESI, and the data are as long as DLC says. -/
def CanFrame.wellFormed (f : CanFrame) : Bool :=
  decide (f.dlc ≤ 15) && (f.ide || decide (f.id.toNat < 2048)) && !(f.rtr && f.fdf) && (f.fdf || (!f.brs && !f.esi))
    && f.data.length == (if f.rtr then 0 else dlcBytes f.fdf f.dlc)

/-- A frame of an Ethernet port holds at most 1,500 bytes behind its type field (R435). -/
def EthFrame.wellFormed (f : EthFrame) : Bool := decide (f.data.length ≤ 1500)

/-- A record's payload has 0 to 240 bytes (R500). -/
def CairnRec.wellFormed (r : CairnRec) : Bool := decide (r.payload.length ≤ 240)

/-- Station addresses are 1 to 64 (R177). -/
def stationAddr (a : Nat) : Bool := decide (1 ≤ a) && decide (a ≤ 64)

/-- An access of the debug port lies in 64 bits of address. -/
def Access.wellFormed : Access → Bool
  | .load a _ => decide (a < 2 ^ 64)
  | .store a _ _ => decide (a < 2 ^ 64)

/-- A credential has 1 to 32 bytes (R452). -/
def AccessRequest.wellFormed (r : AccessRequest) : Bool := decide (1 ≤ r.data.length) && decide (r.data.length ≤ 32)

def CanWakeCause.wellFormed : CanWakeCause → Bool
  | .dominant _ => true
  | .frame _ _ dlc _ => decide (dlc ≤ 15)

/-- Bits that `n` calibrated samples take: 7 filter outputs more than samples, 127 sinc outputs each, 10 apart, of 766 bits each, 256 apart (R350, R351). -/
def bitsFor (n : Nat) : Nat := if n = 0 then 0 else 256 * (10 * (n + 6) + 126) + 766

/-- The bits of every sample are there, and the samples leave one after the other. -/
def ChanIn.wellFormed (c : ChanIn) : Bool := decide (bitsFor c.leave.length ≤ c.bits.length) && decide (c.leave.Pairwise (· < ·))

/-- The circuit's phases, at most three, are sampled. -/
def CycleIn.wellFormed (c : CycleIn) : Bool := decide (c.chans.length ≤ 3) && c.chans.all (fun e => e.1.wellFormed && e.2.wellFormed)

/-- A command whose operands the outside can send. `exec` gives a meaning to the others as well. -/
def Instr.wellFormed : Instr → Bool
  | .debugAccess acc => acc.wellFormed
  | .coreMemoryLoad _ _ addr _ => decide (addr < 2 ^ 64)
  | .coreMemoryStore _ addr _ _ => decide (addr < 2 ^ 64)
  | .canWake _ cause => cause.wellFormed
  | .canRxValid _ frame _ => frame.wellFormed
  | .helloTimeout _ addr => stationAddr addr
  | .cfgTimeout _ addr => stationAddr addr
  | .outSetTimeout _ addr => stationAddr addr
  | .imageKeeperVisit pid => decide (pid < 12288)
  | .cairnRecordSubmit r => r.wellFormed
  | .lioAinHold volts _ => volts.length == 8
  | .cycleRecord _ cyc => cyc.wellFormed
  | .zeroCrossing _ inp => inp.wellFormed
  | .window _ delay => decide (delay ≤ 2000000)
  | .ethLaunch _ jitter => decide (jitter ≤ 100)
  | .ethFrameRx _ frame transit => frame.wellFormed && decide (transit ≤ 4000)
  | .accessRequest r => r.wellFormed
  | _ => true

end Sys2Proof
end

