-- ==== Sys2Proof/Safety.lean ====
section
/-! DEFINITION. The terms that the statements use: where commands are served, what a command's next state keeps, and the form of the tables. -/
namespace Sys2Proof.Machine

/-- The module is neither held in cold reset nor asleep. -/
def State.awake (s : State) : Bool := s.live && !s.sup.asleep

/-- R93 lets the requester reach the register at key `k`. -/
def State.opens (s : State) (req : Req) (k : Nat) : Bool := s.pageGrant req (k / 0x1000) (k % 0x1000)

/-- The command answers a next state, and that state satisfies `P`. -/
def runs (c : Instr) (s : State) (P : State → Prop) : Prop := ∃ t, exec c s = .next t ∧ P t

/-- Every register but those listed reads as before. -/
def regsKept (s t : State) (ks : List Nat) : Prop := ∀ k, k ∉ ks → t.rd k = s.rd k

/-- Every register outside the pages listed reads as before. -/
def pagesKept (s t : State) (ps : List Nat) : Prop := ∀ k, k / 0x1000 ∉ ps → t.rd k = s.rd k

/-- Every byte of memory but those at the addresses that satisfy `p` reads as before. -/
def memKept (s t : State) (p : Nat → Bool) : Prop := ∀ a, p a = false → t.byte a = s.byte a

/-- Only registers change, and of them only those listed. -/
def onlyRegs (s t : State) (ks : List Nat) : Prop := t = { s with regs := t.regs } ∧ regsKept s t ks

/-- Only registers change, and of them only those listed; the requester's access completes with `v`. -/
def onlyAnswer (s t : State) (v : Word64) (ks : List Nat) : Prop := t = { s with regs := t.regs, resp := .data v } ∧ regsKept s t ks

/-- `s` at the instant of `t`: only the clocks and their servo have gone on. -/
def State.atTimeOf (s t : State) : State := { s with mt := t.mt, mono := t.mono, cyc := t.cyc, rate := t.rate, ptp := t.ptp }

/-- The address lies from `lo` up to and not including `hi`. -/
def inRange (lo hi a : Nat) : Bool := decide (lo ≤ a) && decide (a < hi)

/-- What every cold reset leaves (R114): MRAM, flash, OTP and the records of the log as they were, all other memory 0, and every register but those
listed at its reset value, save for the bits that a cold reset keeps. -/
def coldKept (s t : State) (ks : List Nat) : Prop :=
  (∀ a, t.byte a = if inMram a then s.byte a else 0) ∧ t.flash = s.flash ∧ t.trust.otp = s.trust.otp ∧ t.cairn.slots = s.cairn.slots
    ∧ t.pending = s.pending ∧ ∀ k, k ∉ ks → t.rd k = (regReset k &&& ~~~regColdKeep k) ||| (s.rd k &&& regColdKeep k)

/-- A count that saturates at the greatest value of its register. -/
def satCount (v : Word) (n : Nat) : Nat := min (v.toNat + n) 0xFFFFFFFF

/-- The word that the scrubber of instance `n` reads next (R137). -/
def State.scrubAddr (s : State) (n : Fin 8) : Nat := (eccRegion n).1 + 8 * ((s.eccx.get n).scrubPos % (eccRegion n).2)

/-- No ECC test is armed for the instance that holds address `a` (R142). -/
def State.untested (s : State) (a : Nat) : Bool := (eccInst a).all (fun n => !s.fset (F.ECC_TEST_CTL_ARM n))

/-- The registers in which SYS captures and counts a fault (R102). -/
def sysCapture : List Nat := [R.BLK_FAULT Pg.SYS, R.SYS_FAULT_COUNT, R.SYS_FAULT_ADDR_LO, R.SYS_FAULT_ADDR_HI, R.INT_RAW Pg.SYS]

/-- The registers that the submission of a record may change (R504). -/
def recordRegs : List Nat := [R.CAIRN_DROP_BUSY, R.INT_RAW Pg.CAIRN]

/-- What the scan engine and FNET may change: the channels, FNET, IOS, the image with its pins, triggers, the tasks that they release and records, the staging
of stations, and the time that passes until the event; no memory outside the rings and transmit queues. -/
def onlyScan (s t : State) : Prop :=
  t = { s with regs := t.regs, mem := t.mem, ecc := t.ecc, mt := t.mt, mono := t.mono, cyc := t.cyc, rate := t.rate, ptp := t.ptp,
               points := t.points, prior := t.prior, priorAt := t.priorAt, trigs := t.trigs, tasks := t.tasks, ochg := t.ochg, cairn := t.cairn,
               can := t.can, pins := t.pins, mfp := t.mfp, upd := t.upd, draws := t.draws }
    ∧ memKept s t (inRange 0x10B00000 0x10C60000)
    ∧ pagesKept s t [Pg.CAN 0, Pg.CAN 1, Pg.CAN 2, Pg.CAN 3, Pg.ECC 2, Pg.ECC 4, Pg.FNET, Pg.IOS, Pg.LIO, Pg.TASK, Pg.CAIRN]

/-- The frame that the scan engine takes next from the ring of channel `ch`, past the frames that have no command of their own; and the state with those passed. -/
def State.headFrame (s : State) (ch : Nat) : Option Heard := (s.ringSkip ch (s.unreadIos ch)).1
def State.headTaken (s : State) (ch : Nat) : State := (s.ringSkip ch (s.unreadIos ch)).2.ringNext ch

/-- The key in the station table of the station that sent a ring entry on channel `ch`. -/
def heardKey (ch : Fin 4) (h : Heard) : Nat := stnKey ch h.addr

/-! ### Canonical forms -/

/-- Memory in canonical form: addresses strictly rising, and no byte listed that an unlisted address would read as. -/
def Memory.wf (m : List Host.Cell) : Bool := tabWf (fun _ => (0 : Byte)) m

/-- The register file in canonical form. -/
def regsWf (r : Tab Word) : Bool := tabWf regReset r

/-! ### Fuses -/

/-- A fuse that is burned stays burned, and the counts of burned fuses do not fall (R124, R524, R549). -/
def fusesOnlyBurn (o p : Otp) : Prop :=
  (o.prov = true → p.prov = true) ∧ (o.comm = true → p.comm = true) ∧ (o.decom = true → p.decom = true)
    ∧ o.service ≤ p.service ∧ o.counter ≤ p.counter ∧ ∀ k, o.revoked.toList.getD k false = true → p.revoked.toList.getD k false = true

end Sys2Proof.Machine
end

