-- ==== Sys2Proof/Certificates/Slice0/Obligations.lean ====
section
/-! DEFINITION. The statements about the block, for the provers. -/

open Sys2Proof Sys2Proof.Machine

/-- A cold reset of each cause is entered and keeps what R114 keeps (R113, R114, R67, R72, R76, R82, R42, R91). -/
def Obligations.ColdResetsEnter : Prop :=
  (∀ (s : State),
      s.live = true → s.sup.vin ≠ .low → runs (.underV) s (fun t => t.live = false ∧ t.rd R.RST_CAUSE = 4 ∧ t.sup.vin = .low
       ∧ t.sup.holds.vinLow = true ∧ t.fget F.CLK_LAST_RESET_VALID = 0 ∧ (t.rd R.RST_COLD_COUNT).toNat = satCount (s.rd R.RST_COLD_COUNT) 1
       ∧ coldKept s t [R.RST_CAUSE, R.RST_COLD_COUNT, R.RST_LC_STAT, R.CLK_LAST_RESET])) ∧
  (∀ (s : State),
      s.live = true → s.sup.vin = .inRange → runs (.overV) s (fun t => t.live = false ∧ t.rd R.RST_CAUSE = 8 ∧ t.sup.vin = .high
       ∧ t.sup.holds.overV = true ∧ t.pins.sysFaultN = false ∧ t.fget F.CLK_LAST_RESET_VALID = 0
       ∧ (t.rd R.RST_COLD_COUNT).toNat = satCount (s.rd R.RST_COLD_COUNT) 1
       ∧ coldKept s t [R.RST_CAUSE, R.RST_COLD_COUNT, R.RST_LC_STAT, R.CLK_LAST_RESET])) ∧
  (∀ (s : State),
      s.live = true → s.pins.resetAsserted = false → runs (.resetPin) s (fun t => t.live = false ∧ t.rd R.RST_CAUSE = 2 ∧ t.pins.resetAsserted = true
       ∧ t.sup.holds.resetPin = true ∧ t.fget F.CLK_LAST_RESET_VALID = 0 ∧ (t.rd R.RST_COLD_COUNT).toNat = satCount (s.rd R.RST_COLD_COUNT) 1
       ∧ coldKept s t [R.RST_CAUSE, R.RST_COLD_COUNT, R.RST_LC_STAT, R.CLK_LAST_RESET])) ∧
  (∀ (s : State),
      s.live = true → s.sup.holds.thermal = false → runs (.thermal) s (fun t => t.live = false ∧ t.rd R.RST_CAUSE = 32 ∧ t.sup.holds.thermal = true
       ∧ t.pins.sysFaultN = false ∧ t.fget F.CLK_LAST_RESET_VALID = 0 ∧ (t.rd R.RST_COLD_COUNT).toNat = satCount (s.rd R.RST_COLD_COUNT) 1
       ∧ coldKept s t [R.RST_CAUSE, R.RST_COLD_COUNT, R.RST_LC_STAT, R.CLK_LAST_RESET])) ∧
  (∀ (d : Fin 11) (s : State),
      s.live = true → d.val < 4 → s.clkFails d = false → s.monitored d = true → runs (.clockLoss d) s (fun t => t.live = false ∧ t.rd R.RST_CAUSE = 16
       ∧ t.fget F.CLK_LAST_RESET_VALID = 1 ∧ t.fget F.CLK_LAST_RESET_CLOCK = d ∧ t.clkFails d = true ∧ t.pins.sysFaultN = false
       ∧ (t.rd R.RST_COLD_COUNT).toNat = satCount (s.rd R.RST_COLD_COUNT) 1
       ∧ coldKept s t [R.RST_CAUSE, R.RST_COLD_COUNT, R.RST_LC_STAT, R.CLK_LAST_RESET])) ∧
  (∀ (p : PendReset) (s : State),
      s.awake = true → s.boot.pend = some p → p.saving = true → p.warm = false → runs (.resetSaveDone) s (fun t => t.live = false
       ∧ t.rd R.RST_CAUSE = 64 ∧ t.fget F.CLK_LAST_RESET_VALID = 0 ∧ (∀ a, inMram a = false → t.byte a = 0) ∧ t.flash = s.flash
       ∧ t.trust.otp = s.trust.otp ∧ t.pending = s.pending ∧ (t.rd R.RST_COLD_COUNT).toNat = satCount (s.rd R.RST_COLD_COUNT) 1))

/-- A second cause while the module is held is named and not counted (log entry 35) (R67, R72, R564). -/
def Obligations.ColdResetHeldOnce : Prop :=
  (∀ (s : State),
      s.live = false → s.sup.vin = .inRange → runs (.overV) s (fun t => t = { s with regs := t.regs, sup := t.sup, pins := t.pins }
       ∧ t.rd R.RST_CAUSE = 8 ∧ t.sup.holds.overV = true ∧ t.live = false ∧ regsKept s t [R.RST_CAUSE, R.CLK_LAST_RESET]
       ∧ t.fget F.CLK_LAST_RESET_VALID = 0)) ∧
  (∀ (s : State),
      s.live = false → s.sup.vin ≠ .low → runs (.underV) s (fun t => t = { s with regs := t.regs, sup := t.sup, pins := t.pins }
       ∧ t.rd R.RST_CAUSE = 4 ∧ t.sup.holds.vinLow = true ∧ t.live = false ∧ regsKept s t [R.RST_CAUSE, R.CLK_LAST_RESET]
       ∧ t.fget F.CLK_LAST_RESET_VALID = 0)) ∧
  (∀ (s : State),
      s.live = false → s.pins.resetAsserted = false → runs (.resetPin) s (fun t => t = { s with regs := t.regs, sup := t.sup, pins := t.pins }
       ∧ t.rd R.RST_CAUSE = 2 ∧ t.sup.holds.resetPin = true ∧ t.live = false ∧ regsKept s t [R.RST_CAUSE, R.CLK_LAST_RESET]
       ∧ t.fget F.CLK_LAST_RESET_VALID = 0)) ∧
  (∀ (s : State),
      s.live = false → s.sup.holds.thermal = false → runs (.thermal) s (fun t => t = { s with regs := t.regs, sup := t.sup, pins := t.pins }
       ∧ t.rd R.RST_CAUSE = 32 ∧ t.sup.holds.thermal = true ∧ t.live = false ∧ regsKept s t [R.RST_CAUSE, R.CLK_LAST_RESET]
       ∧ t.fget F.CLK_LAST_RESET_VALID = 0))

/-- Power-on, the end of each holding cause, and the release of a cold reset (R38, R42, R54, R69, R71, R113, R564). -/
def Obligations.PowerOnAndRelease : Prop :=
  (∀ (s : State),
      s.live = false → s.sup.vin = .low → runs (.vinRise) s (fun t => t = { s with regs := t.regs, sup := t.sup, pins := t.pins }
       ∧ t.rd R.RST_CAUSE = 1 ∧ t.rd R.RST_COLD_COUNT = 0 ∧ t.rd R.RST_WARM_COUNT = 0 ∧ t.sup.vin = .inRange ∧ t.sup.aonFromVin = true
       ∧ t.sup.holds.vinLow = false ∧ t.live = false ∧ regsKept s t [R.RST_CAUSE, R.RST_COLD_COUNT, R.RST_WARM_COUNT, R.CLK_LAST_RESET])) ∧
  (∀ (s : State),
      s.sup.vin = .high →
      runs (.overVRelease) s (fun t => t = { s with sup := { s.sup with vin := .inRange, holds := { s.sup.holds with overV := false } }, pins := { s.pins with sysFaultN := !(s.clockHold || s.sup.holds.thermal) } })) ∧
  (∀ (s : State),
      runs (.resetPinRelease) s (fun t => t = { s with sup := { s.sup with holds := { s.sup.holds with resetPin := false } }, pins := { s.pins with resetAsserted := false, sysFaultN := !(s.clockHold || s.sup.holds.thermal || s.sup.holds.overV) } })) ∧
  (∀ (s : State),
      runs (.thermalRelease) s (fun t => t = { s with sup := { s.sup with holds := { s.sup.holds with thermal := false } }, pins := { s.pins with sysFaultN := !(s.clockHold || s.sup.holds.overV) } })) ∧
  (∀ (d : Fin 11) (s : State),
      s.live = false → s.clkFails d = true → d.val ≠ 10 → runs (.clockRestore d) s (fun t => t.clkFails d = false
       ∧ t = { s with sup := { s.sup with lostClk := s.sup.lostClk.setIfInBounds d false }, pins := { s.pins with sysFaultN := !(t.clockHold || s.sup.holds.thermal || s.sup.holds.overV) } })) ∧
  (∀ (s : State),
      s.releasable = true → s.sup.lostClk = Vector.replicate 11 false → runs (.coldResetRelease) s (fun t => t.live = true
       ∧ t = { s with regs := t.regs, sup := { s.sup with inReset := false }, mt := t.mt }
       ∧ regsKept s t [R.PTP_UTC, R.BLK_STAT Pg.SYS, R.BLK_STAT Pg.PTP, R.RST_BOOT_STAT]
       ∧ t.fget F.RST_BOOT_STAT_STAGE = max 1 (s.fget F.RST_BOOT_STAT_STAGE) ∧ (s.fset F.RTC_STAT_VALID = false → t.mt = 0 ∧ t.timeInvalid = true)
       ∧ (s.fset F.RTC_STAT_VALID = true → t.now = (t.taiOf t.calendar + t.rtcSub * 1000000000 / 32768) % 2 ^ 64 ∧ t.timeInvalid = false))) ∧
  (∀ (s : State),
      s.releasable = true → runs (.coldResetRelease) s (fun t => t.live = true ∧ t.fget F.RST_BOOT_STAT_STAGE = max 1 (s.fget F.RST_BOOT_STAT_STAGE)
       ∧ t.mem = s.mem ∧ t.flash = s.flash ∧ t.trust = s.trust)) ∧
  (∀ (d : Nat) (l : List Nat) (s : State),
      s.causesClear = true → s.step3Fails = d :: l → runs (.coldResetRelease) s (fun t => t.live = false ∧ t.rd R.RST_CAUSE = 16
       ∧ t.fget F.CLK_LAST_RESET_VALID = 1 ∧ t.fget F.CLK_LAST_RESET_CLOCK = d ∧ t.pins.sysFaultN = false
       ∧ t = { s with regs := t.regs, pins := { s.pins with sysFaultN := false } } ∧ regsKept s t [R.RST_CAUSE, R.CLK_LAST_RESET])) ∧
  (∀ (s : State),
      s.sup.vin = .low → runs (.alwaysOnSupplySwitch) s (fun t => t = { s with sup := { s.sup with aonFromVin := !s.sup.aonFromVin } }))

/-- Clock monitor, PLL locks, PFW_n and the temperature sensor (R41, R42, R75, R76, R81, R86). -/
def Obligations.ClocksAndSensors : Prop :=
  (∀ (d : Fin 11) (s : State),
      s.live = true → 4 ≤ d.val → s.clkFails d = false → s.monitored d = true → runs (.clockLoss d) s (fun t => t.clkFails d = true
       ∧ t.bit R.CLK_LOST d = true ∧ t.bit R.CLK_LOST_EVER d = true ∧ t.live = true ∧ (d.val ≠ 6 → d.val ≠ 7 → t.mem = s.mem))) ∧
  (∀ (d : Fin 11) (s : State),
      s.live = true → (d.val = 4 ∨ d.val = 9) → s.clkFails d = false → s.monitored d = true →
      runs (.clockLoss d) s (fun t => t = { s with regs := t.regs, cairn := t.cairn, sup := { s.sup with lostClk := s.sup.lostClk.setIfInBounds d true } }
       ∧ t.fget F.CLK_STAT_ALL_OK = 0 ∧ (s.enabled Pg.CLK = true → t.bit (R.INT_RAW Pg.CLK) Ev.CLK_LOSS = true)
       ∧ regsKept s t [R.CLK_LOST, R.CLK_LOST_EVER, R.BLK_STAT Pg.CLK, R.INT_RAW Pg.CLK, R.CAIRN_DROP_BUSY, R.INT_RAW Pg.CAIRN])) ∧
  (∀ (d : Fin 11) (s : State),
      s.live = true → 4 ≤ d.val → s.clkFails d = true → s.bit R.CLK_LOST d = true → runs (.clockRestore d) s (fun t => t.clkFails d = false
       ∧ t.bit R.CLK_LOST d = false ∧ t.rd R.CLK_LOST_EVER = s.rd R.CLK_LOST_EVER ∧ t.live = true ∧ t.mem = s.mem)) ∧
  (∀ (p : Fin 7) (s : State),
      s.live = true →
      runs (.pllUnlock p) s (fun t => t = { s with regs := t.regs, sup := { s.sup with pllOpen := s.sup.pllOpen.setIfInBounds p true } }
       ∧ regsKept s t [R.CLK_PLL_LOCK, R.INT_RAW Pg.CLK] ∧ t.bit R.CLK_PLL_LOCK p = false
       ∧ (3 ≤ p.val → s.enabled Pg.CLK = true → t.bit (R.INT_RAW Pg.CLK) Ev.CLK_PLL_UNLOCK = true)
       ∧ (p.val < 3 → t.rd (R.INT_RAW Pg.CLK) = s.rd (R.INT_RAW Pg.CLK)))) ∧
  (∀ (p : Fin 7) (s : State),
      s.live = true →
      runs (.pllRelock p) s (fun t => t = { s with regs := t.regs, sup := { s.sup with pllOpen := s.sup.pllOpen.setIfInBounds p false } }
       ∧ regsKept s t [R.CLK_PLL_LOCK] ∧ t.bit R.CLK_PLL_LOCK p = true)) ∧
  (∀ (s : State),
      s.live = true → s.pins.pfwAsserted = false → (s.started = false ∨ s.sup.asleep = true) →
      runs (.pfwFall) s (fun t => t = { s with regs := t.regs, hiWords := t.hiWords, pins := { s.pins with pfwAsserted := true } }
       ∧ t.fget F.PFW_STAT_ASSERTED = 1 ∧ (t.rd R.PFW_COUNT).toNat = satCount (s.rd R.PFW_COUNT) 1 ∧ t.get64 R.PFW_TS_LO = s.now
       ∧ regsKept s t [R.PFW_STAT, R.PFW_COUNT, R.PFW_TS_LO, R.INT_RAW Pg.PFW])) ∧
  (∀ (s : State),
      s.live = true → s.pins.pfwAsserted = false → s.started = true → s.sup.asleep = false → runs (.pfwFall) s (fun t => t.live = true
       ∧ t.pins.pfwAsserted = true ∧ t.fget F.PFW_STAT_ASSERTED = 1 ∧ (t.rd R.PFW_COUNT).toNat = satCount (s.rd R.PFW_COUNT) 1
       ∧ t.get64 R.PFW_TS_LO = s.now)) ∧
  (∀ (s : State),
      s.live = true → s.pins.pfwAsserted = true →
      runs (.pfwRise) s (fun t => t = { s with regs := t.regs, pins := { s.pins with pfwAsserted := false } } ∧ t.fget F.PFW_STAT_ASSERTED = 0
       ∧ (s.enabled Pg.PFW = true → t.bit (R.INT_RAW Pg.PFW) Ev.PFW_RISE = true) ∧ regsKept s t [R.PFW_STAT, R.INT_RAW Pg.PFW])) ∧
  (∀ (deg : BitVec 16) (s : State),
      s.awake = true → runs (.tsensReading deg) s (fun t => t = { s with regs := t.regs, sup := { s.sup with tempArmed := t.sup.tempArmed } }
       ∧ t.fget F.TSENS_TEMP_DEG = deg.toNat ∧ t.fget F.TSENS_TEMP_VALID = 1
       ∧ sgn16 (t.fget F.TSENS_MAX_DEG) = max (sgn16 (s.fget F.TSENS_MAX_DEG)) deg.toInt
       ∧ (sgn16 (s.fget F.TSENS_WARN_DEG) ≤ deg.toInt → s.sup.tempArmed = true → s.enabled Pg.TSENS = true → t.bit (R.INT_RAW Pg.TSENS) Ev.TSENS_WARN = true ∧ t.sup.tempArmed = false)
       ∧ regsKept s t [R.TSENS_TEMP, R.TSENS_MAX, R.INT_RAW Pg.TSENS]))

/-- Reset requests: placed, replaced, cancelled, saved for and taken (R113, R114, R115, R122, R123). -/
def Obligations.ResetRequests : Prop :=
  (∀ (req : Req) (delay : Byte) (s : State),
      s.awake = true → s.opens req R.RST_CMD = true → s.rstLate = false →
      runs (.rstCmdWarm req delay) s (fun t => t = { s with regs := t.regs, resp := .data 0, boot := { s.boot with pend := some ⟨true, false, s.cyc + cycMs delay.toNat, false⟩ } }
       ∧ (s.enabled Pg.RST = true → t.bit (R.INT_RAW Pg.RST) Ev.RST_NOTICE = true) ∧ regsKept s t [R.INT_RAW Pg.RST])) ∧
  (∀ (req : Req) (delay : Byte) (s : State),
      s.awake = true → s.opens req R.RST_CMD = true → s.rstLate = false →
      runs (.rstCmdCold req delay) s (fun t => t = { s with regs := t.regs, resp := .data 0, boot := { s.boot with pend := some ⟨false, false, s.cyc + cycMs delay.toNat, false⟩ } }
       ∧ (s.enabled Pg.RST = true → t.bit (R.INT_RAW Pg.RST) Ev.RST_NOTICE = true) ∧ regsKept s t [R.INT_RAW Pg.RST])) ∧
  (∀ (req : Req) (s : State),
      s.awake = true → s.opens req R.RST_CMD = true → s.rstLate = false →
      runs (.rstCmdCancel req) s (fun t => t = { s with resp := .data 0, boot := { s.boot with pend := none } })) ∧
  (∀ (req : Req) (delay : Byte) (s : State),
      s.awake = true → s.opens req R.RST_CMD = true → s.rstLate = true →
      runs (.rstCmdWarm req delay) s (fun t => onlyAnswer s t 0 [R.BLK_FAULT Pg.RST] ∧ t.fget F.RST_FAULT_LATE_CMD = 1)) ∧
  (∀ (p : PendReset) (s : State),
      s.awake = true → s.boot.pend = some p → p.saving = false →
      runs (.resetSaveStart) s (fun t => t.boot = { s.boot with pend := some { p with saving := true } } ∧ p.saveAt ≤ t.cyc ∧ t.live = true
       ∧ t.flash = s.flash ∧ t.trust.otp = s.trust.otp)) ∧
  (∀ (p : PendReset) (s : State),
      s.awake = true → s.boot.pend = some p → p.saving = true → p.warm = true → runs (.resetSaveDone) s (fun t => t.live = true
       ∧ (t.rd R.RST_CAUSE = (if p.lifecycle then 512 else 128)) ∧ t.mt = s.mt ∧ t.mono = s.mono ∧ (∀ a, inMram a = false → t.byte a = 0)
       ∧ t.flash = s.flash ∧ t.trust.otp = s.trust.otp ∧ t.pending = s.pending ∧ t.timeInvalid = s.timeInvalid
       ∧ (t.rd R.RST_WARM_COUNT).toNat = satCount (s.rd R.RST_WARM_COUNT) 1))

/-- The steps of the start-up (R116, R119, R126, R127, R139, R140, R548). -/
def Obligations.StartUpSteps : Prop :=
  (∀ (s : State),
      s.awake = true → s.boot.sramWiping = true →
      runs (.sramWipeDone) s (fun t => t = { s with regs := t.regs, mem := t.mem, ecc := t.ecc, boot := { s.boot with sramWiping := false } }
       ∧ (∀ a, t.byte a = if inRange 0x10000000 0x11000000 a then 0 else s.byte a)
       ∧ t.fget F.RST_BOOT_STAT_STAGE = max 3 (s.fget F.RST_BOOT_STAT_STAGE) ∧ regsKept s t [R.RST_BOOT_STAT])) ∧
  (∀ (n : Fin 8) (s : State),
      s.awake = true → s.selfTestDue n = true → runs (.eccSelftest n true) s (fun t => t.fget (F.ECC_STAT_SELFTEST_OK n) = 1
       ∧ t.rd (R.INT_RAW (Pg.ECC n)) = 0 ∧ t.boot.tested.contains n.val = true ∧ memKept s t (fun a => inRange (eccTestWord n) (eccTestWord n + 8) a)
       ∧ pagesKept s t [Pg.ECC n, Pg.RST] ∧ t = { s with regs := t.regs, mem := t.mem, ecc := t.ecc, eccx := t.eccx, boot := t.boot })) ∧
  (∀ (n : Fin 8) (s : State),
      s.awake = true → s.selfTestDue n = true → runs (.eccSelftest n false) s (fun t => t.fget F.RST_BOOT_STAT_SELFTEST_FAIL = 1
       ∧ t.bit R.RST_BOOT_STAT (8 + n) = true ∧ t.boot.tested.contains n.val = true ∧ t.console = s.console ++ [.eccFail n.val]
       ∧ memKept s t (fun a => inRange (eccTestWord n) (eccTestWord n + 8) a))) ∧
  (∀ (s : State),
      s.awake = true → s.lcWipeDue = true → s.fget F.RST_BOOT_STAT_STAGE = 5 →
      runs (.lifecycleWipeDone) s (fun t => t.bytesAt markerAddr 64 = s.markerNow ∧ t.fget F.RST_BOOT_STAT_LC_WIPE = 1 ∧ t.cairn.slots = []
       ∧ t.cairn.clearMark = 0 ∧ (∀ a, inRange 0x60100000 0x62000000 a = true → inRange markerAddr (markerAddr + 64) a = false → t.byte a = 0)
       ∧ (∀ a, inMram a = false → t.byte a = s.byte a) ∧ t.trust.otp = s.trust.otp)) ∧
  (∀ (s : State),
      s.awake = true → s.fget F.RST_BOOT_STAT_STAGE = 5 → s.lcWipeDue = false → s.trust.otp.decom = false → s.eccHeld = false →
      s.boot.recovery = false → s.flash.boot.trial = false → s.bankPasses s.activeBank true = true →
      runs (.bootVerifyDone true false) s (fun t => t.boot.rtRun = true ∧ 7 ≤ t.fget F.RST_BOOT_STAT_STAGE ∧ t.boot.recovery = false
       ∧ t.flash = s.flash ∧ t.trust.otp = s.trust.otp)) ∧
  (∀ (s : State),
      s.awake = true → s.fget F.RST_BOOT_STAT_STAGE = 5 → s.lcWipeDue = false → s.trust.otp.decom = false → s.eccHeld = false →
      s.boot.recovery = false → s.flash.boot.trial = false → runs (.bootVerifyDone false false) s (fun t => t.boot = { s.boot with recovery := true }
       ∧ t.fget F.RST_BOOT_STAT_FALLBACK = 1 ∧ t.fget F.ANC_STAT_STATE = 2 ∧ t.mem = s.mem ∧ t.flash = s.flash)) ∧
  (∀ (s : State),
      s.awake = true → s.boot.dramWiping = true → s.boot.tested.contains 7 = true → s.fget F.RST_BOOT_STAT_ECC_FAIL / 128 = 0 →
      runs (.dramWipeDone) s (fun t => t.fget F.SYS_STAT_DRAM_READY = 1 ∧ t.boot.dramWiping = false
       ∧ (∀ a, inRange 0x100000000 0x300000000 a = true → inRange serviceBase (serviceBase + 0x4000000) a = false → t.byte a = 0)
       ∧ (∀ a, inRange 0x100000000 0x300000000 a = false → t.byte a = s.byte a)
       ∧ t = { s with regs := t.regs, mem := t.mem, ecc := t.ecc, boot := t.boot }
       ∧ regsKept s t [R.RST_BOOT_STAT, R.BLK_STAT Pg.SYS, R.INT_RAW Pg.SYS]))

/-- The unlock sequence of the expert area (R95, R96, R98). -/
def Obligations.ExpertSequence : Prop :=
  (∀ (req : Req) (page : Fin 39) (enable : Bool) (s : State),
      s.awake = true → s.opens req (R.BLK_CTL page) = true → s.comp0 req = true → s.enabled page = enable →
      runs (.expertArm req page enable) s (fun t => t = { s with unlock := tabPut s.unlock page (req, s.cyc), resp := .data 0 })) ∧
  (∀ (req : Req) (page : Fin 39) (enable : Bool) (s : State),
      s.awake = true → s.opens req (R.BLK_CTL page) = true → s.unlocks req page true = true → s.enabled page = enable →
      runs (.expertUnlock req page enable) s (fun t => t.fset (F.HDR_EXPERT page) = true
       ∧ t = { s with regs := t.regs, unlock := tabDel s.unlock page, resp := .data 0, cairn := t.cairn }
       ∧ regsKept s t (R.BLK_CTL page :: recordRegs))) ∧
  (∀ (req : Req) (page : Fin 39) (enable : Bool) (s : State),
      s.awake = true → s.opens req (R.BLK_CTL page) = true → s.unlocks req page true = false → s.enabled page = enable →
      runs (.expertUnlock req page enable) s (fun t => t.fset (F.HDR_UNLOCK_SEQ page) = true ∧ t.fget (F.HDR_EXPERT page) = s.fget (F.HDR_EXPERT page)
       ∧ t = { s with regs := t.regs, unlock := tabDel s.unlock page, resp := .data 0 } ∧ regsKept s t (R.BLK_FAULT page :: sysCapture)
       ∧ (t.rd R.SYS_FAULT_COUNT).toNat = satCount (s.rd R.SYS_FAULT_COUNT) 1)) ∧
  (∀ (req : Req) (page : Fin 39) (enable : Bool) (s : State),
      s.awake = true → s.opens req (R.BLK_CTL page) = true → s.enabled page = enable →
      runs (.expertClear req page enable) s (fun t => t.fset (F.HDR_EXPERT page) = false
       ∧ t = { s with regs := t.regs, unlock := tabDel s.unlock page, resp := .data 0 } ∧ regsKept s t [R.BLK_CTL page]))

/-- ENABLE, INT_CLR and BLK_OWNER of a page (R89, R91, R93, R96). -/
def Obligations.PageHeaders : Prop :=
  (∀ (req : Req) (page : Fin 39) (expert : Bool) (s : State),
      s.awake = true → s.opens req (R.BLK_CTL page) = true → pageAlwaysOn page = false → (page.val ≠ Pg.MAC4 ∨ s.mac4Ok = true) →
      runs (.blockEnable req page expert) s (fun t => t.enabled page = true ∧ t.resp = .data 0 ∧ t.trust.otp = s.trust.otp ∧ t.flash = s.flash
       ∧ t.pending = s.pending)) ∧
  (∀ (req : Req) (page : Fin 39) (expert : Bool) (s : State),
      s.awake = true → s.opens req (R.BLK_CTL page) = true → pageAlwaysOn page = false →
      runs (.blockDisable req page expert) s (fun t => t.enabled page = false ∧ t.resp = .data 0 ∧ t.trust.otp = s.trust.otp ∧ t.flash = s.flash
       ∧ t.pending = s.pending)) ∧
  (∀ (req : Req) (page : Fin 39) (value : Word) (s : State),
      s.awake = true → s.opens req (R.INT_CLR page) = true → runs (.intClr req page value) s (fun t => onlyAnswer s t 0 [R.INT_RAW page]
       ∧ t.rd (R.INT_RAW page) = s.rd (R.INT_RAW page) &&& ~~~value)) ∧
  (∀ (page : Fin 39) (value : Word) (s : State),
      s.awake = true → pageOwnerFixed page = false → runs (.blkOwnerWrite .anchor page value) s (fun t => onlyAnswer s t 0 [R.BLK_OWNER page]
       ∧ t.rd (R.BLK_OWNER page) = value &&& 0x3F)) ∧
  (∀ (req : Req) (page : Fin 39) (value : Word) (s : State),
      s.awake = true → s.opens req (R.BLK_OWNER page) = true → req ≠ .anchor →
      runs (.blkOwnerWrite req page value) s (fun t => onlyAnswer s t 0 (R.BLK_FAULT page :: sysCapture) ∧ t.fset (F.HDR_OWNER_WR page) = true
       ∧ t.rd (R.BLK_OWNER page) = s.rd (R.BLK_OWNER page)))

/-- Claims, completions, routes and software interrupts (R107, R108, R109, R112). -/
def Obligations.InterruptController : Prop :=
  (∀ (req : Req) (target : Fin 5) (n : Nat) (s : State),
      s.awake = true → s.opens req (R.INTC_CLAIM target) = true → s.bestSource target = some n →
      runs (.intcClaim req target) s (fun t => t.claims = tabPut s.claims n target ∧ t = { s with claims := t.claims, resp := t.resp }
       ∧ (n < 248 → t.resp = .data (BitVec.ofNat 64 (0x80000000 + n))))) ∧
  (∀ (req : Req) (target : Fin 5) (s : State),
      s.awake = true → s.opens req (R.INTC_CLAIM target) = true → s.bestSource target = none →
      runs (.intcClaim req target) s (fun t => t = { s with resp := .data 0 })) ∧
  (∀ (req : Req) (target : Fin 5) (source : Fin 256) (s : State),
      s.awake = true → s.opens req (R.INTC_COMPLETE target) = true → tabFind s.claims source = some target.val →
      runs (.intcComplete req target source) s (fun t => t = { s with claims := tabDel s.claims source, resp := .data 0 })) ∧
  (∀ (req : Req) (target : Fin 5) (source : Fin 256) (s : State),
      s.awake = true → s.opens req (R.INTC_COMPLETE target) = true → tabFind s.claims source ≠ some target.val →
      runs (.intcComplete req target source) s (fun t => onlyAnswer s t 0 [R.BLK_FAULT Pg.INTC] ∧ t.fset F.INTC_FAULT_BAD_COMPLETE = true)) ∧
  (∀ (req : Req) (source : Fin 256) (value : Word) (s : State),
      s.awake = true → s.opens req (R.INTC_ROUTE source) = true → req ≠ .anchor → s.fget (F.INTC_ROUTE_LOCK source) = 0 →
      fieldOf (F.INTC_ROUTE_LOCK source) value = 0 → fieldOf (F.INTC_ROUTE_TARGET source) value ≠ 7 →
      runs (.intcRouteWrite req source value) s (fun t => onlyAnswer s t 0 [R.INTC_ROUTE source] ∧ t.rd (R.INTC_ROUTE source) = value &&& 0x77)) ∧
  (∀ (source : Fin 256) (value : Word) (s : State),
      s.awake = true → runs (.intcRouteWrite .anchor source value) s (fun t => onlyAnswer s t 0 [R.INTC_ROUTE source]
       ∧ t.fget (F.INTC_ROUTE_TARGET source) = fieldOf (F.INTC_ROUTE_TARGET source) value
       ∧ t.fget (F.INTC_ROUTE_PRIO source) = fieldOf (F.INTC_ROUTE_PRIO source) value
       ∧ (t.fget (F.INTC_ROUTE_LOCK source) = if anchorSource source then 1 else fieldOf (F.INTC_ROUTE_LOCK source) value))) ∧
  (∀ (req : Req) (source : Fin 256) (value : Word) (s : State),
      s.awake = true → s.opens req (R.INTC_ROUTE source) = true → req ≠ .anchor →
      (s.fget (F.INTC_ROUTE_LOCK source) = 1 ∨ fieldOf (F.INTC_ROUTE_LOCK source) value ≠ s.fget (F.INTC_ROUTE_LOCK source) ∨ fieldOf (F.INTC_ROUTE_TARGET source) value = 7) →
      runs (.intcRouteWrite req source value) s (fun t => onlyAnswer s t 0 [R.BLK_FAULT Pg.INTC]
       ∧ (fieldOf (F.INTC_ROUTE_TARGET source) value = 7 → t.fset F.INTC_FAULT_ANCHOR_TARGET = true)
       ∧ (s.fget (F.INTC_ROUTE_LOCK source) = 1 → t.fset F.INTC_FAULT_ROUTE_LOCKED = true))) ∧
  (∀ (req : Req) (value : Word) (s : State),
      s.awake = true → s.opens req R.INTC_SWI_SET = true → runs (.intcSwiSet req value) s (fun t => onlyAnswer s t 0 [R.INT_RAW Pg.INTC]
       ∧ t.rd (R.INT_RAW Pg.INTC) = s.rd (R.INT_RAW Pg.INTC) ||| (value &&& 0xFFFF)))

/-- A 32-bit store to a register: by its access code, locked, or refused (R11, R14, R88, R93, R98, R100). -/
def Obligations.RegisterStores : Prop :=
  (∀ (req : Req) (page : Fin 39) (off : Nat) (value : Word) (row : RegRow) (i : Nat) (s : State),
      s.awake = true → (page.val = 0 ∨ page.val = 1 ∨ page.val = 5 ∨ page.val = 6 ∨ page.val = 21) → 0x100 ≤ off → off < 0x800 → off % 4 = 0 →
      rowOf page off = some (row, i) → s.pageGrant req page off = true → req ≠ .anchor →
      runs (.registerWrite req page off value) s (fun t => onlyAnswer s t 0 [page.val * 0x1000 + off]
       ∧ t.rd (page.val * 0x1000 + off) = ((s.rd (page.val * 0x1000 + off) &&& ~~~(BitVec.ofNat 32 row.rw)) ||| (value &&& BitVec.ofNat 32 row.rw)) &&& ~~~(value &&& BitVec.ofNat 32 row.w1c))) ∧
  (∀ (req : Req) (page : Fin 39) (off : Nat) (value : Word) (s : State),
      s.awake = true → 0x800 ≤ off → off < 0x1000 → off % 4 = 0 → ownLock req page off = false → s.fset (F.HDR_EXPERT page) = false →
      (rowOf page off).isSome = true → s.pageGrant req page off = true →
      runs (.registerWrite req page off value) s (fun t => t.fset (F.HDR_LOCKED_WR page) = true ∧ onlyAnswer s t 0 (R.BLK_FAULT page :: sysCapture)
       ∧ (t.rd R.SYS_FAULT_COUNT).toNat = satCount (s.rd R.SYS_FAULT_COUNT) 1)) ∧
  (∀ (req : Req) (page : Fin 39) (off : Nat) (value : Word) (s : State),
      s.awake = true → off % 4 = 0 → off < 0x1000 → s.pageGrant req page off = false →
      runs (.registerWrite req page off value) s (fun t => t.resp = .storeFault ∧ t.fset (F.HDR_CMPT_DENY page) = true
       ∧ t = { s with regs := t.regs, resp := t.resp, cairn := t.cairn, denyRate := t.denyRate } ∧ pagesKept s t [Pg.SYS, page, Pg.CMPT, Pg.CAIRN]
       ∧ ((svcCore req).isSome = true → (t.rd R.CMPT_DENY_COUNT).toNat = satCount (s.rd R.CMPT_DENY_COUNT) 1)))

/-- Loads and stores of the cores in plain memory, refused and misaligned accesses (R9, R21, R22, R23, R131, R132, R522, R563). -/
def Obligations.CoreMemory : Prop :=
  (∀ (v : Word64) (s : State),
      s.awake = true →
      runs (.coreMemoryStore 4 0x2F000 .b4 v) s (fun t => t = { s with trust := { s.trust with dwin := t.trust.dwin }, resp := .data 0 }
       ∧ t.trust.dwin.toNat = v.toNat % 128)) ∧
  (∀ (fetch : Bool) (addr : Nat) (width : Width) (s : State),
      s.awake = true → addr % widthBytes width = 0 → width ≠ .b8 → 0xC000000 ≤ addr → addr < 0x10000000 →
      s.flipsAt (0x100000000 + s.trust.dwin.toNat * 0x4000000 + (addr - 0xC000000)) = 0 →
      runs (.coreMemoryLoad 4 fetch addr width) s (fun t => t = { s with resp := .data (BitVec.ofNat 64 (s.le (0x100000000 + s.trust.dwin.toNat * 0x4000000 + (addr - 0xC000000)) (widthBytes width))) })) ∧
  (∀ (addr : Nat) (width : Width) (data : Word64) (a : Nat) (s : State),
      s.awake = true → addr % widthBytes width = 0 → width ≠ .b8 → 0xC000000 ≤ addr → addr < 0x10000000 →
      a = 0x100000000 + s.trust.dwin.toNat * 0x4000000 + (addr - 0xC000000) → s.flipsAt a = 0 → s.untested a = true →
      runs (.coreMemoryStore 4 addr width data) s (fun t => t = { s with mem := t.mem, ecc := t.ecc, resp := .data 0 }
       ∧ t.le a (widthBytes width) = data.toNat % 2 ^ (8 * widthBytes width) ∧ memKept s t (inRange a (a + widthBytes width)))) ∧
  (∀ (core : Fin 5) (fetch : Bool) (addr : Nat) (width : Width) (s : State),
      s.awake = true → core.val < 4 → addr % widthBytes width = 0 → inPages addr = false → s.loadPath (Req.ofCore core) fetch addr = .plain →
      s.flipsAt addr = 0 →
      runs (.coreMemoryLoad core fetch addr width) s (fun t => t = { s with resp := .data (BitVec.ofNat 64 (s.le addr (widthBytes width))) })) ∧
  (∀ (core : Fin 5) (fetch : Bool) (addr : Nat) (width : Width) (region index : Nat) (s : State),
      s.awake = true → core.val < 4 → addr % widthBytes width = 0 → inPages addr = false →
      s.loadPath (Req.ofCore core) fetch addr = .deny region index →
      runs (.coreMemoryLoad core fetch addr width) s (fun t => (t.resp = (if fetch then .fetchFault else .loadFault))
       ∧ t = { s with regs := t.regs, resp := t.resp, cairn := t.cairn, denyRate := t.denyRate } ∧ pagesKept s t [Pg.SYS, Pg.CMPT, Pg.CAIRN]
       ∧ (t.rd R.SYS_FAULT_COUNT).toNat = satCount (s.rd R.SYS_FAULT_COUNT) 1)) ∧
  (∀ (core : Fin 5) (addr : Nat) (width : Width) (s : State),
      s.awake = true → core.val < 4 → addr % widthBytes width ≠ 0 → faultsMisaligned addr = true →
      runs (.coreMemoryLoad core false addr width) s (fun t => t = { s with resp := .misaligned })) ∧
  (∀ (core : Fin 5) (addr : Nat) (width : Width) (data : Word64) (s : State),
      s.awake = true → core.val < 4 → addr % widthBytes width = 0 → inPages addr = false →
      s.storePath (Req.ofCore core) addr (widthBytes width) = .plain → s.flipsAt addr = 0 → s.untested addr = true →
      runs (.coreMemoryStore core addr width data) s (fun t => t = { s with mem := t.mem, ecc := t.ecc, resp := .data 0 }
       ∧ t.le addr (widthBytes width) = data.toNat % 2 ^ (8 * widthBytes width) ∧ memKept s t (inRange addr (addr + widthBytes width)))) ∧
  (∀ (core : Fin 5) (addr : Nat) (width : Width) (data : Word64) (region index : Nat) (s : State),
      s.awake = true → core.val < 4 → addr % widthBytes width = 0 → inPages addr = false →
      s.storePath (Req.ofCore core) addr (widthBytes width) = .deny region index →
      runs (.coreMemoryStore core addr width data) s (fun t => t.resp = .storeFault
       ∧ t = { s with regs := t.regs, resp := t.resp, cairn := t.cairn, denyRate := t.denyRate } ∧ pagesKept s t [Pg.SYS, Pg.CMPT, Pg.CAIRN]
       ∧ (t.rd R.SYS_FAULT_COUNT).toNat = satCount (s.rd R.SYS_FAULT_COUNT) 1)) ∧
  (∀ (core : Fin 5) (addr : Nat) (width : Width) (data : Word64) (s : State),
      s.awake = true → core.val < 4 → addr % widthBytes width ≠ 0 → faultsMisaligned addr = true →
      runs (.coreMemoryStore core addr width data) s (fun t => t = { s with resp := .misaligned })) ∧
  (∀ (acc : Access) (s : State),
      s.live = true → s.debugOpen = false → runs (.debugAccess acc) s (fun t => t = { s with resp := .ignored })) ∧
  (∀ (addr : Nat) (width : Width) (s : State),
      s.live = true → s.debugOpen = true → addr % widthBytes width = 0 → inPages addr = false → s.loadPath .debug false addr = .plain →
      s.flipsAt addr = 0 → s.mramOk addr (widthBytes width) = true →
      runs (.debugAccess (.load addr width)) s (fun t => t = { s with resp := .data (BitVec.ofNat 64 (s.le addr (widthBytes width))) })) ∧
  (∀ (addr : Nat) (width : Width) (data : Word64) (s : State),
      s.live = true → s.debugOpen = true → addr % widthBytes width = 0 → inPages addr = false → s.storePath .debug addr (widthBytes width) = .plain →
      s.flipsAt addr = 0 → s.untested addr = true →
      runs (.debugAccess (.store addr width data)) s (fun t => t = { s with mem := t.mem, ecc := t.ecc, resp := .data 0 }
       ∧ t.le addr (widthBytes width) = data.toNat % 2 ^ (8 * widthBytes width) ∧ memKept s t (inRange addr (addr + widthBytes width))))

/-- The error bucket, the scrubbers and their registers (R131, R135, R136, R137, R138, R141). -/
def Obligations.EccAndScrubbing : Prop :=
  (∀ (n : Fin 8) (s : State),
      s.live = true → s.fget (F.ECC_BUCKET_CFG_LEAK_S n) ≠ 0 →
      runs (.eccBucketLeak n) s (fun t => t.fget (F.ECC_BUCKET_LEVEL n) = s.fget (F.ECC_BUCKET_LEVEL n) - 1 ∧ t.mem = s.mem ∧ t.ecc = s.ecc
       ∧ regsKept s t [R.ECC_BUCKET n, R.INT_RAW (Pg.ECC n)] ∧ s.cyc ≤ t.cyc)) ∧
  (∀ (n : Fin 8) (s : State),
      s.awake = true → s.eccAt (s.scrubAddr n) = .valid → runs (.scrubWord n) s (fun t => t = { s with eccx := t.eccx }
       ∧ (t.eccx.get n).scrubPos = ((s.eccx.get n).scrubPos + 1) % (eccRegion n).2)) ∧
  (∀ (n : Fin 8) (bit : Nat) (s : State),
      s.awake = true → s.eccAt (s.scrubAddr n) = .single bit → s.fset (F.ECC_TEST_CTL_ARM n) = false → n.val < 7 →
      runs (.scrubWord n) s (fun t => t.flipsAt (s.scrubAddr n) = 0 ∧ (t.rd (R.ECC_CE_TOTAL n)).toNat = satCount (s.rd (R.ECC_CE_TOTAL n)) 1
       ∧ pagesKept s t [Pg.ECC n] ∧ memKept s t (inRange (s.scrubAddr n) (s.scrubAddr n + 8))
       ∧ t = { s with regs := t.regs, mem := t.mem, ecc := t.ecc, eccx := t.eccx })) ∧
  (∀ (n : Fin 8) (s : State),
      s.awake = true → s.eccAt (s.scrubAddr n) = .uncorrectable → runs (.scrubWord n) s (fun t => t = { s with regs := t.regs, eccx := t.eccx }
       ∧ (t.rd (R.ECC_UE_COUNT n)).toNat = satCount (s.rd (R.ECC_UE_COUNT n)) 1 ∧ pagesKept s t [Pg.ECC n])) ∧
  (∀ (n : Fin 8) (s : State),
      s.awake = true → runs (.scrubPassDone n) s (fun t => t = { s with regs := t.regs, eccx := t.eccx }
       ∧ (t.rd (R.ECC_SCRUB_PASS n)).toNat = satCount (s.rd (R.ECC_SCRUB_PASS n)) 1
       ∧ (t.fset (F.ECC_STAT_SCRUB_LATE n) = decide ((s.eccx.get n).passStart + cycS (max (s.fget (F.ECC_SCRUB_PERIOD_SECONDS n)) (if n.val = 7 then 60 else 1)) < s.cyc))
       ∧ regsKept s t [R.ECC_SCRUB_PASS n, R.BLK_STAT (Pg.ECC n)])) ∧
  (∀ (req : Req) (n : Fin 8) (value : Word) (s : State),
      s.awake = true → s.opens req (R.ECC_BUCKET_CFG n) = true →
      runs (.bucketCfgWrite req n value) s (fun t => t.fget (F.ECC_BUCKET_CFG_LEAK_S n) = fieldOf (F.ECC_BUCKET_CFG_LEAK_S n) value
       ∧ t.fget (F.ECC_BUCKET_CFG_THRESH n) = max 1 (fieldOf (F.ECC_BUCKET_CFG_THRESH n) value)
       ∧ t = { s with regs := t.regs, eccx := t.eccx, resp := .data 0 } ∧ regsKept s t [R.ECC_BUCKET_CFG n, R.INT_RAW (Pg.ECC n)]))

/-- The state table of a field-bus controller (R148, R149, R166, R168, R170). -/
def Obligations.CanStates : Prop :=
  (∀ (ch : Fin 4) (s : State),
      s.awake = true → s.canState ch = canIntegrating → s.canClock = true → s.sup.waking = none → s.fget (F.CAN_MODE_REQ ch) ≠ 3 →
      runs (.canIntegrationDone ch) s (fun t => (t.canState ch = (if 127 < s.fget (F.CAN_ERR_CNT_TEC ch) ∨ 127 < s.fget (F.CAN_ERR_CNT_REC ch) then canPassive else canActive))
       ∧ t = { s with regs := t.regs, can := t.can, pins := t.pins } ∧ pagesKept s t [Pg.CAN ch])) ∧
  (∀ (ch : Fin 4) (s : State),
      s.awake = true → s.canState ch = canIntegrating → s.canClock = true → s.sup.waking = none → s.fget (F.CAN_MODE_REQ ch) = 3 →
      runs (.canIntegrationDone ch) s (fun t => t.canState ch = canSleepPending ∧ t.fget (F.CAN_MODE_REQ ch) = 3
       ∧ t = { s with regs := t.regs, can := t.can, pins := t.pins } ∧ pagesKept s t [Pg.CAN ch])) ∧
  (∀ (ch : Fin 4) (s : State),
      s.awake = true → s.canState ch = canSleepPending → s.canClock = true → (s.canx ch).tx.isNone = true → s.sup.waking = none →
      runs (.canIntegrationDone ch) s (fun t => (s.clockLost 9 = false → t.canState ch = canSleep)
       ∧ (s.clockLost 9 = true → t.canState ch = canSleepPending ∧ t.fset (F.CAN_FAULT_SLEEP_REFUSED ch) = true)
       ∧ t = { s with regs := t.regs, can := t.can, pins := t.pins } ∧ pagesKept s t [Pg.CAN ch])) ∧
  (∀ (req : Req) (ch : Fin 4) (s : State),
      s.awake = true → s.opens req (R.CAN_CMD ch) = true → s.canState ch = canBusOff →
      runs (.canRecover req ch) s (fun t => t.canState ch = canRecovering
       ∧ t = { s with regs := t.regs, can := t.can, pins := t.pins, resp := .data 0 }
       ∧ regsKept s t [R.CAN_STATE ch, R.BLK_STAT (Pg.CAN ch), R.CAN_RX_RD_FW ch])) ∧
  (∀ (req : Req) (ch : Fin 4) (s : State),
      s.awake = true → s.opens req (R.CAN_CMD ch) = true → s.canState ch ≠ canBusOff →
      runs (.canRecover req ch) s (fun t => onlyAnswer s t 0 [R.BLK_FAULT (Pg.CAN ch)] ∧ t.fset (F.CAN_FAULT_BAD_CMD ch) = true)) ∧
  (∀ (ch : Fin 4) (s : State),
      s.awake = true → s.canClock = true → s.canState ch = canRecovering → runs (.canRecoveryDone ch) s (fun t => t.canState ch = canActive
       ∧ t.fget (F.CAN_ERR_CNT_TEC ch) = 0 ∧ t.fget (F.CAN_ERR_CNT_REC ch) = 0
       ∧ (s.enabled (Pg.CAN ch) = true → t.bit (R.INT_RAW (Pg.CAN ch)) Ev.CAN_MODE_DONE = true)
       ∧ t = { s with regs := t.regs, can := t.can, pins := t.pins } ∧ pagesKept s t [Pg.CAN ch])) ∧
  (∀ (ch : Fin 4) (cause : CanWakeCause) (s : State),
      s.live = true → s.enabled (Pg.CAN ch) = true → s.canState ch = canSleep → s.clockLost 9 = false → s.wakeMatch ch cause = some true →
      runs (.canWake ch cause) s (fun t => t.canState ch = canIntegrating ∧ t.fget (F.CAN_MODE_REQ ch) = (s.canx ch).reqBefore % 8
       ∧ (t.rd (R.CAN_WAKE_COUNT ch)).toNat = satCount (s.rd (R.CAN_WAKE_COUNT ch)) 1 ∧ t.get64 (R.CAN_WAKE_TS_LO ch) = s.now ∧ t.sup.asleep = false
       ∧ t = { s with regs := t.regs, hiWords := t.hiWords, can := t.can, pins := t.pins, sup := t.sup } ∧ pagesKept s t [Pg.CAN ch])) ∧
  (∀ (ch : Fin 4) (cause : CanWakeCause) (s : State),
      s.live = true → s.canState ch = canSleep → s.clockLost 9 = false → s.wakeMatch ch cause = some false →
      runs (.canWake ch cause) s (fun t => t = s))

/-- Writes of MODE.REQ (R148, R149, R150). -/
def Obligations.CanModes : Prop :=
  (∀ (req : Req) (ch : Fin 4) (s : State),
      s.awake = true → s.opens req (R.CAN_MODE ch) = true → runs (.canModeNormal req ch) s (fun t => t.fget (F.CAN_MODE_REQ ch) = 0
       ∧ (s.enabled (Pg.CAN ch) = true → s.canState ch ≠ canSleepPending → (s.canx ch).tx = none → (t.canx ch).mode = 0)
       ∧ (s.enabled (Pg.CAN ch) = true → s.canState ch = canSleep → t.canState ch = canIntegrating)
       ∧ (s.enabled (Pg.CAN ch) = false → t.canState ch = s.canState ch ∧ (t.canx ch).mode = (s.canx ch).mode)
       ∧ t = { s with regs := t.regs, can := t.can, pins := t.pins, cairn := t.cairn, resp := .data 0 } ∧ pagesKept s t [Pg.CAN ch, Pg.CAIRN])) ∧
  (∀ (req : Req) (ch : Fin 4) (s : State),
      s.awake = true → s.opens req (R.CAN_MODE ch) = true → runs (.canModeListen req ch) s (fun t => t.fget (F.CAN_MODE_REQ ch) = 1
       ∧ (s.enabled (Pg.CAN ch) = true → s.canState ch ≠ canSleepPending → (s.canx ch).tx = none → (t.canx ch).mode = 1)
       ∧ (s.enabled (Pg.CAN ch) = true → s.canState ch = canSleep → t.canState ch = canIntegrating)
       ∧ (s.enabled (Pg.CAN ch) = false → t.canState ch = s.canState ch ∧ (t.canx ch).mode = (s.canx ch).mode)
       ∧ t = { s with regs := t.regs, can := t.can, pins := t.pins, cairn := t.cairn, resp := .data 0 } ∧ pagesKept s t [Pg.CAN ch, Pg.CAIRN])) ∧
  (∀ (req : Req) (ch : Fin 4) (s : State),
      s.awake = true → s.opens req (R.CAN_MODE ch) = true → runs (.canModeLoopback req ch) s (fun t => t.fget (F.CAN_MODE_REQ ch) = 2
       ∧ (s.enabled (Pg.CAN ch) = true → s.canState ch ≠ canSleepPending → (s.canx ch).tx = none → (t.canx ch).mode = 2)
       ∧ (s.enabled (Pg.CAN ch) = true → s.canState ch = canSleep → t.canState ch = canIntegrating)
       ∧ (s.enabled (Pg.CAN ch) = false → t.canState ch = s.canState ch ∧ (t.canx ch).mode = (s.canx ch).mode)
       ∧ t = { s with regs := t.regs, can := t.can, pins := t.pins, cairn := t.cairn, resp := .data 0 } ∧ pagesKept s t [Pg.CAN ch, Pg.CAIRN])) ∧
  (∀ (req : Req) (ch : Fin 4) (s : State),
      s.awake = true → s.opens req (R.CAN_MODE ch) = true → s.enabled (Pg.CAN ch) = true → s.canOpen ch = true → s.fget (F.CAN_MODE_REQ ch) ≠ 3 →
      runs (.canModeSleep req ch) s (fun t => t.fget (F.CAN_MODE_REQ ch) = 3 ∧ t.canState ch = canSleepPending
       ∧ (t.canx ch).reqBefore = s.fget (F.CAN_MODE_REQ ch) ∧ (t.canx ch).stateBefore = s.canState ch
       ∧ t = { s with regs := t.regs, can := t.can, pins := t.pins, resp := .data 0 } ∧ pagesKept s t [Pg.CAN ch])) ∧
  (∀ (req : Req) (ch : Fin 4) (s : State),
      s.awake = true → s.opens req (R.CAN_MODE ch) = true → s.enabled (Pg.CAN ch) = true →
      (s.canState ch = canBusOff ∨ s.canState ch = canRecovering) → runs (.canModeSleep req ch) s (fun t => onlyAnswer s t 0 [R.BLK_FAULT (Pg.CAN ch)]
       ∧ t.fset (F.CAN_FAULT_BAD_WRITE ch) = true))

/-- Reception: the ring, its overflow, the watermark and the consumer's index (R153, R154, R155, R157, R158, R159, R162, R173). -/
def Obligations.CanReceive : Prop :=
  (∀ (ch : Fin 4) (frame : CanFrame) (sof : Word64) (s : State),
      s.awake = true → s.canReceives ch sof.toNat = true → (s.canx ch).tx = none → s.ringFull ch = false → isSyncFrame frame = false →
      runs (.canRxValid ch frame sof) s (fun t => t.bytesAt (ringBase ch + 80 * (s.fget (F.CAN_RX_WR_INDEX ch) % ringSize)) 80 = ringEntry sof.toNat frame false (s.canx ch).lost.isSome (s.canx ch).seq 0
       ∧ t.fget (F.CAN_RX_WR_INDEX ch) = (s.fget (F.CAN_RX_WR_INDEX ch) + 1) % 65536
       ∧ memKept s t (inRange (ringBase ch + 80 * (s.fget (F.CAN_RX_WR_INDEX ch) % ringSize)) (ringBase ch + 80 * (s.fget (F.CAN_RX_WR_INDEX ch) % ringSize) + 80))
       ∧ t = { s with regs := t.regs, mem := t.mem, ecc := t.ecc, can := t.can, pins := t.pins, cairn := t.cairn, draws := t.draws }
       ∧ pagesKept s t [Pg.CAN ch, Pg.ECC 4, Pg.CAIRN])) ∧
  (∀ (ch : Fin 4) (frame : CanFrame) (sof : Word64) (att : TxAtt) (s : State),
      s.awake = true → s.canReceives ch sof.toNat = true → (s.canx ch).tx = some att → att.abortTo = none → att.queue < 3 →
      runs (.canRxValid ch frame sof) s (fun t => (t.canx ch).tx = none ∧ t.qHead ch att.queue = s.qHead ch att.queue
       ∧ t.qCount ch att.queue = s.qCount ch att.queue ∧ memKept s t (inRange (ringBase ch) (ringBase ch + 80 * ringSize)))) ∧
  (∀ (ch : Fin 4) (frame : CanFrame) (sof : Word64) (s : State),
      s.awake = true → s.canReceives ch sof.toNat = true → (s.canx ch).tx = none → s.ringFull ch = true →
      runs (.canRxValid ch frame sof) s (fun t => t.mem = s.mem ∧ (t.rd (R.CAN_RX_OVF ch)).toNat = satCount (s.rd (R.CAN_RX_OVF ch)) 1
       ∧ t.fget (F.CAN_RX_WR_INDEX ch) = s.fget (F.CAN_RX_WR_INDEX ch) ∧ (t.canx ch).lost.isSome = true
       ∧ t = { s with regs := t.regs, can := t.can, pins := t.pins, cairn := t.cairn, draws := t.draws } ∧ pagesKept s t [Pg.CAN ch, Pg.CAIRN])) ∧
  (∀ (ch : Fin 4) (s : State),
      s.awake = true → s.fget (F.CAN_RX_WM_TIMEOUT_US ch) ≠ 0 → s.unreadFw ch ≠ 0 → s.fset (F.CAN_RX_CFG_FW_CONSUMER ch) = true →
      (s.canx ch).wmDone = false → runs (.canRxWmTimeout ch) s (fun t => (t.canx ch).wmDone = true
       ∧ (s.enabled (Pg.CAN ch) = true → t.bit (R.INT_RAW (Pg.CAN ch)) Ev.CAN_RX_WM = true)
       ∧ (s.canx ch).wmFrom + cycUs (s.fget (F.CAN_RX_WM_TIMEOUT_US ch)) ≤ t.cyc
       ∧ t = { s with regs := t.regs, can := t.can, mt := t.mt, mono := t.mono, cyc := t.cyc, rate := t.rate, ptp := t.ptp }
       ∧ regsKept s t [R.INT_RAW (Pg.CAN ch)])) ∧
  (∀ (req : Req) (ch : Fin 4) (s : State),
      s.awake = true → s.opens req (R.CAN_CMD ch) = true → s.fset (F.CAN_RX_RD_FW_WIN_VALID ch) = true →
      runs (.canPop req ch) s (fun t => t.fget (F.CAN_RX_RD_FW_INDEX ch) = (s.fget (F.CAN_RX_RD_FW_INDEX ch) + 1) % 65536
       ∧ t = { s with regs := t.regs, can := t.can, pins := t.pins, resp := .data 0 }
       ∧ regsKept s t [R.CAN_RX_RD_FW ch, R.CAN_STATE ch, R.BLK_STAT (Pg.CAN ch)])) ∧
  (∀ (req : Req) (ch : Fin 4) (s : State),
      s.awake = true → s.opens req (R.CAN_CMD ch) = true → s.fset (F.CAN_RX_RD_FW_WIN_VALID ch) = false →
      runs (.canPop req ch) s (fun t => onlyAnswer s t 0 [R.BLK_FAULT (Pg.CAN ch)] ∧ t.fset (F.CAN_FAULT_BAD_CMD ch) = true)) ∧
  (∀ (req : Req) (ch : Fin 4) (index : BitVec 16) (s : State),
      s.awake = true → s.opens req (R.CAN_RX_RD_FW ch) = true → s.fset (F.CAN_RX_CFG_FW_CONSUMER ch) = true →
      (index.toNat + 65536 - s.fget (F.CAN_RX_RD_FW_INDEX ch)) % 65536 ≤ s.unreadFw ch →
      runs (.canRxRdFwWrite req ch index) s (fun t => t.fget (F.CAN_RX_RD_FW_INDEX ch) = index.toNat
       ∧ t = { s with regs := t.regs, can := t.can, pins := t.pins, resp := .data 0 }
       ∧ regsKept s t [R.CAN_RX_RD_FW ch, R.CAN_STATE ch, R.BLK_STAT (Pg.CAN ch)])) ∧
  (∀ (req : Req) (ch : Fin 4) (index : BitVec 16) (s : State),
      s.awake = true → s.opens req (R.CAN_RX_RD_FW ch) = true → s.fset (F.CAN_RX_CFG_FW_CONSUMER ch) = true →
      s.unreadFw ch < (index.toNat + 65536 - s.fget (F.CAN_RX_RD_FW_INDEX ch)) % 65536 →
      runs (.canRxRdFwWrite req ch index) s (fun t => onlyAnswer s t 0 [R.BLK_FAULT (Pg.CAN ch)] ∧ t.fset (F.CAN_FAULT_RING_PTR ch) = true)) ∧
  (∀ (req : Req) (ch : Fin 4) (fwConsumer : Bool) (s : State),
      s.awake = true → s.opens req (R.CAN_RX_CFG ch) = true →
      runs (.canRxCfgWrite req ch fwConsumer) s (fun t => t.fset (F.CAN_RX_CFG_FW_CONSUMER ch) = fwConsumer
       ∧ (fwConsumer = true → s.fset (F.CAN_RX_CFG_FW_CONSUMER ch) = false → t.fget (F.CAN_RX_RD_FW_INDEX ch) = s.fget (F.CAN_RX_WR_INDEX ch))
       ∧ t = { s with regs := t.regs, can := t.can, pins := t.pins, resp := .data 0 }
       ∧ regsKept s t [R.CAN_RX_CFG ch, R.CAN_RX_RD_FW ch, R.CAN_STATE ch, R.BLK_STAT (Pg.CAN ch)]))

/-- Transmission: the choice, success, lateness, aborts and the queue's index (R160, R161, R162, R163, R164, R165). -/
def Obligations.CanTransmit : Prop :=
  (∀ (ch : Fin 4) (q : Nat) (d : Desc) (s : State),
      s.awake = true → s.canSends ch = true →
      ((List.range 3).all (fun q => ((s.qHead ch q).map (fun a => !s.qOffered ch q || ((s.eccScan .can (wordsIn a 80)).1 && !s.descRefused ch (s.desc a)))).getD true)) = true →
      s.txChoice ch = some (q, d) → s.wouldBlock ch d = false →
      runs (.canTxStart ch) s (fun t => (t.canx ch).tx.map (fun x => (x.queue, x.abortTo)) = some (q, none)
       ∧ (∀ x ∈ (t.canx ch).tx, x.sof ≤ s.now + followSpan 4 ∧ s.now ≤ x.sof + followSpan 4)
       ∧ t = { s with regs := t.regs, ecc := t.ecc, can := t.can, pins := t.pins, cairn := t.cairn, draws := t.draws }
       ∧ pagesKept s t [Pg.CAN ch, Pg.ECC 4, Pg.CAIRN])) ∧
  (∀ (ch : Fin 4) (loopDelay measured : Nat) (att : TxAtt) (a : Nat) (s : State),
      s.awake = true → s.canClock = true → (s.canx ch).tx = some att → att.abortTo = none → att.queue < 3 → s.qHead ch att.queue = some a →
      (s.attemptDesc ch).all (fun d => !(d.brs && decide (100 < measured))) = true →
      runs (.canTxSuccess ch loopDelay measured) s (fun t => (t.canx ch).tx = none
       ∧ (t.rd (qRd ch att.queue)).toNat = ((s.rd (qRd ch att.queue)).toNat + 1) % 65536 ∧ (t.byte (a + 14) = 1 ∨ t.byte (a + 14) = 2)
       ∧ t.rd (R.CAN_TX_FRAMES ch) = s.rd (R.CAN_TX_FRAMES ch) + 1
       ∧ memKept s t (fun x => inRange a (a + 16) x || inRange (ringBase ch) (ringBase ch + 80 * ringSize) x)
       ∧ t = { s with regs := t.regs, mem := t.mem, ecc := t.ecc, can := t.can, pins := t.pins, cairn := t.cairn, mfp := t.mfp }
       ∧ pagesKept s t [Pg.CAN ch, Pg.ECC 4, Pg.CAIRN, Pg.FNET])) ∧
  (∀ (ch : Fin 4) (queue : Fin 3) (lim : Nat) (d : Desc) (a : Nat) (s : State),
      s.awake = true → s.dropLimit ch queue = some (lim, d) → s.qHead ch queue = some a →
      runs (.canTxDropLate ch queue) s (fun t => (t.rd (qRd ch queue)).toNat = ((s.rd (qRd ch queue)).toNat + 1) % 65536
       ∧ memKept s t (inRange a (a + 16)) ∧ t.byte (a + 14) = 3 ∧ (t.canx ch).tx = (s.canx ch).tx ∧ pagesKept s t [Pg.CAN ch, Pg.ECC 4, Pg.FNET])) ∧
  (∀ (req : Req) (ch : Fin 4) (s : State),
      s.awake = true → s.opens req (R.CAN_CMD ch) = true → (s.canx ch).tx = none → runs (.canAbortQ1 req ch) s (fun t => t.qCount ch 1 = 0
       ∧ memKept s t (inRange (qBase ch 1) (qBase ch 1 + 80 * qSize 1))
       ∧ t = { s with regs := t.regs, mem := t.mem, ecc := t.ecc, can := t.can, resp := .data 0 } ∧ pagesKept s t [Pg.CAN ch, Pg.ECC 4])) ∧
  (∀ (req : Req) (ch : Fin 4) (s : State),
      s.awake = true → s.opens req (R.CAN_CMD ch) = true → (s.canx ch).tx = none → runs (.canAbortQ2 req ch) s (fun t => t.qCount ch 2 = 0
       ∧ memKept s t (inRange (qBase ch 2) (qBase ch 2 + 80 * qSize 2))
       ∧ t = { s with regs := t.regs, mem := t.mem, ecc := t.ecc, can := t.can, resp := .data 0 } ∧ pagesKept s t [Pg.CAN ch, Pg.ECC 4])) ∧
  (∀ (req : Req) (ch : Fin 4) (att : TxAtt) (s : State),
      s.awake = true → s.opens req (R.CAN_CMD ch) = true → (s.canx ch).tx = some att → att.queue = 1 →
      runs (.canAbortQ1 req ch) s (fun t => (t.canx ch).tx = some { att with abortTo := some (s.rd (qWr ch 1)).toNat }
       ∧ t = { s with can := t.can, resp := .data 0 })) ∧
  (∀ (req : Req) (ch : Fin 4) (second : Bool) (index : BitVec 16) (s : State),
      s.awake = true → s.opens req (qWr ch (if second then 2 else 1)) = true →
      (index.toNat + 65536 - (s.rd (qRd ch (if second then 2 else 1))).toNat) % 65536 ≤ 64 →
      s.qCount ch (if second then 2 else 1) ≤ (index.toNat + 65536 - (s.rd (qRd ch (if second then 2 else 1))).toNat) % 65536 →
      runs (.canTxqWrWrite req ch second index) s (fun t => (onlyAnswer s t 0 [qWr ch (if second then 2 else 1)])
       ∧ ((t.rd (qWr ch (if second then 2 else 1))).toNat = index.toNat))) ∧
  (∀ (req : Req) (ch : Fin 4) (second : Bool) (index : BitVec 16) (s : State),
      s.awake = true → s.opens req (qWr ch (if second then 2 else 1)) = true →
      64 < (index.toNat + 65536 - (s.rd (qRd ch (if second then 2 else 1))).toNat) % 65536 →
      runs (.canTxqWrWrite req ch second index) s (fun t => onlyAnswer s t 0 [R.BLK_FAULT (Pg.CAN ch)] ∧ t.fset (F.CAN_FAULT_RING_PTR ch) = true))

/-- A protocol error (R148, R166, R167). -/
def Obligations.CanErrors : Prop :=
  (∀ (ch : Fin 4) (kind : CanErr) (inData : Bool) (tecInc recInc : Nat) (s : State),
      s.awake = true → s.canClock = true → (s.canOpen ch = true ∨ s.canState ch = canSleepPending) →
      runs (.canProtocolError ch kind inData tecInc recInc) s (fun t => t.fget (F.CAN_STATE_LEC ch) = lecCode kind
       ∧ t.fget (F.CAN_STATE_LEC_DATA ch) = boolNat inData
       ∧ t.fget (errField ch kind) = min (s.fget (errField ch kind) + 1) (fieldSize (errField ch kind) - 1)
       ∧ ((s.canx ch).closing = false → t.fget (F.CAN_ERR_CNT_TEC ch) = min 256 (s.fget (F.CAN_ERR_CNT_TEC ch) + tecInc)) ∧ (t.canx ch).tx = none
       ∧ memKept s t (inRange 0x10C40000 0x10C60000)
       ∧ t = { s with regs := t.regs, mem := t.mem, ecc := t.ecc, can := t.can, pins := t.pins, cairn := t.cairn }
       ∧ pagesKept s t [Pg.CAN ch, Pg.ECC 4, Pg.CAIRN])) ∧
  (∀ (ch : Fin 4) (kind : CanErr) (inData : Bool) (tecInc recInc : Nat) (s : State),
      s.awake = true → s.canClock = true → s.canOpen ch = true → (s.canx ch).tx = none → 255 < s.fget (F.CAN_ERR_CNT_TEC ch) + tecInc →
      runs (.canProtocolError ch kind inData tecInc recInc) s (fun t => t.canState ch = canBusOff
       ∧ (s.enabled (Pg.CAN ch) = true → t.bit (R.INT_RAW (Pg.CAN ch)) Ev.CAN_BUS_OFF = true) ∧ t.mem = s.mem))

/-- SYNC, TIME, DISC_OPEN and the queue Q0 (R181, R182, R191, R202, R205). -/
def Obligations.SyncAndTime : Prop :=
  (∀ (s : State),
      s.awake = true → s.fnetRuns = true → runs (.fnetSyncQueue) s (fun t => t.mfp.nextCycle = max s.mfp.nextCycle (s.cycleFrom s.now) + 1
       ∧ t.fget F.FNET_STAT_RUN = s.fget F.FNET_SYNC_CFG_CH_EN ∧ onlyScan s t)) ∧
  (∀ (c : Nat) (s : State),
      s.awake = true → s.fnetRuns = true → s.syncChannels = [c] → s.q0Free c = true → s.mfp.waiting = [] →
      runs (.fnetSyncQueue) s (fun t => (t.rd (R.CAN_TXQ0_WR c)).toNat = ((s.rd (R.CAN_TXQ0_WR c)).toNat + 1) % 65536
       ∧ t.le (descAddr c 0 (s.rd (R.CAN_TXQ0_WR c)).toNat) 8 = s.syncLaunch (max s.mfp.nextCycle (s.cycleFrom s.now)) % 2 ^ 64
       ∧ t.le (descAddr c 0 (s.rd (R.CAN_TXQ0_WR c)).toNat + 8) 4 = 2 ^ 29 ∧ t.mfp.waiting = [])) ∧
  (∀ (s : State),
      s.awake = true → s.fnetRuns = true → s.mfp.timeNext * 1000 + 1 < s.mfp.nextCycle →
      runs (.fnetTimeQueue) s (fun t => t.mfp.timeNext = (s.mfp.nextCycle - 2) / 1000 + 1 ∧ onlyScan s t)) ∧
  (∀ (ch : Fin 4) (s : State),
      s.awake = true → s.fnetRuns = true → s.mfp.synced.toList.getD ch false = true → s.mfp.discAt.toList.getD ch none = none →
      runs (.discOpen ch) s (fun t => t.mfp.discAt.toList.getD ch none = some s.monoNow ∧ t.mfp.unparked.toList.getD ch false = true ∧ onlyScan s t)) ∧
  (∀ (ch : Fin 4) (f : Q0Frame) (s : State),
      s.awake = true → s.mfp.waiting.find? (fun g => g.ch == ch.val) = some f → s.q0Free ch = true → s.enabled (q0Page f) = true →
      runs (.iosQ0Enqueue ch) s (fun t => t.mfp.waiting = s.mfp.waiting.erase f
       ∧ (t.rd (R.CAN_TXQ0_WR ch)).toNat = ((s.rd (R.CAN_TXQ0_WR ch)).toNat + 1) % 65536 ∧ onlyScan s t))

/-- ANNOUNCE and HELLO (R179, R198, R200, R201, R206). -/
def Obligations.Discovery : Prop :=
  (∀ (ch : Fin 4) (h : Heard) (k : Nat) (x : Stn) (s : State),
      s.awake = true → s.iosRuns = true → s.headFrame ch = some h → h.kind = .announce →
      ((s.headTaken ch).announceNote ch h.data).stnBySerial (serialOf h.data) = some (k, x) → k / 256 = ch → x.isDuplicate = false →
      x.st ≠ .present → (s.headTaken ch).iosSends = true →
      runs (.announce ch) s (fun t => t.fget (F.CAN_RX_RD_IOS_INDEX ch) = (s.headTaken ch).fget (F.CAN_RX_RD_IOS_INDEX ch) ∧ t.stnState k = .assigned
       ∧ onlyScan s t)) ∧
  (∀ (ch : Fin 4) (h : Heard) (s : State),
      s.awake = true → s.iosRuns = true → s.headFrame ch = some h → h.kind = .announce → (s.headTaken ch).stnBySerial (serialOf h.data) = none →
      (s.headTaken ch).iosSends = true →
      runs (.announce ch) s (fun t => t.fget (F.CAN_RX_RD_IOS_INDEX ch) = (s.headTaken ch).fget (F.CAN_RX_RD_IOS_INDEX ch)
       ∧ t.mfp.stations = s.mfp.stations ∧ onlyScan s t)) ∧
  (∀ (ch : Fin 4) (h : Heard) (x : Stn) (s : State),
      s.awake = true → s.iosRuns = true → s.headFrame ch = some h → h.kind = .hello → (s.headTaken ch).stn (heardKey ch h) = some x →
      (s.headTaken ch).standby = false → serialOf h.data = x.serial → x.st = .assigned →
      runs (.hello ch) s (fun t => t.fget (F.CAN_RX_RD_IOS_INDEX ch) = (s.headTaken ch).fget (F.CAN_RX_RD_IOS_INDEX ch)
       ∧ t.stnState (heardKey ch h) = .configuring ∧ ((t.stn (heardKey ch h)).map (·.greeted)) = some true
       ∧ ((t.stn (heardKey ch h)).map (·.exch)) = some .check ∧ onlyScan s t)) ∧
  (∀ (ch : Fin 4) (h : Heard) (x : Stn) (s : State),
      s.awake = true → s.iosRuns = true → s.headFrame ch = some h → h.kind = .hello → (s.headTaken ch).stn (heardKey ch h) = some x →
      (s.headTaken ch).standby = false → serialOf h.data ≠ x.serial →
      runs (.hello ch) s (fun t => t.fget (F.CAN_RX_RD_IOS_INDEX ch) = (s.headTaken ch).fget (F.CAN_RX_RD_IOS_INDEX ch)
       ∧ t.mfp.stations = s.mfp.stations ∧ (t.rd R.IOS_BAD_FRAME).toNat = satCount ((s.headTaken ch).rd R.IOS_BAD_FRAME) 1 ∧ onlyScan s t)) ∧
  (∀ (ch : Fin 4) (addr : Nat) (x : Stn) (s : State),
      s.awake = true → s.iosSends = true → s.stn (stnKey ch addr) = some x → x.st = .assigned → x.sent = true →
      runs (.helloTimeout ch addr) s (fun t => t.stnState (stnKey ch addr) = .absent ∧ s.cyc ≤ t.cyc ∧ onlyScan s t))

/-- CFG_ACK, INIT_REPORT, OUT_SET and their timeouts (R203, R204, R205, R209). -/
def Obligations.ConfigurationExchange : Prop :=
  (∀ (ch : Fin 4) (h : Heard) (x : Stn) (s : State),
      s.awake = true → s.iosRuns = true → s.headFrame ch = some h → h.kind = .cfgAck → (s.headTaken ch).stn (heardKey ch h) = some x →
      (s.headTaken ch).standby = false → x.st = .configuring → x.exch = .check →
      runs (.cfgAck ch) s (fun t => t.fget (F.CAN_RX_RD_IOS_INDEX ch) = (s.headTaken ch).fget (F.CAN_RX_RD_IOS_INDEX ch)
       ∧ ((t.stn (heardKey ch h)).map (·.exch)) = some .commit ∧ t.stnState (heardKey ch h) = .configuring ∧ onlyScan s t)) ∧
  (∀ (ch : Fin 4) (h : Heard) (x : Stn) (s : State),
      s.awake = true → s.iosRuns = true → s.headFrame ch = some h → h.kind = .cfgAck → (s.headTaken ch).stn (heardKey ch h) = some x →
      (s.headTaken ch).standby = false → x.st = .configuring → x.exch = .commit → byteOf h.data 0 = 0 →
      runs (.cfgAck ch) s (fun t => t.fget (F.CAN_RX_RD_IOS_INDEX ch) = (s.headTaken ch).fget (F.CAN_RX_RD_IOS_INDEX ch)
       ∧ ((t.stn (heardKey ch h)).map (·.exch)) = some .initWait ∧ onlyScan s t)) ∧
  (∀ (ch : Fin 4) (h : Heard) (x : Stn) (s : State),
      s.awake = true → s.iosRuns = true → s.headFrame ch = some h → h.kind = .cfgAck → (s.headTaken ch).stn (heardKey ch h) = some x →
      (s.headTaken ch).standby = false → x.st = .configuring → x.exch = .commit → byteOf h.data 0 ≠ 0 → x.attempts < 2 →
      runs (.cfgAck ch) s (fun t => t.fget (F.CAN_RX_RD_IOS_INDEX ch) = (s.headTaken ch).fget (F.CAN_RX_RD_IOS_INDEX ch)
       ∧ ((t.stn (heardKey ch h)).map (·.attempts)) = some (x.attempts + 1) ∧ ((t.stn (heardKey ch h)).map (·.exch)) = some .check ∧ onlyScan s t)) ∧
  (∀ (ch : Fin 4) (h : Heard) (x : Stn) (s : State),
      s.awake = true → s.iosRuns = true → s.headFrame ch = some h → h.kind = .cfgAck → (s.headTaken ch).stn (heardKey ch h) = some x →
      (s.headTaken ch).standby = false → x.st = .rejoining → byteOf h.data 0 = 0 →
      runs (.cfgAck ch) s (fun t => t.fget (F.CAN_RX_RD_IOS_INDEX ch) = (s.headTaken ch).fget (F.CAN_RX_RD_IOS_INDEX ch)
       ∧ t.stnState (heardKey ch h) = .present ∧ ((t.stn (heardKey ch h)).map (·.everPresent)) = some true ∧ onlyScan s t)) ∧
  (∀ (ch : Fin 4) (h : Heard) (x : Stn) (s : State),
      s.awake = true → s.iosRuns = true → s.headFrame ch = some h → h.kind = .initReport → (s.headTaken ch).stn (heardKey ch h) = some x →
      (s.headTaken ch).standby = false → x.st = .configuring → x.exch = .initWait → h.ts / 1000000 < fullCycle h.ts (leOf h.data 0 2) + 64 →
      groupsOf (allIns x.image).length = 1 → (s.headTaken ch).mfp.startCycle = none →
      runs (.initReport ch) s (fun t => t.fget (F.CAN_RX_RD_IOS_INDEX ch) = (s.headTaken ch).fget (F.CAN_RX_RD_IOS_INDEX ch)
       ∧ t.stnState (heardKey ch h) = .ready ∧ onlyScan s t)) ∧
  (∀ (ch : Fin 4) (addr : Nat) (x : Stn) (s : State),
      s.awake = true → s.iosSends = true → s.stn (stnKey ch addr) = some x → x.st = .configuring → x.sent = true →
      runs (.cfgTimeout ch addr) s (fun t => (x.attempts < 2 → t.stnState (stnKey ch addr) = .configuring ∧ (t.stn (stnKey ch addr)).map (·.attempts) = some (x.attempts + 1))
       ∧ (2 ≤ x.attempts → t.stnState (stnKey ch addr) = .cfgFail) ∧ onlyScan s t)) ∧
  (∀ (ch : Fin 4) (addr : Nat) (x : Stn) (s : State),
      s.awake = true → s.iosSends = true → s.stn (stnKey ch addr) = some x → x.st = .rejoining → x.sent = true →
      runs (.outSetTimeout ch addr) s (fun t => (x.outTries < 2 → t.stnState (stnKey ch addr) = .rejoining)
       ∧ (2 ≤ x.outTries → t.stnState (stnKey ch addr) = .lost) ∧ (t.stn (stnKey ch addr)).map (·.outTries) = some (x.outTries + 1) ∧ onlyScan s t))

/-- START, PRESENT, the start timeout and missed cycles (R205, R206, R208, R209, R214). -/
def Obligations.ScanStart : Prop :=
  (∀ (s : State),
      s.awake = true → s.iosSends = true → s.mfp.hasTable = true → s.mfp.startCycle = none → s.mfp.stations.all (fun e => e.2.st == .ready) = true →
      runs (.start) s (fun t => t.mfp.startCycle = some ((s.now + 3099999) / 1000000) ∧ t.fget F.IOS_STAT_PHASE = 3 ∧ t.mfp.stations = s.mfp.stations
       ∧ onlyScan s t)) ∧
  (∀ (ns : Nat) (s : State),
      s.awake = true → s.iosSends = true → s.mfp.startCycle = some ns →
      runs (.stationPresent) s (fun t => s.mfp.stations.all (fun e => s.stnState e.1 != .ready || t.stnState e.1 == .present) = true ∧ onlyScan s t)) ∧
  (∀ (s : State),
      s.awake = true → s.iosSends = true → s.mfp.hasTable = true → s.fset F.IOS_STAT_TIMEOUT = false → s.fset F.IOS_STAT_IMAGE_FULL = false →
      s.mfp.startCycle = none → runs (.startTmo) s (fun t => t.fset F.IOS_STAT_TIMEOUT = true ∧ t.fget F.IOS_STAT_PHASE = 4
       ∧ t.fset F.TASK_STAT_RELEASE_OK = true ∧ t.mfp.startCycle.isSome = true ∧ cycMs s.startTmoMs ≤ t.cyc ∧ onlyScan s t)) ∧
  (∀ (s : State),
      s.awake = true → s.iosSends = true →
      runs (.stationMissedCycle) s (fun t => t.mfp.stdCycle = max s.mfp.stdCycle ((s.now - 1000000) / 50000000) + 1 ∧ onlyScan s t)) ∧
  (∀ (k : Nat) (x : Stn) (s : State),
      s.awake = true → s.iosSends = true → s.mfp.stations = [(k, x)] → x.st = .present →
      x.stdFrom ≤ max s.mfp.stdCycle ((s.now - 1000000) / 50000000) → x.seenStd = [] → x.missed = 2 →
      runs (.stationMissedCycle) s (fun t => t.stnState k = .lost ∧ (t.stn k).map (·.lostCount) = some (min 65535 (x.lostCount + 1))))

/-- Input, change-of-state and alarm frames of a PRESENT station (R187, R189, R190, R197, R212). -/
def Obligations.StationInputs : Prop :=
  (∀ (ch : Fin 4) (h : Heard) (c : Nat) (x : Stn) (rc : Nat) (s : State),
      s.awake = true → s.iosRuns = true → s.headFrame ch = some h → h.kind = .input c → (s.headTaken ch).stn (heardKey ch h) = some x →
      x.st = .present → seqFresh c h.ts (fullCycle h.ts (leOf h.data 0 2)) = true → byteOf h.data 3 = 1 →
      (recsOf x.image c false)[24 * h.group]? = some rc → (s.point (x.pids.getD rc 0)).written = false →
      runs (.mfpInputFrame ch) s (fun t => t.fget (F.CAN_RX_RD_IOS_INDEX ch) = (s.headTaken ch).fget (F.CAN_RX_RD_IOS_INDEX ch)
       ∧ (t.point (x.pids.getD rc 0)).value = extend16 (s.point (x.pids.getD rc 0)).ptype (leOf h.data 10 2)
       ∧ (t.point (x.pids.getD rc 0)).q = min 2 (leOf h.data 4 6 % 4) ∧ (t.point (x.pids.getD rc 0)).written = true ∧ onlyScan s t)) ∧
  (∀ (ch : Fin 4) (h : Heard) (c : Nat) (x : Stn) (s : State),
      s.awake = true → s.iosRuns = true → s.headFrame ch = some h → h.kind = .input c → (s.headTaken ch).stn (heardKey ch h) = some x →
      x.st = .present → seqFresh c h.ts (fullCycle h.ts (leOf h.data 0 2)) = false →
      runs (.mfpInputFrame ch) s (fun t => t.fget (F.CAN_RX_RD_IOS_INDEX ch) = (s.headTaken ch).fget (F.CAN_RX_RD_IOS_INDEX ch) ∧ t.points = s.points
       ∧ (t.rd R.IOS_STALE_FRAME).toNat = satCount (s.rd R.IOS_STALE_FRAME) 1 ∧ onlyScan s t)) ∧
  (∀ (ch : Fin 4) (h : Heard) (x : Stn) (s : State),
      s.awake = true → s.iosRuns = true → s.headFrame ch = some h → h.kind = .cos → (s.headTaken ch).stn (heardKey ch h) = some x → x.st = .present →
      byteOf h.data 0 = 1 → byteOf h.data 4 < recCount x.image → recOut x.image (byteOf h.data 4) = false →
      (s.point (x.pids.getD (byteOf h.data 4) 0)).written = false →
      runs (.mfpCosFrame ch) s (fun t => t.fget (F.CAN_RX_RD_IOS_INDEX ch) = (s.headTaken ch).fget (F.CAN_RX_RD_IOS_INDEX ch)
       ∧ (t.point (x.pids.getD (byteOf h.data 4) 0)).value = extend16 (s.point (x.pids.getD (byteOf h.data 4) 0)).ptype (leOf h.data 6 2)
       ∧ (t.point (x.pids.getD (byteOf h.data 4) 0)).written = true ∧ onlyScan s t)) ∧
  (∀ (ch : Fin 4) (h : Heard) (x : Stn) (s : State),
      s.awake = true → s.iosRuns = true → s.headFrame ch = some h → h.kind = .alarm → (s.headTaken ch).stn (heardKey ch h) = some x →
      x.st = .present → runs (.mfpAlarmFrame ch) s (fun t => t.fget (F.CAN_RX_RD_IOS_INDEX ch) = (s.headTaken ch).fget (F.CAN_RX_RD_IOS_INDEX ch)
       ∧ t.points = s.points ∧ t.mfp.stations = s.mfp.stations ∧ onlyScan s t))

/-- Output frames, the event FIFO and the staging of station firmware (R191, R206, R216, R538). -/
def Obligations.ScanOutputs : Prop :=
  (∀ (ch : Fin 4) (frame : Nat) (ns : Nat) (f : OutSlot) (s : State),
      s.awake = true → s.iosSends = true → s.mfp.startCycle = some ns → (s.mfp.outs.toList.getD ch [])[frame]? = some f →
      runs (.iosOutputBuild ch frame) s (fun t => (t.mfp.outs.toList.getD ch [])[frame]? = some { f with last := some (s.outPeriod f ns) }
       ∧ onlyScan s t)) ∧
  (∀ (req : Req) (e : Word) (l : List Word) (s : State),
      s.awake = true → s.opens req R.IOS_EVT = true → s.mfp.events = e :: l →
      runs (.iosEvtRead req) s (fun t => t = { s with mfp := { s.mfp with events := l }, resp := .data (e.zeroExtend 64) })) ∧
  (∀ (req : Req) (s : State),
      s.awake = true → s.opens req R.IOS_EVT = true → s.mfp.events = [] → runs (.iosEvtRead req) s (fun t => t = { s with resp := .data 0 })) ∧
  (∀ (ch : Fin 4) (g : Staging) (x : Stn) (s : State),
      s.awake = true → s.staging = true → s.stageOn ch = some g → g.phase = .waiting → s.stn (stnKey g.ch g.addr) = some x → x.st = .present →
      runs (.fwDataSend ch) s (fun t => (t.upd.stations = s.upd.stations.map (fun y => if sameStn y g then { g with phase := .begun, offset := 0, tries := 0, sentAt := s.monoNow, lost := x.lostCount } else y))
       ∧ onlyScan s t)) ∧
  (∀ (ch : Fin 4) (h : Heard) (x : Stn) (g : Staging) (s : State),
      s.awake = true → s.iosRuns = true → s.headFrame ch = some h → h.kind = .fwAck → (s.headTaken ch).stn (heardKey ch h) = some x →
      x.st = .present → (s.headTaken ch).staging = true → (s.headTaken ch).stageOn ch = some g → g.addr = h.addr → g.phase = .data →
      (s.headTaken ch).stageLost g = false → leOf h.data 0 4 < g.length →
      runs (.fwAck ch) s (fun t => t.fget (F.CAN_RX_RD_IOS_INDEX ch) = (s.headTaken ch).fget (F.CAN_RX_RD_IOS_INDEX ch)
       ∧ (t.upd.stations = s.upd.stations.map (fun y => if sameStn y g then { g with offset := leOf h.data 0 4, tries := 0 } else y)) ∧ onlyScan s t)) ∧
  (∀ (ch : Fin 4) (h : Heard) (x : Stn) (g : Staging) (s : State),
      s.awake = true → s.iosRuns = true → s.headFrame ch = some h → h.kind = .fwStat → (s.headTaken ch).stn (heardKey ch h) = some x →
      x.st = .present → (s.headTaken ch).staging = true → (s.headTaken ch).stageOn ch = some g → g.addr = h.addr → g.phase = .begun →
      (s.headTaken ch).stageLost g = false → byteOf h.data 0 = 1 →
      runs (.fwStat ch) s (fun t => t.fget (F.CAN_RX_RD_IOS_INDEX ch) = (s.headTaken ch).fget (F.CAN_RX_RD_IOS_INDEX ch)
       ∧ (t.upd.stations = s.upd.stations.map (fun y => if sameStn y g then { g with phase := .data, offset := 0, tries := 0 } else y)) ∧ onlyScan s t))

/-- Releases, triggers, the end of the copy and the budget of a task (R220, R228, R229, R230, R237, R238, R240, R252, R253). -/
def Obligations.TaskReleases : Prop :=
  (∀ (n : Fin 16) (s : State),
      s.live = true → s.fset (F.TASK_TCFG_EN n) = true → (s.reach (s.nextInstant n)).stepDue = false → (s.task n).clearAtPub = false →
      (s.reach (s.nextInstant n)).dueOf n = .release → (s.task n).holdUntil ≤ (s.reach (s.nextInstant n)).monoNow → s.untested (taskArea n) = true →
      runs (.taskRelease n) s (fun t => (t.task n).st = .latching ∧ (t.task n).relTime = s.nextInstant n ∧ (t.task n).lastRel = s.nextInstant n
       ∧ (t.task n).cycle = ((s.task n).cycle + 1) % 2 ^ 32 ∧ (t.task n).snap.length = s.fget (F.TASK_LISTS_N_IN n)
       ∧ t.le (taskArea n) 8 = s.nextInstant n % 2 ^ 64 ∧ t.le (taskArea n + 24) 4 = (t.task n).cycle
       ∧ t.le (taskArea n + 28) 2 = min 0xFFFF (s.task n).skipped ∧ (t.task n).skipped = 0 ∧ memKept s t (inRange (taskArea n) (taskArea n + 64))
       ∧ t.points = s.points)) ∧
  (∀ (n : Fin 16) (s : State),
      s.live = true → s.fset (F.TASK_TCFG_EN n) = true → (s.reach (s.nextInstant n)).stepDue = false → (s.task n).clearAtPub = false →
      (s.reach (s.nextInstant n)).dueOf n = .overrun → runs (.taskRelease n) s (fun t => (t.task n).st = (s.task n).st
       ∧ (t.task n).skipped = min 0xFFFF ((s.task n).skipped + 1) ∧ (t.rd (R.TASK_OVR_CNT n)).toNat = satCount (s.rd (R.TASK_OVR_CNT n)) 1
       ∧ (t.rd R.TASK_OVR_TOTAL).toNat = satCount (s.rd R.TASK_OVR_TOTAL) 1 ∧ t.bit (R.INT_RAW Pg.TASK) (Ev.TASK_OVR_AC0 + s.taskCore n) = true
       ∧ t = { s.atTimeOf t with regs := t.regs, tasks := t.tasks, cairn := t.cairn }
       ∧ regsKept s t ([R.TASK_OVR_CNT n, R.TASK_OVR_TOTAL, R.INT_RAW Pg.TASK] ++ recordRegs))) ∧
  (∀ (n : Fin 16) (s : State),
      s.live = true → s.fset (F.TASK_TCFG_EN n) = true → (s.reach (s.nextInstant n)).stepDue = false → (s.task n).clearAtPub = false →
      ((s.reach (s.nextInstant n)).dueOf n = .skip ∨ (s.reach (s.nextInstant n)).dueOf n = .held) →
      runs (.taskRelease n) s (fun t => (t.task n).st = (s.task n).st ∧ (t.task n).skipped = min 0xFFFF ((s.task n).skipped + 1)
       ∧ t = { s.atTimeOf t with tasks := t.tasks })) ∧
  (∀ (g : Trig) (l : List Trig) (n : Nat) (s : State),
      s.awake = true → s.trigs = g :: l → g.tasks = [n] → (s.task n).st = .latching → n < 48 → s.untested (taskArea n) = true →
      runs (.taskTrigger) s (fun t => t.trigs = l ∧ (t.task n).st = .latching ∧ (t.task n).trig = some g ∧ (t.task n).relTime = g.time
       ∧ (t.task n).relMono = g.mono ∧ t.le (taskArea n) 8 = g.time % 2 ^ 64 ∧ t.le (taskArea n + 72) 8 = g.time % 2 ^ 64
       ∧ (t.task n).snap.length = s.fget (F.TASK_LISTS_N_IN n) ∧ memKept s t (inRange (taskArea n) (taskArea n + 128)))) ∧
  (∀ (n : Fin 48) (s : State),
      s.awake = true → s.latchEngineAt n = true → s.untested (taskArea n + 0x100) = true → (s.task n).snap.length ≤ 1024 →
      runs (.taskLatchDone n) s (fun t => (t.task n).st = .released ∧ (t.task n).snap = []
       ∧ (∀ k, k < (s.task n).snap.length → t.le (taskArea n + 0x100 + 8 * k) 8 = ((s.task n).snap.getD k 0).toNat)
       ∧ memKept s t (inRange (taskArea n + 0x100) (taskArea n + 0x100 + 8 * (s.task n).snap.length)) ∧ t.points = s.points
       ∧ (t.bit (R.INT_RAW Pg.TASK) (Ev.TASK_REL_AC0 + s.taskCore n) = true ∨ t.dispatchable (s.taskCore n) = s.dispatchable (s.taskCore n) ∨ s.enabled Pg.TASK = false))) ∧
  (∀ (n : Fin 48) (s : State),
      s.awake = true → (s.task n).st.busy = true → (s.task n).budget ≠ 0 → (s.task n).budgetHit = false →
      runs (.taskBudgetExpire n) s (fun t => (t.task n).budgetHit = true ∧ (t.task n).st = (s.task n).st
       ∧ (s.enabled Pg.TASK = true → t.bit (R.INT_RAW Pg.TASK) (Ev.TASK_BUDGET_AC0 + s.taskCore n) = true)
       ∧ t = { s.atTimeOf t with regs := t.regs, tasks := t.tasks, cairn := t.cairn } ∧ regsKept s t (R.INT_RAW Pg.TASK :: recordRegs))) ∧
  (∀ (req : Req) (k : Fin 32) (s : State),
      s.awake = true → s.opens req R.TASK_SW_TRIG = true → s.fset (F.TASK_TCFG_EN (k.val + 16)) = true → s.fget (F.TASK_TRIG_KIND (k.val + 16)) = 6 →
      (s.task (k.val + 16)).enAt ≠ some s.cyc → s.dueOf (k.val + 16) = .release →
      runs (.swTrig req (BitVec.ofNat 32 (2 ^ k.val))) s (fun t => t.trigs = s.trigs ++ [⟨6, k, 0, false, s.now, s.monoNow, [k.val + 16]⟩]
       ∧ (t.task (k.val + 16)).st = .latching ∧ (∀ n, n ≠ k.val + 16 → t.task n = s.task n)
       ∧ t = { s with regs := t.regs, tasks := t.tasks, trigs := t.trigs, ochg := t.ochg, resp := .data 0 } ∧ regsKept s t [R.BLK_STAT Pg.TASK]))

/-- Dispatch, commit, publish and the enabling of tasks (R221, R232, R233, R234, R235, R248, R251). -/
def Obligations.TaskService : Prop :=
  (∀ (req : Req) (c : Fin 2) (n : Nat) (s : State),
      s.awake = true → s.opens req (dispatchKey c) = true → s.dispatchable c = some n →
      runs (.dispatch req c) s (fun t => t.resp = .data ((BitVec.ofNat 32 (0x80000000 + n)).zeroExtend 64) ∧ (t.task n).st = .running
       ∧ t.runStack c = n :: s.runStack c ∧ t = { s with tasks := t.tasks, running := t.running, resp := t.resp })) ∧
  (∀ (req : Req) (c : Fin 2) (s : State),
      s.awake = true → s.opens req (dispatchKey c) = true → s.dispatchable c = none →
      runs (.dispatch req c) s (fun t => t = { s with resp := .data 0 })) ∧
  (∀ (req : Req) (c : Fin 2) (n : BitVec 6) (s : State),
      s.awake = true → s.opens req (commitKey c) = true → s.runningTask c = some n.toNat →
      runs (.commit req c n) s (fun t => t = { s with tasks := t.tasks, resp := .data 0 } ∧ t.task n.toNat = { s.task n.toNat with st := .committing })) ∧
  (∀ (req : Req) (c : Fin 2) (n : BitVec 6) (s : State),
      s.awake = true → s.opens req (commitKey c) = true → s.runningTask c ≠ some n.toNat →
      runs (.commit req c n) s (fun t => onlyAnswer s t 0 [R.BLK_FAULT Pg.TASK] ∧ t.fset F.TASK_FAULT_BAD_COMMIT = true)) ∧
  (∀ (n : Fin 48) (p q : Nat) (v : Word) (s : State),
      s.awake = true → (s.task n).st = .committing → s.publishEntries n = [(p, v, q)] → s.forceOn p = none → s.pointBad p = false →
      s.untested (pointAddr p) = true →
      runs (.taskPublish n) s (fun t => ((t.task n).st = (if s.fset (F.TASK_TCFG_EN n) then .waiting else .disabled)) ∧ (t.view p).value = v
       ∧ (t.view p).q = q ∧ (t.point p).inst = s.monoNow ∧ n.val ∉ t.runStack (s.taskCore n) ∧ t.mem = s.mem
       ∧ (s.ecc = [] → t = { s with regs := t.regs, points := t.points, prior := t.prior, priorAt := t.priorAt, ecc := t.ecc, trigs := t.trigs, cairn := t.cairn, tasks := t.tasks, running := t.running, bel := t.bel, ochg := t.ochg, pins := t.pins } ∧ pagesKept s t [Pg.TASK, Pg.LIO, Pg.CAIRN]))) ∧
  (∀ (req : Req) (n : Fin 48) (s : State),
      s.awake = true → s.opens req (R.TASK_TCFG n) = true → s.fset (F.TASK_TCFG_EN n) = false → s.taskValid n = true → (s.task n).st = .disabled →
      runs (.taskEnable req n) s (fun t => t.fset (F.TASK_TCFG_EN n) = true ∧ (t.task n).st = .waiting ∧ (t.task n).cycle = 0
       ∧ (t.task n).first = true ∧ (t.task n).notBefore = s.monoNow + 100000
       ∧ (s.ecc = [] → t = { s with regs := t.regs, tasks := t.tasks, resp := .data 0 } ∧ regsKept s t [R.TASK_TCFG n, R.TASK_OVR_CNT n]))) ∧
  (∀ (req : Req) (n : Fin 48) (s : State),
      s.awake = true → s.opens req (R.TASK_TCFG n) = true → s.fset (F.TASK_TCFG_EN n) = false → s.taskValid n = false →
      runs (.taskEnable req n) s (fun t => t.fset (F.TASK_TCFG_EN n) = false ∧ t.tasks = s.tasks
       ∧ (s.ecc = [] → onlyAnswer s t 0 [R.BLK_FAULT Pg.TASK]) ∧ t.fset F.TASK_FAULT_LIST = true)) ∧
  (∀ (req : Req) (n : Fin 48) (s : State),
      s.awake = true → s.opens req (R.TASK_TCFG n) = true → runs (.taskDisable req n) s (fun t => t.fset (F.TASK_TCFG_EN n) = false
       ∧ ((t.task n).st = (if (s.task n).st = .running ∨ (s.task n).st = .committing then (s.task n).st else .disabled))
       ∧ t = { s with regs := t.regs, tasks := t.tasks, trigs := t.trigs, resp := .data 0 }
       ∧ (t.trigs = (if (s.task n).st = .running ∨ (s.task n).st = .committing ∨ (s.task n).st = .disabled then s.trigs else s.trigs.map (fun g => { g with tasks := g.tasks.filter (· != n.val) })))
       ∧ regsKept s t [R.TASK_TCFG n, R.BLK_STAT Pg.TASK, R.INT_RAW Pg.TASK]))

/-- The image keeper and the force table (R226, R269, R270, R271, R272, R273, R277). -/
def Obligations.ImageAndForces : Prop :=
  (∀ (pid : Nat) (s : State),
      s.awake = true → pid < pointCount → runs (.imageKeeperVisit pid) s (fun t => t = { s with points := t.points }
       ∧ ((s.point pid).written = true ∧ 0x800000 * 8192 ≤ s.monoNow - (s.point pid).inst → t.point pid = { s.point pid with aged := true })
       ∧ (¬ ((s.point pid).written = true ∧ 0x800000 * 8192 ≤ s.monoNow - (s.point pid).inst) → t = s) ∧ (∀ p, p ≠ pid → t.point p = s.point p))) ∧
  (∀ (req : Req) (entry : Fin 512) (w : Word64) (s : State),
      s.awake = true → s.forceGrant req = true → s.ochg.st = .idle → forceEn w = true → forcePid w < pointCount →
      (s.point (forcePid w)).src ≠ .none → s.forceOn (forcePid w) = none → (s.force entry).status ≠ .active →
      runs (.forceStore req entry w) s (fun t => (t.force entry).status = .active ∧ (t.force entry).pid = forcePid w
       ∧ (t.view (forcePid w)).value = forceValue w ∧ (t.view (forcePid w)).q = forceQ w ∧ (t.view (forcePid w)).forced = true
       ∧ t.fset F.SYS_STAT_FORCE_ACT = true
       ∧ t = { s with regs := t.regs, points := t.points, prior := t.prior, priorAt := t.priorAt, tasks := t.tasks, ochg := t.ochg, forces := t.forces, trigs := t.trigs, cairn := t.cairn, pins := t.pins, resp := .data 0 }
       ∧ pagesKept s t [Pg.SYS, Pg.LIO, Pg.CAIRN] ∧ (∀ p, p ≠ forcePid w → t.point p = s.point p))) ∧
  (∀ (req : Req) (entry : Fin 512) (w : Word64) (s : State),
      s.awake = true → s.forceGrant req = true → s.ochg.st = .idle → forceEn w = true → forcePid w < pointCount →
      (s.point (forcePid w)).src ≠ .none → s.forceOn (forcePid w) ≠ none → (s.force entry).status ≠ .active →
      runs (.forceStore req entry w) s (fun t => (t.force entry).status = .refusedDup ∧ t.points = s.points
       ∧ t.view (forcePid w) = s.view (forcePid w) ∧ (∀ k, k ≠ entry.val → t.force k = s.force k)
       ∧ t = { s with regs := t.regs, points := t.points, prior := t.prior, priorAt := t.priorAt, tasks := t.tasks, ochg := t.ochg, forces := t.forces, trigs := t.trigs, cairn := t.cairn, pins := t.pins, resp := .data 0 })) ∧
  (∀ (req : Req) (entry : Fin 512) (w : Word64) (s : State),
      s.awake = true → s.forceGrant req = true → s.ochg.st = .idle → forceEn w = false → (s.force entry).status = .active →
      runs (.forceStore req entry w) s (fun t => (t.force entry).status = .released ∧ (t.force entry).relTime = s.now
       ∧ (∀ k, k ≠ entry.val → t.force k = s.force k)
       ∧ t = { s with regs := t.regs, points := t.points, prior := t.prior, priorAt := t.priorAt, tasks := t.tasks, ochg := t.ochg, forces := t.forces, trigs := t.trigs, cairn := t.cairn, pins := t.pins, resp := .data 0 }
       ∧ pagesKept s t [Pg.SYS, Pg.LIO, Pg.CAIRN])) ∧
  (∀ (req : Req) (entry : Fin 512) (w : Word64) (s : State),
      s.awake = true → s.forceGrant req = true → (s.ochg.st = .switching ∨ s.ochg.st = .copied) →
      runs (.forceStore req entry w) s (fun t => t = { s with ochg := { s.ochg with heldStores := s.ochg.heldStores ++ [(entry.val, w)] }, resp := .data 0 })) ∧
  (∀ (req : Req) (entry : Fin 512) (w : Word64) (s : State),
      s.awake = true → s.forceGrant req = false → runs (.forceStore req entry w) s (fun t => t.resp = .storeFault
       ∧ t = { s with regs := t.regs, resp := t.resp, cairn := t.cairn, denyRate := t.denyRate } ∧ pagesKept s t [Pg.SYS, Pg.CMPT, Pg.CAIRN]))

/-- Arming, cancelling, the switch and the record of an online change (R254, R257, R260, R261, R262, R263, R266, R267, R551). -/
def Obligations.OnlineChange : Prop :=
  (∀ (core : Fin 4) (sigOk digestOk partnerOk : Bool) (s : State),
      s.awake = true → s.upd.hold = false → s.fset (F.ANC_RSP_BUSY core) = false → s.trust.otp.decom = false → s.coreComp0 core = true →
      s.ochg.st = .idle → s.updBusy = false → blockOk (s.bytesAt (mboxBuf core + 64) 16) s.programKey sigOk = true →
      s.progHeaderOk (s.bytesAt (mboxBuf core) 64) digestOk = true → s.pkgFail s.spareBase = none →
      (s.paired = true → s.fget F.BEL_ROLE_PAIR = 3 ∧ partnerOk = true) → s.ecc.all (fun e => eccInst e.1 != some 5) = true →
      runs (.ochgArm core sigOk digestOk partnerOk) s (fun t => (t.ochg.st = (if s.gapTest.gapHere then .switching else .armed))
       ∧ t.ochg.limit = s.monoNow + 10000000000 ∧ t.ochg.bank = s.cellsOf s.spareBase ∧ t.ochg.header = s.bytesAt (mboxBuf core) 64
       ∧ t.ochg.changeId = BitVec.ofNat 32 (s.pkgId s.spareBase) ∧ t.fset (F.ANC_RSP_BUSY core) = true
       ∧ t = { s with regs := t.regs, ochg := t.ochg, tasks := t.tasks, cairn := t.cairn, draws := t.draws, bel := { s.bel with pkg := t.bel.pkg } }
       ∧ pagesKept s t [Pg.ANC, Pg.CAIRN])) ∧
  (∀ (core : Fin 4) (sigOk digestOk partnerOk : Bool) (s : State),
      s.awake = true → s.upd.hold = false → s.fset (F.ANC_RSP_BUSY core) = false → s.trust.otp.decom = false → s.coreComp0 core = true →
      (s.ochg.st ≠ .idle ∨ s.updBusy = true) → s.ecc.all (fun e => eccInst e.1 != some 5) = true →
      runs (.ochgArm core sigOk digestOk partnerOk) s (fun t => t.bytesAt (mboxBuf core) 24 = ochgAnswer 5 (boolNat s.ochg.bankB) 0 (s.pkgId s.spareBase) 0 0 0 0
       ∧ t.ochg = { s.ochg with answer := t.ochg.answer } ∧ memKept s t (inRange (mboxBuf core) (mboxBuf core + 24))
       ∧ t.fset (F.ANC_RSP_BUSY core) = false ∧ t.fset (F.ANC_RSP_DONE core) = true ∧ pagesKept s t [Pg.ANC])) ∧
  (∀ (core : Fin 4) (s : State),
      s.awake = true → s.upd.hold = false → s.fset (F.ANC_RSP_BUSY core) = false → s.trust.otp.decom = false → s.coreComp0 core = true →
      s.ochg.st = .armed → s.gapHere = false → s.ecc.all (fun e => eccInst e.1 != some 5) = true →
      runs (.ochgCancel core) s (fun t => t.ochg.st = .idle
       ∧ t.bytesAt (mboxBuf core) 24 = ochgAnswer 2 (boolNat s.ochg.bankB) 0 s.ochg.changeId.toNat 0 0 0 0
       ∧ t.fset (F.ANC_RSP_BUSY core) = false ∧ t.fset (F.ANC_RSP_DONE core) = true
       ∧ (s.ecc = [] → s.untested (mboxBuf core) = true → t = { s with regs := t.regs, ochg := t.ochg, mem := t.mem, cairn := t.cairn, draws := t.draws } ∧ pagesKept s t [Pg.ANC, Pg.CAIRN]))) ∧
  (∀ (s : State),
      s.awake = true → s.ochg.st = .armed → s.ochg.core < 4 → (s.reachMono s.ochg.limit).gapHere = false →
      runs (.ochgTimeout) s (fun t => t.ochg.st = .idle
       ∧ t.bytesAt (mboxBuf s.ochg.core) 24 = ochgAnswer 1 (boolNat s.ochg.bankB) 0 s.ochg.changeId.toNat 0 0 0 0
       ∧ memKept s t (inRange (mboxBuf s.ochg.core) (mboxBuf s.ochg.core + 24))
       ∧ (s.ecc = [] → s.untested (mboxBuf s.ochg.core) = true → t = { s.atTimeOf t with regs := t.regs, ochg := t.ochg, mem := t.mem, cairn := t.cairn, draws := t.draws } ∧ pagesKept s t [Pg.ANC, Pg.CAIRN]))) ∧
  (∀ (s : State),
      s.awake = true → s.ochg.st = .armed → s.gapHere = true → s.bel.swap = none → s.fget F.UPD_STAT_STATE = 0 →
      runs (.quiescentGap) s (fun t => t.ochg = { s.ochg with st := .switching, held := true, gapTime := s.now, trigSkip := 0 }
       ∧ (∀ n, t.task n = { s.task n with heldTrigs := 0 })
       ∧ t = { s with regs := t.regs, ochg := t.ochg, tasks := t.tasks, cairn := t.cairn, draws := t.draws } ∧ regsKept s t recordRegs)) ∧
  (∀ (src dst len : Nat) (s : State),
      s.awake = true → s.ochg.st = .switching → s.pkgMaps s.spareBase = 1 → s.pkgMap s.spareBase 0 = (src, dst, len) →
      s.pkgMapOk s.spareBase 0 = true → s.pkgPchgs s.spareBase = 0 → s.pkgTasks s.spareBase = false → s.ecc = [] →
      s.untested (s.spareBase + dst) = true → runs (.carryOverDone) s (fun t => t.ochg.st = .copied ∧ t.ochg.carried = len
       ∧ t.bytesAt (s.spareBase + dst) len = s.bytesAt (s.bankBase + src) len ∧ memKept s t (inRange (s.spareBase + dst) (s.spareBase + dst + len))
       ∧ t.regs = s.regs ∧ t.points = s.points ∧ t.tasks = s.tasks)) ∧
  (∀ (s : State),
      s.awake = true → s.ochg.st = .copied → s.ochg.core < 4 → s.ochg.heldStores = [] → s.fset (F.ANC_RSP_BUSY s.ochg.core) = true →
      runs (.ochgSwitchDone) s (fun t => t.ochg.st = .idle ∧ t.ochg.held = false ∧ t.ochg.bankB = !s.ochg.bankB ∧ t.ochg.recordDue = true
       ∧ t.boot.entry.get 0 = s.spareBase + s.pkgEntry s.spareBase ∧ t.boot.entry.get 1 = s.spareBase + s.pkgEntry s.spareBase
       ∧ t.boot.entry.get 2 = s.boot.entry.get 2
       ∧ t.bytesAt (mboxBuf s.ochg.core) 24 = ochgAnswer 0 (boolNat (!s.ochg.bankB)) 0 s.ochg.changeId.toNat s.ochg.gapTime s.ochg.carried s.ochg.fRel s.ochg.trigSkip
       ∧ memKept s t (inRange (mboxBuf s.ochg.core) (mboxBuf s.ochg.core + 24)) ∧ pagesKept s t [Pg.ANC, Pg.CAIRN] ∧ t.points = s.points
       ∧ t.flash = s.flash)) ∧
  (∀ (s : State),
      s.awake = true → s.ochg.recordDue = true → runs (.ochgRecordDone) s (fun t => (t.prog s.nextProg).valid = true
       ∧ (t.prog s.nextProg).header = s.ochg.header ∧ (t.prog s.nextProg).block = s.ochg.block ∧ (t.prog s.nextProg).bank = s.ochg.bank
       ∧ (∀ k, k ≠ s.nextProg → t.prog k = s.prog k)
       ∧ t = { s with ochg := { s.ochg with recordDue := false }, flash := { s.flash with progs := t.flash.progs } }))

/-- Submission and storage of records, the loss record and the index record (R501, R503, R504, R506, R518). -/
def Obligations.RecorderIntake : Prop :=
  (∀ (r : CairnRec) (s : State),
      s.awake = true → s.cairn.queue.length < 1024 →
      runs (.cairnRecordSubmit r) s (fun t => t = { s with cairn := { s.cairn with queue := s.cairn.queue ++ [{ num := s.cairn.nextNum, cls := r.cls.toNat, sev := r.sev.val, comp := r.comp.toNat, time := r.time.toNat, payload := r.payload.take 240 }], nextNum := s.cairn.nextNum + 1, accCyc := s.cyc, accFrom := t.cairn.accFrom } })) ∧
  (∀ (r : CairnRec) (s : State),
      s.awake = true → 1024 ≤ s.cairn.queue.length →
      runs (.cairnRecordSubmit r) s (fun t => t = { s with regs := t.regs, cairn := { s.cairn with lost := t.cairn.lost } } ∧ regsKept s t recordRegs
       ∧ (t.rd R.CAIRN_DROP_BUSY).toNat = satCount (s.rd R.CAIRN_DROP_BUSY) 1 ∧ (t.cairn.lost.map (·.1)) = some ((s.cairn.lost.map (·.1)).getD 0 + 1))) ∧
  (∀ (r : Rec) (q : List Rec) (k : Nat) (s : State),
      s.awake = true → s.cairn.queue = r :: q → s.cairn.clearMark < r.num → s.freeSlot = some k →
      runs (.cairnRecordStore) s (fun t => tabFind t.cairn.slots k = some { r with test := s.fget F.CAIRN_STAT_MODE == 2 } ∧ t.cairn.queue = q
       ∧ t.cairn.slots = tabPut s.cairn.slots k { r with test := s.fget F.CAIRN_STAT_MODE == 2 }
       ∧ t = { s with regs := t.regs, cairn := { s.cairn with slots := t.cairn.slots, queue := q, dropSeen := t.cairn.dropSeen, stoCyc := s.cyc, stoFrom := t.cairn.stoFrom } }
       ∧ regsKept s t [R.BLK_STAT Pg.CAIRN, R.INT_RAW Pg.CAIRN])) ∧
  (∀ (n a b sev : Nat) (s : State),
      s.awake = true → s.cairn.queue = [] → s.cairn.lost = some (n, a, b, sev) →
      runs (.cairnLoss) s (fun t => t = { s with cairn := { s.cairn with lost := none, queue := [{ num := s.cairn.nextNum, cls := 0x282, sev := 4, comp := 0, time := s.now, payload := natLe 2 Pg.CAIRN ++ natLe 2 noBit ++ (natLe 4 n ++ natLe 8 a ++ natLe 8 b ++ [BitVec.ofNat 8 sev]) }], nextNum := s.cairn.nextNum + 1, accCyc := s.cyc, accFrom := t.cairn.accFrom } })) ∧
  (∀ (s : State),
      s.awake = true → s.fset F.CAIRN_STAT_INDEX_READY = false → s.cairn.queue.length < 1024 →
      runs (.cairnIndexReady) s (fun t => t.fset F.CAIRN_STAT_INDEX_READY = true ∧ t.cairn.slots = s.cairn.slots
       ∧ t.cairn.queue = s.cairn.queue ++ [{ num := s.cairn.nextNum, cls := 0x283, sev := recSev Pg.CAIRN 0x283, comp := 0, time := s.now, payload := natLe 2 Pg.CAIRN ++ natLe 2 noBit ++ natLe 4 s.cairn.slots.length }]
       ∧ t = { s with regs := t.regs, cairn := { s.cairn with queue := t.cairn.queue, nextNum := s.cairn.nextNum + 1, dropSeen := t.cairn.dropSeen, accCyc := s.cyc, accFrom := t.cairn.accFrom } }
       ∧ regsKept s t [R.BLK_STAT Pg.CAIRN, R.INT_RAW Pg.CAIRN]))

/-- CLEAR, the TEST mode and the summaries (R506, R513, R515, R516, R519). -/
def Obligations.RecorderModes : Prop :=
  (∀ (req : Req) (s : State),
      s.awake = true → s.opens req R.CAIRN_CMD = true → s.cairn.queue.length < 1024 →
      runs (.clear req) s (fun t => t.cairn.slots = s.cairn.slots.filter (fun e => decide ((s.pair R.CAIRN_CLEAR_TO_LO R.CAIRN_CLEAR_TO_HI) < e.2.num))
       ∧ t.cairn.clearMark = max s.cairn.clearMark (min (s.pair R.CAIRN_CLEAR_TO_LO R.CAIRN_CLEAR_TO_HI) s.acceptedTo)
       ∧ (t.cairn.queue.drop s.cairn.queue.length).map (fun r => (r.cls, r.sev)) = [(0x280, 5)]
       ∧ t = { s with regs := t.regs, cairn := { s.cairn with slots := t.cairn.slots, clearMark := t.cairn.clearMark, queue := t.cairn.queue, nextNum := s.cairn.nextNum + 1, accCyc := s.cyc, accFrom := t.cairn.accFrom }, resp := .data 0 }
       ∧ regsKept s t [R.BLK_STAT Pg.CAIRN])) ∧
  (∀ (req : Req) (s : State),
      s.awake = true → s.opens req R.CAIRN_CMD = true → s.fget F.CAIRN_STAT_MODE = 1 →
      (s.fget F.RST_LC_STAT_STATE = 0 ∨ s.fget F.RST_LC_STAT_STATE = 3) → runs (.testEnter req) s (fun t => t.fget F.CAIRN_STAT_MODE = 2
       ∧ t.cairn.slots = s.cairn.slots ∧ t = { s with regs := t.regs, cairn := t.cairn, resp := .data 0 }
       ∧ regsKept s t (R.BLK_STAT Pg.CAIRN :: recordRegs))) ∧
  (∀ (req : Req) (s : State),
      s.awake = true → s.opens req R.CAIRN_CMD = true →
      (s.fget F.CAIRN_STAT_MODE ≠ 1 ∨ (s.fget F.RST_LC_STAT_STATE ≠ 0 ∧ s.fget F.RST_LC_STAT_STATE ≠ 3)) →
      runs (.testEnter req) s (fun t => t.fset F.CAIRN_FAULT_BAD_CMD = true ∧ onlyAnswer s t 0 [R.BLK_FAULT Pg.CAIRN])) ∧
  (∀ (req : Req) (s : State),
      s.awake = true → s.opens req R.CAIRN_CMD = true → s.fget F.CAIRN_STAT_MODE = 2 → runs (.testLeave req) s (fun t => t.fget F.CAIRN_STAT_MODE = 1
       ∧ t.cairn.slots = s.cairn.slots ∧ t = { s with regs := t.regs, cairn := t.cairn, resp := .data 0 }
       ∧ regsKept s t (R.BLK_STAT Pg.CAIRN :: recordRegs))) ∧
  (∀ (p : Nat) (x : Summary) (s : State),
      s.awake = true → s.fset F.CAIRN_STAT_SUMMIT = true → s.isActive = true → s.cairn.sums = [(p, x)] → x.nEvt ≠ 0 → s.cairn.queue.length < 1024 →
      (s.reach s.cairn.sumEnd).stepDue = false → runs (.pointSummary) s (fun t => t.cairn.sums = [] ∧ t.cairn.sumOpen = s.cairn.sumEnd
       ∧ t.cairn.sumEnd = s.sumBoundary s.cairn.sumEnd
       ∧ t.cairn.queue = s.cairn.queue ++ [{ num := s.cairn.nextNum, cls := 0x2C1, sev := 1, comp := tabGet (fun _ => 0) s.ownPoints p, summary := true, time := s.cairn.sumEnd, payload := summaryPayload p x s.cairn.sumOpen s.cairn.sumStepped s.cairn.sumPartial }]
       ∧ t = { s.atTimeOf t with cairn := t.cairn }))

/-- FIRST, NEXT, LAST, SUBMIT and the end of a search (R508, R509, R510, R511, R512). -/
def Obligations.ReaderContexts : Prop :=
  (∀ (k : Fin 5) (s : State),
      s.awake = true → s.ctxOpen k = true → (s.ctx k).busy = none →
      runs (.first k) s (fun t => (t.ctx k = { s.ctx k with busy := some (1, (if k.val = 4 then none else some (s.compOf (ctxReq k))), s.storedTo) })
       ∧ t = { s with cairn := { s.cairn with ctx := t.cairn.ctx }, resp := .data 0 } ∧ (∀ j, j ≠ k.val → t.ctx j = s.ctx j))) ∧
  (∀ (k : Fin 5) (s : State),
      s.awake = true → s.ctxOpen k = true → (s.ctx k).busy = none →
      runs (.next k) s (fun t => (t.ctx k = { s.ctx k with busy := some (2, (if k.val = 4 then none else some (s.compOf (ctxReq k))), s.storedTo) })
       ∧ t = { s with cairn := { s.cairn with ctx := t.cairn.ctx }, resp := .data 0 } ∧ (∀ j, j ≠ k.val → t.ctx j = s.ctx j))) ∧
  (∀ (k : Fin 5) (s : State),
      s.awake = true → s.ctxOpen k = true → (s.ctx k).busy = none →
      runs (.last k) s (fun t => (t.ctx k = { s.ctx k with busy := some (3, (if k.val = 4 then none else some (s.compOf (ctxReq k))), s.storedTo) })
       ∧ t = { s with cairn := { s.cairn with ctx := t.cairn.ctx }, resp := .data 0 } ∧ (∀ j, j ≠ k.val → t.ctx j = s.ctx j))) ∧
  (∀ (k : Fin 5) (s : State),
      s.awake = true → s.ctxOpen k = true → (s.ctx k).busy ≠ none → runs (.first k) s (fun t => t.ctx k = { s.ctx k with result := 3 }
       ∧ t = { s with cairn := { s.cairn with ctx := t.cairn.ctx }, resp := .data 0 })) ∧
  (∀ (k : Fin 5) (op last : Nat) (comp : Option Nat) (r : Rec) (s : State),
      s.awake = true → (s.ctx k).busy = some (op, comp, last) → cairnSearch s.cairn.slots op (s.ctx k).cursor last (s.ctx k).filter comp = some r →
      runs (.cairnSearchDone k) s (fun t => t.ctx k = { s.ctx k with win := some r, num := r.num, cursor := r.num, result := 1, busy := none }
       ∧ t = { s with cairn := { s.cairn with ctx := t.cairn.ctx } } ∧ (∀ j, j ≠ k.val → t.ctx j = s.ctx j))) ∧
  (∀ (k : Fin 5) (op last : Nat) (comp : Option Nat) (s : State),
      s.awake = true → (s.ctx k).busy = some (op, comp, last) → cairnSearch s.cairn.slots op (s.ctx k).cursor last (s.ctx k).filter comp = none →
      runs (.cairnSearchDone k) s (fun t => t.ctx k = { s.ctx k with result := 2, busy := none }
       ∧ t = { s with cairn := { s.cairn with ctx := t.cairn.ctx } })) ∧
  (∀ (k : Fin 5) (h : Word64) (s : State),
      s.awake = true → k.val < 4 → s.session (ctxReq k) = some 0 → (s.ctx k).busy = none → leNat ((s.ctx k).subBytes 0 8) = h.toNat →
      0x300 ≤ bits64 h 17 8 → bits64 h 7 0 ≤ 240 → s.cairn.queue.length < 1024 → runs (.submit k) s (fun t => (t.ctx k).result = 1
       ∧ (t.cairn.queue.drop s.cairn.queue.length).map (fun r => (r.num, r.cls, r.sev, r.fw, r.payload)) = [(s.cairn.nextNum, bits64 h 17 8, bits64 h 20 18, true, (s.ctx k).subBytes 16 (bits64 h 7 0))]
       ∧ t = { s with cairn := { s.cairn with queue := t.cairn.queue, nextNum := s.cairn.nextNum + 1, ctx := t.cairn.ctx, accCyc := s.cyc, accFrom := t.cairn.accFrom }, resp := .data 0 })) ∧
  (∀ (k : Fin 5) (h : Word64) (s : State),
      s.awake = true → k.val < 4 → s.ctxOpen k = true → (s.ctx k).busy = none → leNat ((s.ctx k).subBytes 0 8) = h.toNat → bits64 h 17 8 < 0x300 →
      runs (.submit k) s (fun t => (t.ctx k).result = 3 ∧ t.fset F.CAIRN_FAULT_SUB_REFUSED = true
       ∧ t = { s with regs := t.regs, cairn := { s.cairn with ctx := t.cairn.ctx }, resp := .data 0 } ∧ regsKept s t [R.BLK_FAULT Pg.CAIRN]))

/-- Sample instants, missed deadlines and lane faults (R279, R286, R288, R309). -/
def Obligations.LoopInstants : Prop :=
  (∀ (slot : Fin 512) (s : State),
      s.awake = true → s.laneRuns (slot.val % 4) = true → s.slotOn slot = true → (s.loopx slot).due = none →
      runs (.loopSample slot) s (fun t => (t.loopx slot).due = some (s.nextSample slot) ∧ (t.loopx slot).lastInst = s.nextSample slot
       ∧ (t.loopx slot).dueCyc = t.cyc ∧ (∀ k, k ≠ slot.val → t.loopx k = s.loopx k) ∧ t = { s.atTimeOf t with loops := t.loops })) ∧
  (∀ (slot : Fin 512) (s : State),
      s.awake = true → s.laneRuns (slot.val % 4) = true → isFixed slot = false → (s.loopx slot).due.isSome = true →
      runs (.loopDeadlineMiss slot) s (fun t => (t.loopx slot).due = none ∧ t.bit (R.LOOP_MISS (slot.val / 32)) (slot.val % 32) = true
       ∧ (t.rd R.LOOP_MISS_TOTAL).toNat = satCount (s.rd R.LOOP_MISS_TOTAL) 1
       ∧ t = { s.atTimeOf t with regs := t.regs, mem := t.mem, ecc := t.ecc, bel := { s.bel with seen := t.bel.seen }, loops := t.loops }
       ∧ memKept s t (inRange (slotBase slot) (slotBase slot + 0x200)) ∧ pagesKept s t [Pg.LOOP, Pg.ECC 1])) ∧
  (∀ (lane : Fin 4) (s : State),
      s.awake = true → s.laneRuns lane = true → [0, 1, 2, 3].all (fun i => !s.injRuns i && !s.capRuns i) = true →
      runs (.loopLaneFault lane true) s (fun t => t.laneFailed lane = true ∧ t.laneRuns lane = false
       ∧ (t.rd R.LOOP_LANE_STAT).toNat / 2 ^ (2 * lane.val + 4) % 4 = 2 ∧ (∀ k, k < 512 → k % 4 = lane.val → t.slotOn k = false)
       ∧ (∀ k, k < 512 → k % 4 ≠ lane.val → t.slotOn k = s.slotOn k) ∧ (∀ k, k % 4 ≠ lane.val → t.loopx k = s.loopx k) ∧ t.mem = s.mem)) ∧
  (∀ (lane : Fin 4) (s : State),
      s.awake = true → s.laneRuns lane = true → s.laneBad lane = false → runs (.loopLaneFault lane false) s (fun t => t = s))

/-- Evaluations and outputs of the loop engine (R287, R288, R289, R293, R295, R297, R321). -/
def Obligations.LoopEvaluations : Prop :=
  (∀ (lane : Fin 4) (k : Nat) (s : State),
      s.awake = true → s.laneRuns lane = true → s.dueSlots lane true = [k] → (s.lw k 1).getLsbD 0 = true → s.ecc = [] →
      [0, 1, 2, 3].all (fun i => !s.injRuns i && !s.capRuns i) = true → (s.loopx k).first = false →
      runs (.loopFixedEvaluation lane) s (fun t => (t.loopx k).due = none
       ∧ (t.loopx k).out.map (fun o => (o.1, o.2.1)) = some ((s.loopx k).dueCyc + 2048, loI (s.lw k wUprev)) ∧ t.lw k wNEval = s.lw k wNEval
       ∧ t.points = s.points ∧ memKept s t (inRange (slotBase k) (slotBase k + 0x200)))) ∧
  (∀ (lane : Fin 4) (k : Nat) (s : State),
      s.awake = true → s.laneRuns lane = true → s.dueSlots lane true = [k] → (s.lw k 1).toNat % 4 = 0 → loI (s.lw k 6) ≤ hiI (s.lw k 6) →
      s.holdOnStale k = false → (s.outPoint? k).isSome = true → s.ecc = [] → [0, 1, 2, 3].all (fun i => !s.injRuns i && !s.capRuns i) = true →
      (s.loopx k).first = false → runs (.loopFixedEvaluation lane) s (fun t => (t.loopx k).due = none
       ∧ (t.loopx k).out.any (fun o => decide (o.2.1 ≤ (s.loopLimits k).2)) = true ∧ t.lw k wNEval = s.lw k wNEval + 1
       ∧ loI (t.lw k wUprev) ≤ (s.loopLimits k).2 ∧ t.points = s.points ∧ memKept s t (inRange (slotBase k) (slotBase k + 0x200)))) ∧
  (∀ (slot : Fin 16) (c q p : Nat) (v : Int) (s : State),
      s.awake = true → (s.loopx slot).out = some (c, v, q) → s.outPoint? slot = some p → s.forceOn p = none → s.untested (pointAddr p) = true →
      runs (.loopFixedOutput slot) s (fun t => (t.point p).value = word32 v ∧ (t.point p).q = q ∧ (t.loopx slot).out = none ∧ c ≤ t.cyc
       ∧ (∀ j, j ≠ p → t.point j = s.point j) ∧ t.mem = s.mem ∧ pagesKept s t [Pg.LIO, Pg.CAIRN])) ∧
  (∀ (lane : Fin 4) (k p : Nat) (s : State),
      s.awake = true → s.laneRuns lane = true → s.dueSlots lane false = [k] → k < 512 →
      (s.reachCyc (s.windowFrom lane s.cyc + 63)).monoNow ≤ s.deadlineMono k → (s.lw k 1).getLsbD 0 = true → s.outPoint? k = some p →
      s.forceOn p = none → s.untested (pointAddr p) = true → s.ecc = [] → [0, 1, 2, 3].all (fun i => !s.injRuns i && !s.capRuns i) = true →
      (s.loopx k).first = false → runs (.loopEvaluation lane) s (fun t => (t.loopx k).due = none ∧ (t.point p).value = word32 (loI (s.lw k wUprev))
       ∧ t.lw k wNEval = s.lw k wNEval ∧ (∀ j, j ≠ p → t.point j = s.point j) ∧ memKept s t (inRange (slotBase k) (slotBase k + 0x200))
       ∧ s.cyc ≤ t.cyc)) ∧
  (∀ (lane : Fin 4) (s : State),
      s.awake = true → s.laneRuns lane = true → s.dueSlots lane false = [] → runs (.loopEvaluation lane) s (fun t => t = s))

/-- Enabling and disabling of slots, and their statistics (R284, R296, R298, R307, R335). -/
def Obligations.LoopSlots : Prop :=
  (∀ (req : Req) (slot : Fin 512) (s : State),
      s.awake = true → s.opens req (R.LOOP_EN (slot.val / 32)) = true → s.slotOn slot = false → s.enableReason slot = 0 →
      runs (.loopSlotEnable req slot) s (fun t => t.slotOn slot = true ∧ (t.loopx slot).first = true ∧ (t.loopx slot).due = none
       ∧ (t.loopx slot).notBefore = s.monoNow + 10000 ∧ (s.untested (slotBase slot) = true → t.lw slot wNEval = 0 ∧ (t.lw slot 1).getLsbD 1 = true)
       ∧ t = { s with regs := t.regs, mem := t.mem, ecc := t.ecc, bel := { s.bel with seen := t.bel.seen }, loops := t.loops, resp := .data 0 }
       ∧ memKept s t (inRange (slotBase slot) (slotBase slot + 0x200)) ∧ pagesKept s t [Pg.LOOP, Pg.ECC 1]
       ∧ (∀ k, k < 512 → k ≠ slot.val → t.slotOn k = s.slotOn k))) ∧
  (∀ (req : Req) (slot : Fin 512) (s : State),
      s.awake = true → s.opens req (R.LOOP_EN (slot.val / 32)) = true → s.slotOn slot = false → s.enableReason slot ≠ 0 →
      runs (.loopSlotEnable req slot) s (fun t => t.slotOn slot = false ∧ t.fset F.LOOP_ENREF_VALID = true
       ∧ t.fget F.LOOP_ENREF_REASON = s.enableReason slot ∧ t.fget F.LOOP_ENREF_SLOT = slot.val ∧ onlyAnswer s t 0 [R.LOOP_ENREF, R.INT_RAW Pg.LOOP])) ∧
  (∀ (req : Req) (slot : Fin 512) (s : State),
      s.awake = true → s.opens req (R.LOOP_EN (slot.val / 32)) = true → s.slotOn slot = true →
      runs (.loopSlotDisable req slot) s (fun t => t.slotOn slot = false ∧ (t.loopx slot).due = none
       ∧ (∀ k, k < 512 → k ≠ slot.val → t.slotOn k = s.slotOn k) ∧ t = { s with regs := t.regs, loops := t.loops, resp := .data 0 }
       ∧ pagesKept s t [Pg.LOOP, Pg.TUNE])) ∧
  (∀ (req : Req) (slot : Fin 512) (s : State),
      s.awake = true → s.opens req R.LOOP_STAT_CLR = true → s.untested (slotBase slot) = true →
      runs (.statClrSlot req slot) s (fun t => t.lw slot wNEval = 0 ∧ t.lw slot wNMiss = 0 ∧ (t.lw slot wSince).toNat = s.now
       ∧ t = { s with mem := t.mem, ecc := t.ecc, bel := { s.bel with seen := t.bel.seen }, resp := .data 0 }
       ∧ memKept s t (inRange (slotBase slot) (slotBase slot + 0x200)))) ∧
  (∀ (req : Req) (s : State),
      s.awake = true → s.opens req R.LOOP_STAT_CLR = true → s.untested (slotBase 0) = true →
      runs (.statClrAll req) s (fun t => (∀ k, k < 512 → t.lw k wNEval = 0) ∧ (∀ k, k < 512 → t.lw k wNMiss = 0)
       ∧ t = { s with mem := t.mem, ecc := t.ecc, bel := { s.bel with seen := t.bel.seen }, resp := .data 0 }
       ∧ memKept s t (inRange (slotBase 0) (slotBase 512))))

/-- Analogue inputs on the grid and short circuits of the outputs (R301, R302, R303, R315, R568). -/
def Obligations.LocalInputsOutputs : Prop :=
  (∀ (volts : List Int) (levels : BitVec 16) (s : State),
      s.awake = true → s.enabled Pg.LIO = true →
      runs (.lioAinHold volts levels) s (fun t => t.lio.held = (List.range 8).map (fun i => ainLimit (volts.getD i 0)) ∧ t.lio.heldAt = s.nextHold
       ∧ t.lio.readyAt.isSome = true
       ∧ t.rd R.LIO_DIO_IN = (levels.zeroExtend 32 &&& ~~~(s.rd R.LIO_DIO_DIR)) ||| (s.rd R.LIO_DIO_OUT &&& s.rd R.LIO_DIO_DIR &&& 0xFFFF)
       ∧ t.mem = s.mem ∧ s.cyc ≤ t.cyc)) ∧
  (∀ (s : State),
      s.awake = true → s.enabled Pg.LIO = false → runs (.lioAinResult) s (fun t => t = s)) ∧
  (∀ (c : Nat) (s : State),
      s.awake = true → s.enabled Pg.LIO = true → s.lio.readyAt = some c →
      runs (.lioAinResult) s (fun t => (∀ i, i < 8 → t.fget (F.LIO_AIN_CODE i) = (BitVec.ofInt 16 (s.lio.held.getD i (0, false)).1).toNat)
       ∧ (∀ i, i < 8 → t.fset (F.LIO_AIN_CLIP i) = (s.lio.held.getD i (0, false)).2) ∧ t.get64 R.LIO_AIN_TS_LO = s.lio.heldAt % 2 ^ 64
       ∧ t.lio = { s.lio with readyAt := none, resMono := s.lio.heldMono } ∧ t.mem = s.mem ∧ c ≤ t.cyc)) ∧
  (∀ (n : Fin 4) (s : State),
      s.awake = true → runs (.lioAoutShort n) s (fun t => t.fset (F.LIO_AOUT_SHORT n) = true
       ∧ (s.enabled Pg.LIO = true → t.bit (R.INT_RAW Pg.LIO) Ev.LIO_SHORT = true) ∧ t.fget (F.LIO_AOUT_CODE n) = s.fget (F.LIO_AOUT_CODE n)
       ∧ onlyRegs s t [R.LIO_AOUT n, R.INT_RAW Pg.LIO])) ∧
  (∀ (n : Fin 4) (s : State),
      s.awake = true → runs (.aoutShortEnd n) s (fun t => t.fset (F.LIO_AOUT_SHORT n) = false
       ∧ t.fget (F.LIO_AOUT_CODE n) = s.fget (F.LIO_AOUT_CODE n) ∧ onlyRegs s t [R.LIO_AOUT n]))

/-- Injection and capture units (R324, R325, R327, R328, R330, R333). -/
def Obligations.TuneUnits : Prop :=
  (∀ (req : Req) (i : Fin 4) (s : State),
      s.awake = true → s.opens req (R.TUNE_INJ_CMD i) = true → s.injRuns i = false → s.injRefused i = false →
      runs (.injStart req i) s (fun t => (t.fget (F.TUNE_INJ_STAT_STATE i) = (if s.fget (F.TUNE_INJ_DELAY_DELAY i) = 0 then 2 else 1))
       ∧ (t.injx i).amp = sgn32 (s.rd (R.TUNE_INJ_AMP i)) ∧ (t.injx i).k = 0 ∧ (t.injx i).notBefore = s.monoNow + 10000
       ∧ t = { s with regs := t.regs, inj := t.inj, cap := t.cap, resp := .data 0 } ∧ regsKept s t [R.TUNE_INJ_STAT i, R.BLK_STAT Pg.TUNE])) ∧
  (∀ (req : Req) (i : Fin 4) (s : State),
      s.awake = true → s.opens req (R.TUNE_INJ_CMD i) = true → s.injRuns i = false → s.injRefused i = true →
      runs (.injStart req i) s (fun t => t.fget (F.TUNE_INJ_STAT_STATE i) = 0 ∧ t.fget (F.TUNE_INJ_STAT_REASON i) = 6
       ∧ onlyAnswer s t 0 [R.TUNE_INJ_STAT i, R.BLK_STAT Pg.TUNE, R.INT_RAW Pg.TUNE])) ∧
  (∀ (req : Req) (i : Fin 4) (s : State),
      s.awake = true → s.opens req (R.TUNE_INJ_CMD i) = true → s.injRuns i = true →
      runs (.injStart req i) s (fun t => t.fset F.TUNE_FAULT_BAD_CMD = true ∧ onlyAnswer s t 0 [R.BLK_FAULT Pg.TUNE])) ∧
  (∀ (req : Req) (i : Fin 4) (s : State),
      s.awake = true → s.opens req (R.TUNE_INJ_CMD i) = true → s.injRuns i = true →
      runs (.injStop req i) s (fun t => t.fget (F.TUNE_INJ_STAT_STATE i) = 0 ∧ t.fget (F.TUNE_INJ_STAT_REASON i) = 2
       ∧ onlyAnswer s t 0 [R.TUNE_INJ_STAT i, R.BLK_STAT Pg.TUNE, R.INT_RAW Pg.TUNE])) ∧
  (∀ (req : Req) (j : Fin 4) (s : State),
      s.awake = true → s.opens req (R.TUNE_CAP_CMD j) = true → s.capRuns j = false → s.slotOn (s.fget (F.TUNE_CAP_CFG_SLOT j)) = true →
      s.fget (F.TUNE_CAP_CFG_TRIG j) < 5 → s.laneFailed (s.fget (F.TUNE_CAP_CFG_SLOT j) % 4) = false → s.isActive = true →
      runs (.capArm req j) s (fun t => t.fget (F.TUNE_CAP_STAT_STATE j) = 1 ∧ t.rd (R.TUNE_CAP_COUNT j) = 0 ∧ t.fget (F.TUNE_CAP_NEXT_INDEX j) = 0
       ∧ t.get64 (R.TUNE_CAP_T0_LO j) = 0 ∧ t = { s with regs := t.regs, hiWords := t.hiWords, cap := t.cap, resp := .data 0 }
       ∧ pagesKept s t [Pg.TUNE])) ∧
  (∀ (req : Req) (j : Fin 4) (s : State),
      s.awake = true → s.opens req (R.TUNE_CAP_CMD j) = true → s.capRuns j = false → s.slotOn (s.fget (F.TUNE_CAP_CFG_SLOT j)) = false →
      runs (.capArm req j) s (fun t => t.fget (F.TUNE_CAP_STAT_STATE j) = s.fget (F.TUNE_CAP_STAT_STATE j) ∧ t.fget (F.TUNE_CAP_STAT_REASON j) = 6
       ∧ onlyAnswer s t 0 [R.TUNE_CAP_STAT j, R.BLK_STAT Pg.TUNE, R.INT_RAW Pg.TUNE])) ∧
  (∀ (req : Req) (j : Fin 4) (s : State),
      s.awake = true → s.opens req (R.TUNE_CAP_CMD j) = true → s.capRuns j = true →
      runs (.capStop req j) s (fun t => t.fget (F.TUNE_CAP_STAT_STATE j) = 3 ∧ t.fget (F.TUNE_CAP_STAT_REASON j) = 2
       ∧ onlyAnswer s t 0 [R.TUNE_CAP_STAT j, R.BLK_STAT Pg.TUNE, R.INT_RAW Pg.TUNE]))

/-- Modulator faults, the temperature update and the calibration (R349, R353, R354, R355, R356, R357). -/
def Obligations.ModulatorsAndCalibration : Prop :=
  (∀ (c : Fin 24) (s : State),
      s.awake = true → s.mtrRuns = true → (s.usersOf c).isEmpty = false → s.modBad c = false → runs (.modFault c) s (fun t => t.modBad c = true
       ∧ (s.usersOf c).all (fun m => !t.circValid m) = true ∧ tabFind t.mtr.faultAt c = some s.cyc ∧ t.mem = s.mem
       ∧ (s.enabled Pg.MTR = true → t.bit (R.INT_RAW Pg.MTR) Ev.MTR_MOD_FAULT = true))) ∧
  (∀ (c : Fin 24) (s : State),
      s.awake = true → s.modBad c = true → runs (.modFaultClear c) s (fun t => t.modBad c = false
       ∧ t = { s.atTimeOf t with regs := t.regs, mtr := { s.mtr with faultAt := tabDel s.mtr.faultAt c } }
       ∧ (∀ d, d < 24 → d ≠ c.val → t.modBad d = s.modBad d) ∧ pagesKept s t [Pg.MTR])) ∧
  (∀ (s : State),
      s.awake = true → s.enabled Pg.MTR = true → [0, 1, 2, 3].all (fun k => !s.fset (F.MTR_TSRC_EN k)) = true →
      runs (.mtrTempUpdate) s (fun t => t.mtr.temps = List.replicate 5 (sgn16 (s.fget F.TSENS_TEMP_DEG)) ∧ t.mtr.tempAt = t.cyc ∧ t.points = s.points
       ∧ t.mem = s.mem ∧ s.cyc ≤ t.cyc)) ∧
  (∀ (req : Req) (s : State),
      s.awake = true → s.opens req R.MTR_CAL_CMD = true → s.calOpen req = true →
      runs (.calLoad req) s (fun t => (∀ c, c < 24 → t.staged c = s.calBlock c)
       ∧ t = { s with mtr := { s.mtr with stage := t.mtr.stage }, resp := .data 0 })) ∧
  (∀ (req : Req) (s : State),
      s.awake = true → s.opens req R.MTR_CAL_CMD = true → s.calOpen req = false → runs (.calLoad req) s (fun t => t.fset F.MTR_FAULT_CAL_LOCKED = true
       ∧ onlyAnswer s t 0 (R.BLK_FAULT Pg.MTR :: sysCapture))) ∧
  (∀ (req : Req) (s : State),
      s.awake = true → s.opens req R.MTR_CAL_CMD = true → s.calOpen req = true → (List.range 24).all (fun c => calCheck (s.staged c) == 0) = true →
      runs (.calCommit req) s (fun t => t.bytesAt 0x10A00000 6144 = (List.range 24).flatMap s.staged
       ∧ t.rd R.MTR_CAL_CRC = crc32c ((List.range 24).flatMap s.staged) ∧ memKept s t (inRange 0x10A00000 0x10A01800)
       ∧ t.fget F.MTR_CAL_STAT_REASON = 0 ∧ t.mtr.stage = s.mtr.stage)) ∧
  (∀ (req : Req) (c : Nat) (s : State),
      s.awake = true → s.opens req R.MTR_CAL_CMD = true → s.calOpen req = true →
      (List.range 24).find? (fun c => calCheck (s.staged c) != 0) = some c → runs (.calCommit req) s (fun t => t.fget F.MTR_CAL_STAT_CH = c
       ∧ t.fget F.MTR_CAL_STAT_REASON = calCheck (s.staged c) ∧ onlyAnswer s t 0 [R.MTR_CAL_STAT]))

/-- Enabling and disabling a metering circuit (R358, R359, R360, R362). -/
def Obligations.MeterCircuits : Prop :=
  (∀ (req : Req) (m : Fin 18) (s : State),
      s.awake = true → s.opens req (R.MTR_CIRC_CFG m) = true → s.circOn m = false → s.circRefuse m = 0 →
      runs (.circEnable req m) s (fun t => t.circOn m = true ∧ (t.mtrc m).crossed = false ∧ (t.mtrc m).closed = [] ∧ (t.mtrc m).win = []
       ∧ (∀ n, n ≠ m.val → t.mtrc n = s.mtrc n) ∧ t.points = s.points ∧ t.mem = s.mem ∧ t.resp = .data 0)) ∧
  (∀ (req : Req) (m : Fin 18) (s : State),
      s.awake = true → s.opens req (R.MTR_CIRC_CFG m) = true → s.circOn m = false → s.circRefuse m ≠ 0 →
      runs (.circEnable req m) s (fun t => t.circOn m = false ∧ t.fset F.MTR_ENREF_VALID = true ∧ t.fget F.MTR_ENREF_REASON = s.circRefuse m
       ∧ t.fget F.MTR_ENREF_CIRC = m.val ∧ t = { s with regs := t.regs, trigs := t.trigs, resp := .data 0 }
       ∧ regsKept s t [R.MTR_ENREF, R.INT_RAW Pg.MTR])) ∧
  (∀ (req : Req) (m : Fin 18) (s : State),
      s.awake = true → s.opens req (R.MTR_CIRC_CFG m) = true → s.circOn m = true → runs (.circDisable req m) s (fun t => t.circOn m = false
       ∧ (t.nrgc m).running = false ∧ (t.mtrc m).closed = [] ∧ t.circValid m = false ∧ (∀ n, n ≠ m.val → t.nrgc n = s.nrgc n) ∧ t.resp = .data 0))

/-- Zero crossings, their loss, timed windows, cycle records and windows of ten cycles (R361, R362, R363, R364, R368, R369, R370, R371). -/
def Obligations.LineCycles : Prop :=
  (∀ (ch : Fin 6) (inp : ChanIn) (m d : Nat) (y : Int) (mono : Nat) (s : State),
      s.awake = true → s.mtrRuns = true → s.modBad ch = false → s.usersOf ch = [m] → s.isFeeder m = false →
      s.fset (F.MTR_CIRC_STAT_MOD_FAULT m) = false → (s.mtrc m).phase = ch.val % 3 → (s.vchan ch).early mono = false →
      (s.samples ch inp).map (fun x => (x.date, x.y)) = [(d, y)] → (s.vchan ch).crosses d y = some mono → s.circValid m = false →
      (s.mtrc m).crossed = false → runs (.zeroCrossing ch inp) s (fun t => (t.mtrc m).crossed = true ∧ (t.mtrc m).openMono = mono
       ∧ (t.mtrc m).closed = (s.mtrc m).closed ∧ t.circValid m = false ∧ (t.vchan ch).last = some mono ∧ t.bit R.MTR_ZC_STAT ch = true ∧ t.mem = s.mem
       ∧ t.points = s.points)) ∧
  (∀ (ch : Fin 6) (inp : ChanIn) (m d : Nat) (y : Int) (mono : Nat) (s : State),
      s.awake = true → s.mtrRuns = true → s.modBad ch = false → s.usersOf ch = [m] → s.isFeeder m = false →
      s.fset (F.MTR_CIRC_STAT_MOD_FAULT m) = false → (s.mtrc m).phase = ch.val % 3 → (s.vchan ch).early mono = false →
      (s.samples ch inp).map (fun x => (x.date, x.y)) = [(d, y)] → (s.vchan ch).crosses d y = some mono → s.circValid m = true →
      s.timedOn m = false →
      runs (.zeroCrossing ch inp) s (fun t => (t.mtrc m).closed.map (·.dur) = (s.mtrc m).closed.map (·.dur) ++ [mono - (s.mtrc m).openMono]
       ∧ (t.mtrc m).closed.map (·.mono) = (s.mtrc m).closed.map (·.mono) ++ [mono] ∧ (t.mtrc m).openMono = mono
       ∧ (t.mtrc m).lastDur = mono - (s.mtrc m).openMono ∧ t.circValid m = true ∧ t.mem = s.mem ∧ t.points = s.points)) ∧
  (∀ (ch : Fin 6) (inp : ChanIn) (m d : Nat) (y : Int) (mono : Nat) (s : State),
      s.awake = true → s.mtrRuns = true → s.modBad ch = false → s.usersOf ch = [m] → s.isFeeder m = false →
      s.fset (F.MTR_CIRC_STAT_MOD_FAULT m) = false → (s.mtrc m).phase = ch.val % 3 → (s.samples ch inp).map (fun x => (x.date, x.y)) = [(d, y)] →
      (s.vchan ch).crosses d y = some mono → (s.vchan ch).early mono = true →
      runs (.zeroCrossing ch inp) s (fun t => (t.vchan ch).last = (s.vchan ch).last ∧ t.mtr.circs = s.mtr.circs ∧ t.regs = s.regs ∧ t.mem = s.mem
       ∧ t.points = s.points)) ∧
  (∀ (ch : Fin 6) (inp : ChanIn) (d : Nat) (y : Int) (s : State),
      s.awake = true → s.mtrRuns = true → s.modBad ch = false → (s.usersOf ch).isEmpty = false →
      (s.samples ch inp).map (fun x => (x.date, x.y)) = [(d, y)] → (s.vchan ch).crosses d y = none →
      runs (.zeroCrossing ch inp) s (fun t => (t.vchan ch).prev = some (d, y)
       ∧ (t.vchan ch).armed = ((s.vchan ch).armed || decide (y < -(s.hyst : Int))) ∧ (t.vchan ch).last = (s.vchan ch).last ∧ t.mtr.circs = s.mtr.circs
       ∧ t.regs = s.regs ∧ t.mem = s.mem ∧ t.points = s.points)) ∧
  (∀ (ch : Fin 6) (l : Nat) (s : State),
      s.awake = true → (s.vchan ch).last = some l → s.mtrRuns = true → (s.vchan ch).lost = false → (s.usersOf ch).isEmpty = false →
      runs (.zcLost ch) s (fun t => (t.vchan ch).lost = true ∧ t.bit R.MTR_ZC_STAT (8 + ch.val) = true ∧ t.bit R.MTR_ZC_STAT ch = false
       ∧ (∀ v, v ≠ ch.val → t.vchan v = s.vchan v) ∧ t.mem = s.mem ∧ t.points = s.points)) ∧
  (∀ (m : Fin 18) (s : State),
      s.awake = true → s.mtrRuns = true → s.timedOn m = true →
      runs (.timedWindow m) s (fun t => (t.mtrc m).closed.map (fun x => (x.dur, x.timed)) = (s.mtrc m).closed.map (fun x => (x.dur, x.timed)) ++ [((s.mtrc m).lastDur, true)]
       ∧ (t.mtrc m).openMono = (s.mtrc m).openMono + (s.mtrc m).lastDur ∧ t.mem = s.mem ∧ t.points = s.points)) ∧
  (∀ (m : Fin 18) (cyc : CycleIn) (x : Closed) (l : List Closed) (s : State),
      s.awake = true → (s.mtrc m).closed = x :: l → s.ecc = [] → runs (.cycleRecord m cyc) s (fun t => (t.mtrc m).closed = l
       ∧ (t.mtrc m).seq = ((s.mtrc m).seq + 1) % 2 ^ 32
       ∧ t.le (0x10A10000 + 0x1000 * m.val + 64 * (((s.mtrc m).seq + 1) % 2 ^ 32 % 64)) 8 = x.tStart % 2 ^ 64
       ∧ t.le (0x10A10000 + 0x1000 * m.val + 64 * (((s.mtrc m).seq + 1) % 2 ^ 32 % 64) + 8) 8 = x.tEnd % 2 ^ 64
       ∧ t.le (0x10A10000 + 0x1000 * m.val + 64 * (((s.mtrc m).seq + 1) % 2 ^ 32 % 64) + 16) 8 = x.dur % 2 ^ 64
       ∧ t.le (0x10A10000 + 0x1000 * m.val + 64 * (((s.mtrc m).seq + 1) % 2 ^ 32 % 64) + 28) 4 = ((s.mtrc m).seq + 1) % 2 ^ 32
       ∧ (s.rd (R.MTR_CIRC_CREEP m) = 0 → t.bytesAt (0x10A10000 + 0x1000 * m.val + 64 * (((s.mtrc m).seq + 1) % 2 ^ 32 % 64) + 32) 8 = le64i (sumI ((s.cycleValues m x (s.cycleSamples m x cyc)).map (·.2.2.1))))
       ∧ memKept s t (inRange (0x10A10000 + 0x1000 * m.val + 64 * (((s.mtrc m).seq + 1) % 2 ^ 32 % 64)) (0x10A10000 + 0x1000 * m.val + 64 * (((s.mtrc m).seq + 1) % 2 ^ 32 % 64) + 64))
       ∧ (s.isActive = true → (t.mtr.handed.drop s.mtr.handed.length).map (fun r => (r.circ, r.tEnd, r.dur)) = [(m.val, x.tEnd, x.dur)])
       ∧ (s.isActive = false → t.mtr.handed = s.mtr.handed) ∧ t.points = s.points)) ∧
  (∀ (m : Fin 18) (delay : Nat) (p : Nat) (v : Int) (s : State),
      s.awake = true → s.circValid m = true → 10 ≤ (s.mtrc m).win.length → s.isActive = true → (s.circPoints m)[0]? = some p →
      (s.winValues m ((s.mtrc m).win.take 10))[0]? = some (some v) → s.forceOn p = none →
      runs (.window m delay) s (fun t => (t.mtrc m).win = (s.mtrc m).win.drop 10 ∧ (t.point p).value = word32 (satI32 v)
       ∧ (t.point p).q = winQ ((s.mtrc m).win.take 10) ∧ (t.point p).inst = (((s.mtrc m).win.take 10).map (·.mono)).foldl max 0 ∧ t.mem = s.mem)) ∧
  (∀ (m : Fin 18) (delay : Nat) (s : State),
      s.awake = true → s.circValid m = true → 10 ≤ (s.mtrc m).win.length → s.isActive = false →
      runs (.window m delay) s (fun t => (t.mtrc m).win = (s.mtrc m).win.drop 10 ∧ t.points = s.points ∧ t.regs = s.regs ∧ t.mem = s.mem))

/-- Energy totals, tallies, their units and the demand intervals (R379, R380, R382, R384, R385, R387, R390, R394, R402). -/
def Obligations.EnergyTotals : Prop :=
  (∀ (r : CycRec) (l : List CycRec) (s : State),
      s.awake = true → s.mtr.handed = r :: l → s.nrgAdds = true → 0 < r.p → r.q = 0 → s.fset F.PFW_STAT_ASSERTED = false →
      s.nrg.saving.all (fun v => v.cyc != s.cyc) = true → runs (.nrgRecordAdd) s (fun t => t.mtr.handed = l
       ∧ vecGet (t.nrgc r.circ).total 0 = min (vecGet (s.nrgc r.circ).total 0 + (vecGet (s.nrgc r.circ).res 0 + r.p.natAbs * r.dur) / 3600000000000) (2 ^ 64 - 1)
       ∧ vecGet (t.nrgc r.circ).res 0 = (vecGet (s.nrgc r.circ).res 0 + r.p.natAbs * r.dur) % 3600000000000
       ∧ (t.nrgc r.circ).total.toList.drop 1 = (s.nrgc r.circ).total.toList.drop 1
       ∧ (t.nrgc r.circ).cycles = min ((s.nrgc r.circ).cycles + 1) (2 ^ 64 - 1) ∧ (∀ n, n ≠ r.circ → t.nrgc n = s.nrgc n)
       ∧ memKept s t (inRange (0x10A40000 + 0x100 * r.circ) (0x10A40100 + 0x100 * r.circ)))) ∧
  (∀ (r : CycRec) (l : List CycRec) (v : Save) (s : State),
      s.awake = true → s.mtr.handed = r :: l → s.nrgAdds = true → s.fset F.PFW_STAT_ASSERTED = false → s.nrg.saving = some v → v.cyc = s.cyc →
      runs (.nrgRecordAdd) s (fun t => t.nrg.saving = some { v with bytes := t.slotImage v.reason s.nrg.seq [] } ∧ t.nrg.slot = s.nrg.slot)) ∧
  (∀ (r : CycRec) (l : List CycRec) (s : State),
      s.awake = true → s.mtr.handed = r :: l → s.nrgAdds = false → runs (.nrgRecordAdd) s (fun t => t = { s with mtr := { s.mtr with handed := l } })) ∧
  (∀ (m : Fin 18) (s : State),
      s.awake = true → (s.nrgc m).running = true → s.nrg.loaded = true → s.circOn m = true →
      (s.reach ((s.nrgc m).nomEnd + 2000000)).stepDue = false → runs (.intervalClose m) s (fun t => (t.nrgc m).running = true
       ∧ (t.nrgc m).nomStart = (s.nrgc m).nomEnd ∧ (t.nrgc m).nomEnd = ((s.nrgc m).nomEnd + s.dmdLen) % 2 ^ 64
       ∧ (t.nrgc m).seq = ((s.nrgc m).seq + 1) % 2 ^ 32 ∧ (t.nrgc m).total = (s.nrgc m).total
       ∧ t.le (0x10A60000 + 0x1000 * m.val + 128 * (((s.nrgc m).seq + 1) % 2 ^ 32 % 32) + 8) 8 = (s.nrgc m).nomEnd % 2 ^ 64
       ∧ (∀ n, n ≠ m.val → t.nrgc n = s.nrgc n) ∧ memKept s t (inRange 0x10A40000 0x10A80000))) ∧
  (∀ (req : Req) (m a : Nat) (s : State),
      s.awake = true → s.opens req R.NRG_TOT_LO = true → s.totSel = some (m, a) → s.nrgSeen m = s.nrgc m →
      runs (.nrgTotRead req) s (fun t => onlyAnswer s t (BitVec.ofNat 64 (vecGet (s.nrgc m).total a % 2 ^ 32)) [R.NRG_TOT_HI]
       ∧ (t.rd R.NRG_TOT_HI).toNat = vecGet (s.nrgc m).total a / 2 ^ 32 % 2 ^ 32)) ∧
  (∀ (req : Req) (m a : Nat) (c : NrgC) (s : State),
      s.awake = true → s.opens req R.NRG_TOT_LO = true → s.totSel = some (m, a) → s.nrg.addAt = s.cyc → tabFind s.nrg.before m = some c →
      runs (.nrgTotRead req) s (fun t => onlyAnswer s t (BitVec.ofNat 64 (vecGet c.total a % 2 ^ 32)) [R.NRG_TOT_HI]
       ∧ (t.rd R.NRG_TOT_HI).toNat = vecGet c.total a / 2 ^ 32 % 2 ^ 32)) ∧
  (∀ (req : Req) (m a : Nat) (s : State),
      s.awake = true → s.opens req R.NRG_TALLY = true → s.totSel = some (m, a) → s.nrgSeen m = s.nrgc m →
      runs (.nrgTallyRead req) s (fun t => onlyAnswer s t (BitVec.ofNat 64 (vecGet (s.nrgc m).total a / (1000 * 10 ^ s.tallyUnit m) % 2 ^ 32)) [R.NRG_TALLY_WRAP]
       ∧ (t.rd R.NRG_TALLY_WRAP).toNat = vecGet (s.nrgc m).total a / (1000 * 10 ^ s.tallyUnit m * 2 ^ 32) % 256)) ∧
  (∀ (req : Req) (m : Fin 18) (u : BitVec 3) (s : State),
      s.awake = true → s.opens req (R.NRG_CIRC_TCFG m) = true → u ≠ 7 → u.toNat ≠ s.tallyUnit m →
      runs (.nrgUnitWrite req m u) s (fun t => t.tallyUnit m = u.toNat ∧ t.nrg = s.nrg
       ∧ memKept s t (inRange (0x10A40000 + 0x100 * m.val) (0x10A40100 + 0x100 * m.val)) ∧ t.resp = .data 0
       ∧ pagesKept s t [Pg.NRG, Pg.CAIRN, Pg.ECC 1, Pg.ECC 3])) ∧
  (∀ (req : Req) (m : Fin 18) (s : State),
      s.awake = true → s.opens req (R.NRG_CIRC_TCFG m) = true → runs (.nrgUnitWrite req m 7) s (fun t => onlyAnswer s t 0 [R.BLK_FAULT Pg.NRG]
       ∧ t.fset F.NRG_FAULT_BAD_WRITE = true)) ∧
  (∀ (s : State),
      s.live = true → s.nrg.loaded = false → s.fget F.RST_BOOT_STAT_STAGE < 9 → s.bestSlot = none → s.trust.energyWritten = false → s.mramBad = [] →
      runs (.nrgTotalsLoad) s (fun t => t.nrg.loaded = true ∧ t.nrg.circs = [] ∧ t.fget F.NRG_STAT_LOAD = 0
       ∧ memKept s t (inRange 0x10A40000 0x10A41200) ∧ pagesKept s t [Pg.NRG, Pg.ECC 1, Pg.ECC 3]))

/-- Saves of the totals to MRAM and the export record (R391, R392, R396, R397, R402). -/
def Obligations.EnergySaves : Prop :=
  (∀ (s : State),
      s.awake = true → s.enabled Pg.NRG = true → s.nrg.loaded = true → s.nrg.saving = none →
      runs (.nrgSavePeriodic) s (fun t => t.nrg.saving.map (fun v => (v.reason, v.slot, v.retried)) = some (0, 1 - s.nrg.slot, false)
       ∧ t.nrg.seq = (s.nrg.seq + 1) % 2 ^ 32 ∧ t.nrg.slot = 1 - s.nrg.slot ∧ t.fset F.NRG_STAT_SAVE_BUSY = true ∧ t.nrg.circs = s.nrg.circs
       ∧ memKept s t (inRange (slotAddr (1 - s.nrg.slot)) (slotAddr (1 - s.nrg.slot) + 4676)) ∧ pagesKept s t [Pg.NRG])) ∧
  (∀ (v : Save) (s : State),
      s.awake = true → s.enabled Pg.NRG = true → s.nrg.loaded = true → s.nrg.saving = some v →
      runs (.nrgSavePeriodic) s (fun t => t.nrg.saving = some v ∧ t.nrg.pending = some (max 0 (s.nrg.pending.getD 0)) ∧ t.mem = s.mem
       ∧ t.regs = s.regs)) ∧
  (∀ (v : Save) (s : State),
      s.awake = true → s.nrg.saving = some v → s.nrg.pending = none → s.nrg.stopping = false →
      runs (.nrgSaveDone false) s (fun t => t.nrg = { s.nrg with saving := none, pending := none } ∧ t.fset F.NRG_STAT_SAVE_BUSY = false
       ∧ t.fget F.NRG_SAVE_STAT_REASON = v.reason % 8 ∧ t.fget F.NRG_SAVE_STAT_SLOT = v.slot % 2
       ∧ t.le (slotAddr v.slot + 4672) 4 = (crc32c v.bytes).toNat ∧ memKept s t (inRange (slotAddr v.slot + 4672) (slotAddr v.slot + 4676)))) ∧
  (∀ (v : Save) (s : State),
      s.awake = true → s.nrg.saving = some v → v.retried = false →
      runs (.nrgSaveDone true) s (fun t => t.nrg = { s.nrg with saving := some { v with retried := true } } ∧ t.mem = s.mem
       ∧ (s.enabled Pg.NRG = true → t.bit (R.INT_RAW Pg.NRG) Ev.NRG_SAVE_FAIL = true))) ∧
  (∀ (req : Req) (s : State),
      s.awake = true → s.opens req R.NRG_EXP_CMD = true → s.enabled Pg.NRG = true → (List.range circCount).any s.circOn = false →
      s.nrg.loaded = false → runs (.exportCreate req) s (fun t => t.fget F.NRG_EXP_STAT_STATE = 1 ∧ t.le exportAddr 2 = 1
       ∧ t.le (exportAddr + 16) 6 = s.trust.otp.serial.toNat ∧ memKept s t (inRange exportAddr (exportAddr + 4672)) ∧ pagesKept s t [Pg.NRG]
       ∧ t.nrg = s.nrg)) ∧
  (∀ (req : Req) (s : State),
      s.awake = true → s.opens req R.NRG_EXP_CMD = true → s.enabled Pg.NRG = true → (List.range circCount).any s.circOn = false →
      s.nrg.loaded = true → s.nrg.saving = none → runs (.exportCreate req) s (fun t => t.fget F.NRG_EXP_STAT_STATE = 1
       ∧ t.nrg.saving.map (fun v => (v.reason, v.slot)) = some (4, 1 - s.nrg.slot) ∧ t.le exportAddr 2 = 1 ∧ t.le (exportAddr + 2) 1 = 4
       ∧ t.nrg.circs = s.nrg.circs)) ∧
  (∀ (req : Req) (s : State),
      s.awake = true → s.opens req R.NRG_EXP_CMD = true → (s.enabled Pg.NRG = false ∨ (List.range circCount).any s.circOn = true) →
      runs (.exportCreate req) s (fun t => onlyAnswer s t 0 [R.BLK_FAULT Pg.NRG] ∧ t.fset F.NRG_FAULT_EXP_REFUSED = true)) ∧
  (∀ (s : State),
      s.awake = true → s.trust.otp.decom = true → runs (.exportDone) s (fun t => t = s)) ∧
  (∀ (s : State),
      s.awake = true → s.fget F.NRG_EXP_STAT_STATE = 1 → s.trust.otp.decom = false → runs (.exportDone) s (fun t => t.fget F.NRG_EXP_STAT_STATE = 2
       ∧ t.trust.exportDigest = some (Config.shake256 (s.bytesAt exportAddr 4672)) ∧ t.bytesAt exportSigAddr 4 = [1, 0, 2, 0xF1]
       ∧ memKept s t (inRange exportSigAddr (exportSigAddr + 49936)) ∧ t.nrg = s.nrg))

/-- The seconds, reads and loads of the real-time clock (R403, R404, R405, R406, R407, R409). -/
def Obligations.RealTimeClock : Prop :=
  (∀ (s : State),
      s.live = true → s.aonRuns = true → s.calendar.mon ≤ 12 → s.calendar.day ≤ 31 → s.calendar.hour ≤ 23 → s.calendar.min ≤ 59 →
      s.calendar.year ≤ 2399 → runs (.rtcSecond) s (fun t => t.calendar = s.calendar.next.1 ∧ t.rtc.secStart = s.rtc.secStart + 400000000
       ∧ (s.enabled Pg.RTC = true → t.bit (R.INT_RAW Pg.RTC) Ev.RTC_SECOND = true) ∧ t = { s.atTimeOf t with regs := t.regs, rtc := t.rtc }
       ∧ regsKept s t [R.RTC_SEC, R.RTC_MIN, R.RTC_HOUR, R.RTC_WDAY, R.RTC_DAY, R.RTC_MON, R.RTC_YEAR_LO, R.RTC_YEAR_HI, R.INT_RAW Pg.RTC, R.RTC_STAT])) ∧
  (∀ (req : Req) (s : State),
      s.awake = true → s.opens req R.RTC_SEC = true → s.rtc.before.all (fun e => e.1 != s.cyc) = true →
      runs (.rtcSecRead req) s (fun t => t = { s with regs := t.regs, rtc := { s.rtc with shadow := rtcKeys.map s.mirrorTime, frozenAt := s.cyc }, resp := .data ((s.rd R.RTC_SEC).zeroExtend 64) }
       ∧ t.fset F.RTC_STAT_FROZEN = true ∧ regsKept s t [R.RTC_STAT])) ∧
  (∀ (req : Req) (s : State),
      s.awake = true → s.opens req R.RTC_YEAR_HI = true →
      runs (.rtcYearHiRead req) s (fun t => onlyAnswer s t ((s.rtcRead 7).zeroExtend 64) [R.RTC_STAT] ∧ t.fset F.RTC_STAT_FROZEN = false)) ∧
  (∀ (s : State),
      s.live = true → s.fset F.RTC_STAT_FROZEN = true → runs (.rtcFreezeTimeout) s (fun t => t.fset F.RTC_STAT_FROZEN = false
       ∧ s.rtc.frozenAt + 800000 ≤ t.cyc ∧ t = { s.atTimeOf t with regs := t.regs } ∧ regsKept s t [R.RTC_STAT])) ∧
  (∀ (req : Req) (s : State),
      s.awake = true → s.opens req R.RTC_CMD = true → stagedOk s.stagedFields = true →
      runs (.load req) s (fun t => t = { s with regs := t.regs, rtc := { s.rtc with load := some (s.aonEdge, s.stagedFields), loadSec := none }, resp := .data 0 }
       ∧ regsKept s t [R.RTC_STAT])) ∧
  (∀ (req : Req) (s : State),
      s.awake = true → s.opens req R.RTC_CMD = true → stagedOk s.stagedFields = false → runs (.load req) s (fun t => t.fset F.RTC_STAT_BAD_DATE = true
       ∧ onlyAnswer s t 0 [R.RTC_STAT, R.INT_RAW Pg.RTC])) ∧
  (∀ (req : Req) (s : State),
      s.awake = true → s.opens req R.RTC_CMD = true → s.timeInvalid = false → stagedOk s.stagedFields = true →
      runs (.loadSec req) s (fun t => t = { s with regs := t.regs, rtc := { s.rtc with loadSec := some ((s.now / 1000000000 + 1) * 1000000000, s.stagedFields) }, resp := .data 0 }
       ∧ t.fset F.RTC_STAT_PENDING = true ∧ regsKept s t [R.RTC_STAT])) ∧
  (∀ (req : Req) (s : State),
      s.awake = true → s.opens req R.RTC_CMD = true → s.timeInvalid = true → runs (.loadSec req) s (fun t => t.fset F.RTC_FAULT_BAD_CMD = true
       ∧ onlyAnswer s t 0 [R.BLK_FAULT Pg.RTC])) ∧
  (∀ (e : Nat) (f : List Nat) (s : State),
      s.live = true → s.aonRuns = true → s.rtc.load = some (e, f) → stagedOk f = true → s.timeInvalid = false →
      runs (.rtcLoadApply) s (fun t => t.calendar = calendarOf f ∧ t.rtc.load = none ∧ t.fset F.RTC_STAT_VALID = true ∧ t.rtc.secStart = t.cyc
       ∧ t = { s.atTimeOf t with regs := t.regs, rtc := t.rtc } ∧ pagesKept s t [Pg.RTC])) ∧
  (∀ (s : State),
      s.sup.vin = .low → s.sup.aonFromVin = false → runs (.rtcTimeLost) s (fun t => t.calendar = calendarZero ∧ t.fset F.RTC_STAT_VALID = false
       ∧ t.fset F.RTC_STAT_LOST = true ∧ t.sup = { s.sup with vbatOk := false } ∧ t = { s with regs := t.regs, sup := t.sup, rtc := t.rtc }
       ∧ pagesKept s t [Pg.RTC])) ∧
  (∀ (s : State),
      (s.sup.vin ≠ .low ∨ s.sup.aonFromVin = true) → runs (.rtcTimeLost) s (fun t => t = s)) ∧
  (∀ (x : Nat) (f : List Nat) (s : State),
      s.live = true → s.aonRuns = true → s.rtc.load = none → s.rtc.loadSec = some (x, f) → stagedOk f = true →
      runs (.rtcLoadApply) s (fun t => t.calendar = calendarOf f ∧ t.rtc.loadSec = none ∧ t.fset F.RTC_STAT_VALID = true
       ∧ t.fset F.RTC_STAT_PENDING = false ∧ x ≤ t.now ∧ t = { s.atTimeOf t with regs := t.regs, rtc := t.rtc } ∧ pagesKept s t [Pg.RTC]))

/-- The countdown timer, the PPS pins and the schedule table (R48, R410, R411, R424, R425, R426, R427, R432). -/
def Obligations.TimersAndSchedule : Prop :=
  (∀ (req : Req) (s : State),
      s.awake = true → s.opens req R.RTC_CD_CTL = true → runs (.cdStart req) s (fun t => t.fset F.RTC_CD_CTL_EN = true
       ∧ t.fget F.RTC_CD_VAL_COUNT = s.fget F.RTC_CD_LOAD_COUNT ∧ t.rtc = { s.rtc with cdFrom := s.aonNow }
       ∧ t = { s with regs := t.regs, rtc := t.rtc, resp := .data 0 } ∧ regsKept s t [R.RTC_CD_CTL, R.RTC_CD_VAL])) ∧
  (∀ (req : Req) (s : State),
      s.awake = true → s.opens req R.RTC_CD_CTL = true → s.fset F.RTC_CD_CTL_EN = true → runs (.cdStop req) s (fun t => t.fset F.RTC_CD_CTL_EN = false
       ∧ t.fget F.RTC_CD_VAL_COUNT = s.cdVal ∧ t = { s with regs := t.regs, rtc := t.rtc, resp := .data 0 }
       ∧ regsKept s t [R.RTC_CD_CTL, R.RTC_CD_VAL])) ∧
  (∀ (s : State),
      s.live = true → s.fset F.RTC_CD_CTL_EN = true → s.aonRuns = true → s.fset F.RTC_CD_CTL_RELOAD = false → s.fset F.RTC_CD_CTL_WAKE = false →
      runs (.cdExpire) s (fun t => t.fset F.RTC_STAT_CD_EXPIRED = true ∧ t.fset F.RTC_CD_CTL_EN = false ∧ t.fget F.RTC_CD_VAL_COUNT = 0
       ∧ t = { s.atTimeOf t with regs := t.regs } ∧ pagesKept s t [Pg.RTC])) ∧
  (∀ (s : State),
      s.live = true → s.fset F.RTC_CD_CTL_EN = true → s.aonRuns = true → s.fset F.RTC_CD_CTL_RELOAD = true → s.fset F.RTC_CD_CTL_WAKE = false →
      runs (.cdExpire) s (fun t => t.fset F.RTC_STAT_CD_EXPIRED = true ∧ t.fset F.RTC_CD_CTL_EN = true
       ∧ t.fget F.RTC_CD_VAL_COUNT = s.fget F.RTC_CD_LOAD_COUNT ∧ t = { s.atTimeOf t with regs := t.regs, rtc := t.rtc } ∧ pagesKept s t [Pg.RTC])) ∧
  (∀ (s : State),
      s.live = true → s.sup.ppsInMono.all (fun x => decide (x + 100000 ≤ s.monoNow)) = true →
      runs (.ppsIn) s (fun t => t.get64 R.PTP_PPS_IN_LO = s.now ∧ t.rd R.PTP_PPS_IN_COUNT = s.rd R.PTP_PPS_IN_COUNT + 1
       ∧ t.sup = { s.sup with ppsInMono := some s.monoNow } ∧ t = { s with regs := t.regs, hiWords := t.hiWords, sup := t.sup }
       ∧ regsKept s t [R.PTP_PPS_IN_LO, R.PTP_PPS_IN_COUNT, R.INT_RAW Pg.PTP])) ∧
  (∀ (x : Nat) (s : State),
      s.live = true → s.sup.ppsInMono = some x → s.monoNow < x + 100000 → runs (.ppsIn) s (fun t => t = s)) ∧
  (∀ (s : State),
      s.live = true → runs (.ppsOutPulse) s (fun t => (s.timeInvalid = false → t.pins = { s.pins with ppsRise := some t.monoNow })
       ∧ (s.timeInvalid = true → t.pins = s.pins) ∧ t = { s.atTimeOf t with pins := t.pins })) ∧
  (∀ (req : Req) (v : List Nat) (s : State),
      s.awake = true → s.opens req R.RTC_SEC = true → s.rtc.before = some (s.cyc, v) → runs (.rtcSecRead req) s (fun t => t.rtc.shadow = v
       ∧ t.resp = .data (BitVec.ofNat 64 (v.getD 0 0 % 2 ^ 32)) ∧ t.fset F.RTC_STAT_FROZEN = true)) ∧
  (∀ (entry : Fin 256) (s : State),
      s.live = true → s.schedOn entry = true → s.schedWord entry 1 = 0 → (s.reach (s.schedWord entry 0).toNat).stepDue = false →
      runs (.scheduleFire entry) s (fun t => t.le (schedAddr entry 3) 8 = (s.schedWord entry 0).toNat
       ∧ t.bit (R.PTP_SCHED_PEND (entry.val / 32)) (entry.val % 32) = true ∧ t.le (schedAddr entry 2) 8 % 2 = 0
       ∧ (t.le (schedAddr entry 2) 8 / 2 ^ 49) % 2 = 1 ∧ memKept s t (inRange (schedAddr entry 0) (schedAddr entry 0 + 32)) ∧ t.points = s.points)) ∧
  (∀ (entry : Fin 256) (s : State),
      s.live = true → s.schedOn entry = true → s.schedWord entry 1 ≠ 0 → (s.reach (s.schedWord entry 0).toNat).stepDue = false →
      runs (.scheduleFire entry) s (fun t => t.le (schedAddr entry 3) 8 = (s.schedWord entry 0).toNat
       ∧ t.le (schedAddr entry 0) 8 = ((s.schedWord entry 0).toNat + (s.schedWord entry 1).toNat) % 2 ^ 64 ∧ t.le (schedAddr entry 2) 8 % 2 = 1
       ∧ t.bit (R.PTP_SCHED_PEND (entry.val / 32)) (entry.val % 32) = true ∧ memKept s t (inRange (schedAddr entry 0) (schedAddr entry 0 + 32))
       ∧ t.points = s.points)) ∧
  (∀ (req : Req) (entry : Fin 256) (w : Fin 2) (v : Word64) (s : State),
      s.awake = true → s.schedGrant req entry = true → s.isActive = true → s.schedOn entry = false →
      runs (.scheduleEntryStore req entry (w.castLE (by decide)) v) s (fun t => t.le (schedAddr entry w) 8 = v.toNat
       ∧ t = { s with mem := t.mem, ecc := t.ecc, regs := t.regs, resp := .data 0 }
       ∧ memKept s t (inRange (schedAddr entry w) (schedAddr entry w + 8)) ∧ pagesKept s t [Pg.ECC 2])) ∧
  (∀ (req : Req) (entry : Fin 256) (w : Fin 2) (v : Word64) (s : State),
      s.awake = true → s.schedGrant req entry = true → s.isActive = true → s.schedOn entry = true →
      runs (.scheduleEntryStore req entry (w.castLE (by decide)) v) s (fun t => t.fset F.PTP_FAULT_BAD_WRITE = true
       ∧ onlyAnswer s t 0 [R.BLK_FAULT Pg.PTP])) ∧
  (∀ (req : Req) (entry : Fin 256) (w : Fin 4) (v : Word64) (s : State),
      s.awake = true → s.schedGrant req entry = false → runs (.scheduleEntryStore req entry w v) s (fun t => t.resp = .storeFault
       ∧ t = { s with regs := t.regs, resp := t.resp, cairn := t.cairn, denyRate := t.denyRate } ∧ pagesKept s t [Pg.SYS, Pg.CMPT, Pg.CAIRN]))

/-- Domains, samples, the active domain and steps of module time (R413, R414, R415, R416, R417, R418, R419, R428). -/
def Obligations.TimeUnit : Prop :=
  (∀ (req : Req) (d : Fin 2) (s : State),
      s.awake = true → s.opens req (R.PTP_DCFG d) = true → s.fset (F.PTP_DCFG_EN d) = false →
      runs (.domainEnable req d) s (fun t => t.fset (F.PTP_DCFG_EN d) = true ∧ t.domState d = 1 ∧ t.dom d = { lastMono := s.monoNow }
       ∧ t.fget (F.PTP_DSTAT_GOOD_RUN d) = 0 ∧ t.dom (1 - d.val) = s.dom (1 - d.val) ∧ t.mem = s.mem ∧ t.resp = .data 0)) ∧
  (∀ (req : Req) (d : Fin 2) (s : State),
      s.awake = true → s.opens req (R.PTP_DCFG d) = true → s.fset (F.PTP_DCFG_EN d) = true →
      runs (.domainDisable req d) s (fun t => t.fset (F.PTP_DCFG_EN d) = false ∧ t.domState d = 0 ∧ t.actDom ≠ some d.val ∧ t.mem = s.mem
       ∧ t.resp = .data 0)) ∧
  (∀ (req : Req) (d : Fin 2) (hi : Word) (s : State),
      s.awake = true → s.opens req (R.PTP_MO_HI d) = true → s.stepDue = false → s.badSample d (s.pair (R.PTP_MT_LO d) (R.PTP_MT_HI d)) = false →
      (s.dom d).first = true →
      runs (.ptpSampleCommit req d hi) s (fun t => (t.dom d).off = (BitVec.ofNat 64 ((s.rd (R.PTP_MO_LO d)).toNat + hi.toNat * 2 ^ 32)).toInt * 400000000000 + s.cyclesSince (s.pair (R.PTP_MT_LO d) (R.PTP_MT_HI d)) * ((s.dom d).freq - s.rate)
       ∧ (t.dom d).lastTs = (s.pair (R.PTP_MT_LO d) (R.PTP_MT_HI d)) ∧ (t.dom d).first = false ∧ (t.dom d).freq = (s.dom d).freq
       ∧ t.dom (1 - d.val) = s.dom (1 - d.val) ∧ t.mem = s.mem)) ∧
  (∀ (req : Req) (d : Fin 2) (hi : Word) (s : State),
      s.awake = true → s.opens req (R.PTP_MO_HI d) = true → s.stepDue = false → s.badSample d (s.pair (R.PTP_MT_LO d) (R.PTP_MT_HI d)) = true →
      runs (.ptpSampleCommit req d hi) s (fun t => t.fset F.PTP_FAULT_BAD_SAMPLE = true ∧ onlyAnswer s t 0 [R.BLK_FAULT Pg.PTP])) ∧
  (∀ (d : Fin 2) (s : State),
      s.live = true → (s.domState d = 1 ∨ s.domState d = 2) → s.fset F.PTP_ACT_AUTO = false → runs (.holdover d) s (fun t => t.domState d = 3
       ∧ (s.enabled Pg.PTP = true → t.bit (R.INT_RAW Pg.PTP) Ev.PTP_HOLDOVER = true) ∧ s.cyc ≤ t.cyc ∧ t.mem = s.mem)) ∧
  (∀ (req : Req) (n : Fin 2) (s : State),
      s.awake = true → s.opens req R.PTP_ACT = true → s.actDom = none →
      runs (.ptpSelect req (BitVec.ofNat 2 (n.val + 1))) s (fun t => t.fget F.PTP_ACT_SEL = n.val + 1 ∧ t.actDom = some n.val ∧ t.ptp.fromNone = true
       ∧ t.ptp.lastFreq = s.ptp.lastFreq ∧ t.mem = s.mem ∧ t.resp = .data 0)) ∧
  (∀ (req : Req) (s : State),
      s.awake = true → s.opens req R.PTP_ACT = true → runs (.ptpSelect req 3) s (fun t => t.fset F.PTP_FAULT_BAD_WRITE = true
       ∧ onlyAnswer s t 0 [R.BLK_FAULT Pg.PTP])) ∧
  (∀ (req : Req) (d n : Fin 2) (s : State),
      s.awake = true → s.opens req R.PTP_ACT = true → s.actDom = some d.val → n ≠ d → s.ptp.steps = [] → s.switchable n = false →
      runs (.ptpSelect req (BitVec.ofNat 2 (n.val + 1))) s (fun t => t.fset F.PTP_FAULT_SWITCH_REF = true ∧ onlyAnswer s t 0 [R.BLK_FAULT Pg.PTP])) ∧
  (∀ (d : Nat) (s : State),
      s.live = true → s.actDom = some d → s.ptp.slewing = true → mag (s.dom d).off ≤ s.lockNs d * offUnit →
      runs (.slewDone) s (fun t => t.ptp = { s.ptp with slewing := false } ∧ t = { s with regs := t.regs, ptp := t.ptp }
       ∧ regsKept s t [R.INT_RAW Pg.PTP] ∧ (s.enabled Pg.PTP = true → t.bit (R.INT_RAW Pg.PTP) Ev.PTP_SLEW_DONE = true))) ∧
  (∀ (req : Req) (hi : Word) (s : State),
      s.awake = true → s.opens req R.PTP_STEP_CMD_HI = true → s.fget F.PTP_ACT_SEL = 0 →
      runs (.stepCmd req hi) s (fun t => t = { s with ptp := { s.ptp with steps := s.ptp.steps ++ [{ at_ := s.now + 10000, amount := (BitVec.ofNat 64 ((s.rd R.PTP_STEP_CMD_LO).toNat + hi.toNat * 2 ^ 32)).toInt, clears := true }] }, resp := .data 0 })) ∧
  (∀ (req : Req) (hi : Word) (s : State),
      s.awake = true → s.opens req R.PTP_STEP_CMD_HI = true → s.fget F.PTP_ACT_SEL ≠ 0 →
      runs (.stepCmd req hi) s (fun t => t.fset F.PTP_FAULT_STEP_REF = true ∧ onlyAnswer s t 0 [R.BLK_FAULT Pg.PTP])) ∧
  (∀ (p : PStep) (l : List PStep) (s : State),
      s.live = true → s.ptp.steps = p :: l → p.align = false → s.ptp.selWait = none → runs (.timeStep) s (fun t => t.ptp.steps = l
       ∧ t.mt = (s.reach p.at_).mt + BitVec.ofInt 96 (p.amount * 2 ^ 32) ∧ t.mono = (s.reach p.at_).mono
       ∧ t.get64 R.PTP_STEP_NS_LO = (BitVec.ofInt 64 p.amount).toNat ∧ (t.rd R.PTP_STEP_COUNT).toNat = satCount (s.rd R.PTP_STEP_COUNT) 1
       ∧ (s.enabled Pg.PTP = true → t.bit (R.INT_RAW Pg.PTP) Ev.PTP_STEP = true)))

/-- Frames at the ports, links, learned addresses and HSR (R436, R437, R438, R439, R440, R441, R458, R459). -/
def Obligations.SwitchAndPorts : Prop :=
  (∀ (port : Fin 4) (frame : EthFrame) (transit : Nat) (s : State),
      s.awake = true → s.portLink port = false → runs (.ethFrameRx port frame transit) s (fun t => t = s.netRun)) ∧
  (∀ (port : Fin 4) (frame : EthFrame) (transit : Nat) (s : State),
      s.awake = true → s.portLink port = true → rxBad frame = true → s.net.eg.toList.all (·.isEmpty) = true →
      runs (.ethFrameRx port frame transit) s (fun t => (t.rd (R.MAC_RX_ERR port)).toNat = satCount (s.rd (R.MAC_RX_ERR port)) 1
       ∧ onlyRegs s t [R.MAC_RX_ERR port, R.INT_RAW (Pg.MAC port)])) ∧
  (∀ (port : Fin 4) (frame : EthFrame) (transit : Nat) (s : State),
      s.awake = true → s.portLink port = true → rxBad frame = false → (s.enabled Pg.SW = false ∨ isPause frame = true) →
      s.net.eg.toList.all (·.isEmpty) = true →
      runs (.ethFrameRx port frame transit) s (fun t => t.rd (R.MAC_RX_FRAMES port) = s.rd (R.MAC_RX_FRAMES port) + 1
       ∧ onlyRegs s t [R.MAC_RX_FRAMES port])) ∧
  (∀ (port : Fin 4) (frame : EthFrame) (transit q : Nat) (s : State),
      s.awake = true → s.portLink port = true → rxBad frame = false → s.enabled Pg.SW = true → s.hsrOn = false → isPause frame = false →
      isReserved frame.dst = false → isGroup frame.dst = false → frame.src ≠ frame.dst → s.vlanMember (s.vidOf port frame) port = true →
      s.fset F.SW_MODE_TC_EN = false → s.learns port = true → s.forwards port = true → s.targets port (s.vidOf port frame) frame = [q] → q < 4 →
      s.portLink q = true → s.net.eg.toList.all (·.isEmpty) = true → s.lqOf q = [] → s.busyTo q ≤ s.monoNow →
      runs (.ethFrameRx port frame transit) s (fun t => t.net.out.toList.getD q none = some (s.dress q (s.ingressOf port transit frame).1 none frame)
       ∧ (t.egOf q) = [] ∧ t.rd (R.MAC_TX_FRAMES q) = s.rd (R.MAC_TX_FRAMES q) + 1 ∧ t.rd (R.MAC_RX_FRAMES port) = s.rd (R.MAC_RX_FRAMES port) + 1
       ∧ (isGroup frame.src = false → s.net.fdb.length < fdbSize → tabFind t.net.fdb (fdbKey (s.vidOf port frame) frame.src) = some (port.val, s.monoNow))
       ∧ t = { s with regs := t.regs, net := t.net, draws := t.draws })) ∧
  (∀ (port : Fin 4) (frame : EthFrame) (transit q : Nat) (s : State),
      s.awake = true → s.portLink port = true → rxBad frame = false → s.enabled Pg.SW = true → s.hsrOn = false → isPause frame = false →
      isReserved frame.dst = false → isGroup frame.dst = false → frame.src ≠ frame.dst → s.vlanMember (s.vidOf port frame) port = true →
      s.learns port = true → s.forwards port = true → s.targets port (s.vidOf port frame) frame = [q] → q < 4 → s.portLink q = true →
      s.net.eg.toList.all (·.isEmpty) = true → s.monoNow < s.busyTo q →
      runs (.ethFrameRx port frame transit) s (fun t => (t.egOf q).map (fun e => (e.queue, e.frame)) = [(queueOf frame (s.pcpOf port frame), s.dress q (s.ingressOf port transit frame).1 none frame)]
       ∧ t.rd (R.MAC_TX_FRAMES q) = s.rd (R.MAC_TX_FRAMES q) ∧ t.net.out = s.net.out)) ∧
  (∀ (port : Fin 4) (frame : EthFrame) (transit q : Nat) (s : State),
      s.awake = true → s.portLink port = true → rxBad frame = false → s.enabled Pg.SW = true → s.hsrOn = false → isPause frame = false →
      isReserved frame.dst = false → isGroup frame.dst = false → frame.src ≠ frame.dst → s.vlanMember (s.vidOf port frame) port = true →
      s.learns port = true → s.forwards port = true → s.targets port (s.vidOf port frame) frame = [q] → q < 4 → s.portLink q = true →
      s.netRun.net.eg = s.net.eg → s.egRoom q (frameLength (s.dress q (s.ingressOf port transit frame).1 none frame)) = false →
      runs (.ethFrameRx port frame transit) s (fun t => t.net.eg = s.net.eg ∧ (t.rd R.SW_DROP).toNat = satCount (s.rd R.SW_DROP) 1
       ∧ t.net.out = s.net.out)) ∧
  (∀ (port : Fin 4) (s : State),
      s.awake = true → s.linkable port = true → s.portLink port = false → s.net.eg.toList.all (·.isEmpty) = true →
      runs (.ethLinkChange port true) s (fun t => t.portLink port = true ∧ t.bit (R.BLK_STAT Pg.SW) port = true ∧ t = { s with regs := t.regs }
       ∧ pagesKept s t [Pg.MAC port, Pg.SW])) ∧
  (∀ (port : Fin 4) (s : State),
      s.awake = true → s.portLink port = true → s.lqOf port = [] → s.net.eg.toList.all (·.isEmpty) = true →
      runs (.ethLinkChange port false) s (fun t => t.portLink port = false ∧ t.bit (R.BLK_STAT Pg.SW) port = false
       ∧ t = { s with regs := t.regs, net := t.net, cairn := t.cairn } ∧ t.net.fdb = s.net.fdb ∧ pagesKept s t [Pg.MAC port, Pg.SW, Pg.CAIRN])) ∧
  (∀ (cage : Fin 2) (present los txFault : Bool) (s : State),
      s.live = true →
      (s.fset (F.MAC_STAT_SFP_PRES cage) ≠ present ∨ s.fset (F.MAC_STAT_SFP_LOS cage) ≠ los ∨ s.fset (F.MAC_STAT_SFP_TXFLT cage) ≠ txFault) →
      s.lqOf cage = [] → s.egOf cage = [] → runs (.sfpChg cage present los txFault) s (fun t => t.fset (F.MAC_STAT_SFP_PRES cage) = present
       ∧ t.fset (F.MAC_STAT_SFP_LOS cage) = los ∧ t.fset (F.MAC_STAT_SFP_TXFLT cage) = txFault
       ∧ t.pins.sfpTxdis.get cage = (!s.enabled (Pg.MAC cage) || !present || txFault || s.sup.asleep)
       ∧ t = { s with regs := t.regs, pins := t.pins, net := t.net, cairn := t.cairn } ∧ pagesKept s t [Pg.MAC cage, Pg.SW, Pg.CAIRN])) ∧
  (∀ (k p x : Nat) (s : State),
      s.awake = true → oldestEntry s.net.fdb = some (k, p, x) → runs (.fdbAgeOut) s (fun t => t.net = { s.net with fdb := tabDel s.net.fdb k }
       ∧ t = { s.atTimeOf t with regs := t.regs, net := t.net } ∧ regsKept s t [R.SW_FDB_CNT])) ∧
  (∀ (req : Req) (s : State),
      s.awake = true → s.opens req R.SW_FDB_FLUSH = true → runs (.fdbFlushAll req) s (fun t => t.net = { s.net with fdb := [] }
       ∧ t.fget F.SW_FDB_CNT_COUNT = 0 ∧ t = { s with regs := t.regs, net := t.net, resp := .data 0 } ∧ regsKept s t [R.SW_FDB_CNT])) ∧
  (∀ (req : Req) (ports : BitVec 5) (s : State),
      s.awake = true → s.opens req R.SW_FDB_FLUSH = true →
      runs (.fdbFlushPorts req ports) s (fun t => t.net = { s.net with fdb := s.net.fdb.filter (fun e => !(ports.zeroExtend 32).getLsbD e.2.1) }
       ∧ t = { s with regs := t.regs, net := t.net, resp := .data 0 } ∧ regsKept s t [R.SW_FDB_CNT])) ∧
  (∀ (s : State) (p t : Nat) (e : EgEnt), s.egNext p = some (e, t) →
    e ∈ s.egOf p ∧ e.at_ ≤ t ∧ s.busyTo p ≤ t ∧ ∀ f ∈ s.egOf p, f.at_ ≤ t → f.queue < 8 → f.queue ≤ e.queue) ∧
  (∀ (e : HsrEnt) (s : State),
      s.awake = true → s.net.hsr.find? (fun x => !x.matched) = some e →
      runs (.hsrUniq) s (fun t => t.net = { s.net with hsr := s.net.hsr.erase e, uniq := t.net.uniq }
       ∧ ((t.rd (if e.port = 0 then R.SW_HSR_UNIQ0 else R.SW_HSR_UNIQ1)).toNat = satCount (s.rd (if e.port = 0 then R.SW_HSR_UNIQ0 else R.SW_HSR_UNIQ1)) 1)
       ∧ t = { s.atTimeOf t with regs := t.regs, net := t.net } ∧ regsKept s t [R.SW_HSR_UNIQ0, R.SW_HSR_UNIQ1, R.INT_RAW Pg.SW]))

/-- The rings of MAC4, launch queues, the command exchange and the hosted services (R443, R444, R445, R446, R447, R450, R452, R453). -/
def Obligations.RingsAndServices : Prop :=
  (∀ (req : Req) (v : BitVec 17) (s : State),
      s.awake = true → s.opens req R.MAC4_TX_WR = true →
      idxDiff (s.fget F.MAC4_TX_WR_INDEX) (s.fget F.MAC4_TX_RD_INDEX) ≤ idxDiff v.toNat (s.fget F.MAC4_TX_RD_INDEX) →
      idxDiff v.toNat (s.fget F.MAC4_TX_RD_INDEX) ≤ s.fget F.MAC4_TX_SIZE_ENTRIES →
      runs (.mac4TxWrWrite req v) s (fun t => t.fget F.MAC4_TX_WR_INDEX = v.toNat ∧ onlyAnswer s t 0 [R.MAC4_TX_WR])) ∧
  (∀ (req : Req) (v : BitVec 17) (s : State),
      s.awake = true → s.opens req R.MAC4_TX_WR = true → s.fget F.MAC4_TX_SIZE_ENTRIES < idxDiff v.toNat (s.fget F.MAC4_TX_RD_INDEX) →
      runs (.mac4TxWrWrite req v) s (fun t => t.fset F.MAC4_FAULT_BAD_WRITE = true ∧ onlyAnswer s t 0 [R.BLK_FAULT Pg.MAC4])) ∧
  (∀ (req : Req) (v : BitVec 17) (s : State),
      s.awake = true → s.opens req R.MAC4_RX_RD = true →
      idxDiff v.toNat (s.fget F.MAC4_RX_RD_INDEX) ≤ idxDiff (s.fget F.MAC4_RX_WR_INDEX) (s.fget F.MAC4_RX_RD_INDEX) →
      runs (.mac4RxRdWrite req v) s (fun t => t.fget F.MAC4_RX_RD_INDEX = v.toNat ∧ onlyAnswer s t 0 [R.MAC4_RX_RD])) ∧
  (∀ (req : Req) (v : BitVec 17) (s : State),
      s.awake = true → s.opens req R.MAC4_RX_RD = true →
      idxDiff (s.fget F.MAC4_RX_WR_INDEX) (s.fget F.MAC4_RX_RD_INDEX) < idxDiff v.toNat (s.fget F.MAC4_RX_RD_INDEX) →
      runs (.mac4RxRdWrite req v) s (fun t => t.fset F.MAC4_FAULT_BAD_WRITE = true ∧ onlyAnswer s t 0 [R.BLK_FAULT Pg.MAC4])) ∧
  (∀ (s : State),
      s.awake = true → s.enabled Pg.MAC4 = true → s.net.txNext ≠ s.fget F.MAC4_TX_WR_INDEX → s.le ((s.txDesc s.net.txNext) + 8) 2 < 60 →
      s.net.eg.toList.all (·.isEmpty) = true → runs (.mac4TxDescriptor) s (fun t => t.byte ((s.txDesc s.net.txNext) + 12) = 4
       ∧ t.net.txNext = (s.net.txNext + 1) % 131072 ∧ t.net.out = s.net.out
       ∧ memKept s t (inRange ((s.txDesc s.net.txNext) + 12) ((s.txDesc s.net.txNext) + 24)) ∧ pagesKept s t [Pg.MAC4])) ∧
  (∀ (p : Nat) (s : State),
      s.awake = true → s.enabled Pg.MAC4 = true → s.net.txNext ≠ s.fget F.MAC4_TX_WR_INDEX → 60 ≤ s.le ((s.txDesc s.net.txNext) + 8) 2 →
      s.le ((s.txDesc s.net.txNext) + 8) 2 ≤ 1514 → inP4Memory (s.le (s.txDesc s.net.txNext) 8) (s.le ((s.txDesc s.net.txNext) + 8) 2) = true →
      (List.range 4).filter (fun p => (s.byte ((s.txDesc s.net.txNext) + 10)).getLsbD p) = [p] → s.le ((s.txDesc s.net.txNext) + 16) 8 = 0 →
      (s.byte ((s.txDesc s.net.txNext) + 11)).getLsbD 0 = false → s.hsrOn = false → s.portLink p = true → s.net.eg.toList.all (·.isEmpty) = true →
      s.busyTo p ≤ s.monoNow → s.lqOf p = [] →
      runs (.mac4TxDescriptor) s (fun t => t.net.out.toList.getD p none = some (frameOf (s.bytesAt (s.le (s.txDesc s.net.txNext) 8) (s.le ((s.txDesc s.net.txNext) + 8) 2)))
       ∧ t.rd (R.MAC_TX_FRAMES p) = s.rd (R.MAC_TX_FRAMES p) + 1 ∧ t.byte ((s.txDesc s.net.txNext) + 12) = 1
       ∧ memKept s t (inRange ((s.txDesc s.net.txNext) + 12) ((s.txDesc s.net.txNext) + 24)) ∧ pagesKept s t [Pg.MAC4, Pg.MAC p])) ∧
  (∀ (port : Fin 4) (jitter : Nat) (e : LqEnt) (l : List LqEnt) (s : State),
      s.awake = true → s.lqOf port = e :: l → e.dropLate = false → s.hsrOn = false → s.portLink port = true →
      s.net.eg.toList.all (·.isEmpty) = true → runs (.ethLaunch port jitter) s (fun t => t.lqOf port = l
       ∧ t.net.out.toList.getD port none = some { e.frame with hsr := none } ∧ (t.byte (s.txDesc e.idx + 12) = 1 ∨ t.byte (s.txDesc e.idx + 12) = 2)
       ∧ t.rd (R.MAC_TX_FRAMES port) = s.rd (R.MAC_TX_FRAMES port) + 1 ∧ memKept s t (inRange (s.txDesc e.idx + 12) (s.txDesc e.idx + 24))
       ∧ pagesKept s t [Pg.MAC4, Pg.MAC port])) ∧
  (∀ (port : Fin 4) (e : LqEnt) (s : State),
      s.awake = true → (s.lqOf port).find? (·.dropLate) = some e → runs (.ethDropLate port) s (fun t => t.lqOf port = (s.lqOf port).erase e
       ∧ (t.rd (R.MAC_TX_DROP_LATE port)).toNat = satCount (s.rd (R.MAC_TX_DROP_LATE port)) 1 ∧ t.byte (s.txDesc e.idx + 12) = 3
       ∧ t.net.out = s.net.out ∧ memKept s t (inRange (s.txDesc e.idx + 12) (s.txDesc e.idx + 24)) ∧ pagesKept s t [Pg.MAC4, Pg.MAC port])) ∧
  (∀ (req : Req) (slot : Fin 8192) (w : Word64) (s : State),
      s.awake = true → s.cmdGrant req slot (bits64 w 15 0) = true →
      runs (.commandExchangeStore req slot w) s (fun t => t.le (cmdAddr slot) 8 = w.toNat ∧ t.le (cmdAddr slot + 8) 8 = s.now
       ∧ t.le (cmdAddr slot + 16) 8 = (s.session req).getD 0 % 2 ^ 64 ∧ memKept s t (inRange (cmdAddr slot) (cmdAddr slot + 24)) ∧ t.resp = .data 0
       ∧ t.points = s.points)) ∧
  (∀ (req : Req) (slot : Fin 8192) (w : Word64) (s : State),
      s.awake = true → s.cmdGrant req slot (bits64 w 15 0) = false → runs (.commandExchangeStore req slot w) s (fun t => t.resp = .storeFault
       ∧ t = { s with regs := t.regs, resp := t.resp, cairn := t.cairn, denyRate := t.denyRate } ∧ pagesKept s t [Pg.SYS, Pg.CMPT, Pg.CAIRN])) ∧
  (∀ (r : AccessRequest) (s : State),
      s.awake = true → s.isActive = true →
      runs (.accessRequest r) s (fun t => (t.resp = .bytes (natLe 2 1 ++ natLe 2 r.reader.toNat ++ natLe 4 r.seq.toNat ++ natLe 1 (boolNat (s.accessReason r == 0)) ++ natLe 1 (s.accessReason r) ++ natLe 2 (if s.accessReason r = 0 then r.unlockS.toNat else 0)))
       ∧ (r.loaded = false ∨ s.fset F.SYS_STAT_DRAM_READY = false → s.accessReason r = 7)
       ∧ (r.loaded = true → s.fset F.SYS_STAT_DRAM_READY = true → s.credential r.data = none → s.accessReason r = 1)
       ∧ (s.cairn.queue.length < 1024 → t.cairn.queue.length = s.cairn.queue.length + 1)
       ∧ t = { s with regs := t.regs, cairn := t.cairn, resp := t.resp } ∧ regsKept s t recordRegs)) ∧
  (∀ (pid : Fin 12288) (s : State),
      s.awake = true → s.isActive = true → s.fset F.SYS_STAT_DRAM_READY = true →
      runs (.historianSample pid) s (fun t => t.le histHeader 8 = (s.le histHeader 8 + 1) % 2 ^ 64
       ∧ t.le (histAddr (s.le histHeader 8) + 8) 2 = pid.val ∧ t.le (histAddr (s.le histHeader 8) + 12) 4 = (s.seen pid).value.toNat
       ∧ memKept s t (fun a => inRange histHeader (histHeader + 16) a || inRange (histAddr (s.le histHeader 8)) (histAddr (s.le histHeader 8) + 16) a)
       ∧ t.points = s.points))

/-- HS, ENTER, LEAVE and the switch of a service core (R467, R468, R469, R508, R555, R556, R557). -/
def Obligations.Handshakes : Prop :=
  (∀ (core : Fin 4) (src : Word64) (len out : Word) (reply : List Byte) (s : State),
      s.awake = true → s.upd.hold = false → s.fset (F.ANC_RSP_BUSY core) = false → s.trust.otp.decom = false →
      (s.session (Req.ofCore core) = none ∨ s.session (Req.ofCore core) = some 0) → mboxRange core src.toNat len.toNat = true →
      mboxRange core (src.toNat / 2 ^ 32 * 2 ^ 32 + out.toNat) reply.length = true → s.ecc.all (fun e => eccInst e.1 != some 5) = true →
      runs (.hs core src len out reply none) s (fun t => t.bytesAt (src.toNat / 2 ^ 32 * 2 ^ 32 + out.toNat) reply.length = reply
       ∧ memKept s t (inRange (src.toNat / 2 ^ 32 * 2 ^ 32 + out.toNat) (src.toNat / 2 ^ 32 * 2 ^ 32 + out.toNat + reply.length))
       ∧ t.fset (F.ANC_RSP_BUSY core) = false ∧ t.fset (F.ANC_RSP_DONE core) = true ∧ t.fget (F.ANC_RSP_RESULT core) = 0 ∧ t.cmpt = s.cmpt
       ∧ pagesKept s t [Pg.ANC])) ∧
  (∀ (core : Fin 4) (src : Word64) (len out : Word) (reply : List Byte) (l : HsLive) (s : State),
      s.awake = true → s.upd.hold = false → s.fset (F.ANC_RSP_BUSY core) = false → s.trust.otp.decom = false →
      (s.session (Req.ofCore core) = none ∨ s.session (Req.ofCore core) = some 0) → mboxRange core src.toNat len.toNat = true →
      mboxRange core (src.toNat / 2 ^ 32 * 2 ^ 32 + out.toNat) reply.length = true → s.cmpt.sessions.length < 256 →
      s.ecc.all (fun e => eccInst e.1 != some 5) = true →
      runs (.hs core src len out reply (some l)) s (fun t => t.cmpt.sessions.any (fun e => e.2 == { comp := l.comp.val, idle := l.idle.getD 300 * 1000000000, lastUse := s.monoNow }) = true
       ∧ t.bytesAt (src.toNat / 2 ^ 32 * 2 ^ 32 + out.toNat) reply.length = reply
       ∧ t.fset (F.ANC_RSP_BUSY core) = false ∧ t.fset (F.ANC_RSP_DONE core) = true ∧ t.fget (F.ANC_RSP_RESULT core) = 0 ∧ pagesKept s t [Pg.ANC])) ∧
  (∀ (core : Fin 4) (src : Word64) (len out : Word) (reply : List Byte) (live : Option HsLive) (s : State),
      s.awake = true → s.upd.hold = false → s.fset (F.ANC_RSP_BUSY core) = false → s.trust.otp.decom = false →
      (s.session (Req.ofCore core) = none ∨ s.session (Req.ofCore core) = some 0) → mboxRange core src.toNat len.toNat = false →
      s.ecc.all (fun e => eccInst e.1 != some 5) = true →
      runs (.hs core src len out reply live) s (fun t => t.fset (F.ANC_RSP_BUSY core) = false ∧ t.fset (F.ANC_RSP_DONE core) = true ∧ t.fget (F.ANC_RSP_RESULT core) = 3
       ∧ t = { s with regs := t.regs, draws := s.draws + 1 } ∧ pagesKept s t [Pg.ANC])) ∧
  (∀ (core : Fin 4) (handle : Word) (x : Session) (s : State),
      s.awake = true → s.upd.hold = false → s.fset (F.ANC_RSP_BUSY core) = false → s.trust.otp.decom = false → 2 ≤ core.val →
      tabFind s.cmpt.sessions handle.toNat = some x → handle.toNat < 65536 → x.comp < 64 → s.isActive = true →
      (x.comp = 0 ∨ (s.fset F.SYS_STAT_DRAM_READY = true ∧ s.cmpt.wiping.contains x.comp = false)) →
      s.ecc.all (fun e => eccInst e.1 != some 5) = true → runs (.enter core handle) s (fun t => t.session (Req.ofCore core) = some x.comp
       ∧ t.coreHandle (core.val - 2) = some handle.toNat ∧ tabFind t.cmpt.sessions handle.toNat = some { x with lastUse := s.monoNow }
       ∧ t.fset (F.ANC_RSP_BUSY core) = false ∧ t.fset (F.ANC_RSP_DONE core) = true ∧ t.fget (F.ANC_RSP_RESULT core) = 0 ∧ t.mem = s.mem
       ∧ pagesKept s t [Pg.ANC, Pg.CMPT])) ∧
  (∀ (core : Fin 4) (handle : Word) (s : State),
      s.awake = true → s.upd.hold = false → s.fset (F.ANC_RSP_BUSY core) = false → s.trust.otp.decom = false → 2 ≤ core.val →
      tabFind s.cmpt.sessions handle.toNat = none → s.ecc.all (fun e => eccInst e.1 != some 5) = true →
      runs (.enter core handle) s (fun t => t.fset (F.ANC_RSP_BUSY core) = false ∧ t.fset (F.ANC_RSP_DONE core) = true ∧ t.fget (F.ANC_RSP_RESULT core) = 1
       ∧ t = { s with regs := t.regs, draws := s.draws + 1 } ∧ pagesKept s t [Pg.ANC])) ∧
  (∀ (core : Fin 4) (s : State),
      s.awake = true → s.upd.hold = false → s.fset (F.ANC_RSP_BUSY core) = false → s.trust.otp.decom = false → 2 ≤ core.val →
      s.ecc.all (fun e => eccInst e.1 != some 5) = true → runs (.leave core) s (fun t => t.session (Req.ofCore core) = none
       ∧ t.fset (F.ANC_RSP_BUSY core) = false ∧ t.fset (F.ANC_RSP_DONE core) = true ∧ t.fget (F.ANC_RSP_RESULT core) = 0
       ∧ t.cmpt.sessions = s.cmpt.sessions ∧ t.ctx core = {} ∧ t.mem = s.mem ∧ pagesKept s t [Pg.ANC, Pg.CMPT])) ∧
  (∀ (core : Fin 4) (s : State),
      s.awake = true → s.upd.hold = false → s.fset (F.ANC_RSP_BUSY core) = false → s.trust.otp.decom = false → core.val < 2 →
      s.ecc.all (fun e => eccInst e.1 != some 5) = true →
      runs (.leave core) s (fun t => t.fset (F.ANC_RSP_BUSY core) = false ∧ t.fset (F.ANC_RSP_DONE core) = true ∧ t.fget (F.ANC_RSP_RESULT core) = 6
       ∧ t = { s with regs := t.regs } ∧ pagesKept s t [Pg.ANC])) ∧
  (∀ (c : Fin 2) (value : Word) (s : State),
      s.awake = true → runs (.cmptSwitch c value) s (fun t => t.rd (curReg c) = curWord value
       ∧ t.boot.entry.toList.getD (c.val + 2) 0 = s.pair (entryReg c) (entryReg c + 4) ∧ t.ctx (c.val + 2) = {}
       ∧ (t.coreReg c 10 = (if value.getLsbD 8 then BitVec.ofNat 64 (value.toNat % 64) else 0xFFFFFFFF))
       ∧ (t.coreReg c 11 = (if value.getLsbD 8 then BitVec.ofNat 64 (value.toNat / 65536) else 0)) ∧ (∀ k, k ≠ 10 → k ≠ 11 → t.coreReg c k = 0)
       ∧ t.fget (switchesFld c) = min (s.fget (switchesFld c) + 1) (fieldSize (switchesFld c) - 1)
       ∧ t = { s with regs := t.regs, boot := t.boot, cairn := t.cairn, cmpt := { s.cmpt with core := t.cmpt.core }, resp := .data 0 }
       ∧ regsKept s t [curReg c, R.CMPT_SWITCHES]))

/-- OPEN, SEAL, CLOSE and the end of a session (R464, R467, R470, R471, R556, R557). -/
def Obligations.SessionRecords : Prop :=
  (∀ (core : Fin 4) (src : Word64) (len dst : Word) (b : List Byte) (h n : Nat) (s : State),
      s.awake = true → s.upd.hold = false → s.fset (F.ANC_RSP_BUSY core) = false → s.trust.otp.decom = false → 2 ≤ core.val →
      s.coreHandle (core.val - 2) = some h → s.session (Req.ofCore core) = some n → inService src.toNat len.toNat = true →
      inPlain n (plainBase n + dst.toNat) b.length = true → s.ecc.all (fun e => eccInst e.1 != some 5) = true →
      runs (.openRecord core src len dst (.bytes b)) s (fun t => t.bytesAt (plainBase n + dst.toNat) b.length = b
       ∧ memKept s t (inRange (plainBase n + dst.toNat) (plainBase n + dst.toNat + b.length))
       ∧ t.fset (F.ANC_RSP_BUSY core) = false ∧ t.fset (F.ANC_RSP_DONE core) = true ∧ t.fget (F.ANC_RSP_RESULT core) = 0 ∧ pagesKept s t [Pg.ANC])) ∧
  (∀ (core : Fin 4) (src : Word64) (len dst : Word) (h n : Nat) (s : State),
      s.awake = true → s.upd.hold = false → s.fset (F.ANC_RSP_BUSY core) = false → s.trust.otp.decom = false → 2 ≤ core.val →
      s.coreHandle (core.val - 2) = some h → s.session (Req.ofCore core) = some n → inService src.toNat len.toNat = true →
      (tabFind s.cmpt.sessions h).isSome = true → s.ecc.all (fun e => eccInst e.1 != some 5) = true →
      runs (.openRecord core src len dst .bad) s (fun t => tabFind t.cmpt.sessions h = none ∧ t.session (Req.ofCore core) = none ∧ t.mem = s.mem
       ∧ t.fset (F.ANC_RSP_BUSY core) = false ∧ t.fset (F.ANC_RSP_DONE core) = true ∧ t.fget (F.ANC_RSP_RESULT core) = 5)) ∧
  (∀ (core : Fin 4) (src : Word64) (len dst : Word) (b : List Byte) (h n : Nat) (s : State),
      s.awake = true → s.upd.hold = false → s.fset (F.ANC_RSP_BUSY core) = false → s.trust.otp.decom = false → 2 ≤ core.val →
      s.coreHandle (core.val - 2) = some h → s.session (Req.ofCore core) = some n → inPlain n src.toNat len.toNat = true → len.toNat ≤ 16384 →
      inService (0x210000000 + dst.toNat) b.length = true → s.ecc.all (fun e => eccInst e.1 != some 5) = true →
      runs (.seal core src len dst (.bytes b)) s (fun t => t.bytesAt (0x210000000 + dst.toNat) b.length = b
       ∧ memKept s t (inRange (0x210000000 + dst.toNat) (0x210000000 + dst.toNat + b.length))
       ∧ t.fset (F.ANC_RSP_BUSY core) = false ∧ t.fset (F.ANC_RSP_DONE core) = true ∧ t.fget (F.ANC_RSP_RESULT core) = 0 ∧ pagesKept s t [Pg.ANC])) ∧
  (∀ (core : Fin 4) (src : Word64) (len dst : Word) (h n : Nat) (s : State),
      s.awake = true → s.upd.hold = false → s.fset (F.ANC_RSP_BUSY core) = false → s.trust.otp.decom = false → 2 ≤ core.val →
      s.coreHandle (core.val - 2) = some h → s.session (Req.ofCore core) = some n → inPlain n src.toNat len.toNat = true → len.toNat ≤ 16384 →
      (tabFind s.cmpt.sessions h).isSome = true → s.ecc.all (fun e => eccInst e.1 != some 5) = true →
      runs (.seal core src len dst .ended) s (fun t => tabFind t.cmpt.sessions h = none ∧ t.session (Req.ofCore core) = none ∧ t.mem = s.mem
       ∧ t.fset (F.ANC_RSP_BUSY core) = false ∧ t.fset (F.ANC_RSP_DONE core) = true ∧ t.fget (F.ANC_RSP_RESULT core) = 5)) ∧
  (∀ (core : Fin 4) (handle : Word) (s : State),
      s.awake = true → s.upd.hold = false → s.fset (F.ANC_RSP_BUSY core) = false → s.trust.otp.decom = false → s.mayClose core handle.toNat = true →
      (tabFind s.cmpt.sessions handle.toNat).isSome = true → s.ecc.all (fun e => eccInst e.1 != some 5) = true →
      runs (.close core handle) s (fun t => t.cmpt.sessions = tabDel s.cmpt.sessions handle.toNat ∧ t.coreHandle 0 ≠ some handle.toNat
       ∧ t.coreHandle 1 ≠ some handle.toNat
       ∧ t.fset (F.ANC_RSP_BUSY core) = false ∧ t.fset (F.ANC_RSP_DONE core) = true ∧ t.fget (F.ANC_RSP_RESULT core) = 0 ∧ t.mem = s.mem)) ∧
  (∀ (core : Fin 4) (handle : Word) (s : State),
      s.awake = true → s.upd.hold = false → s.fset (F.ANC_RSP_BUSY core) = false → s.trust.otp.decom = false → s.mayClose core handle.toNat = true →
      (tabFind s.cmpt.sessions handle.toNat).isSome = false → s.ecc.all (fun e => eccInst e.1 != some 5) = true →
      runs (.close core handle) s (fun t => t.fset (F.ANC_RSP_BUSY core) = false ∧ t.fset (F.ANC_RSP_DONE core) = true ∧ t.fget (F.ANC_RSP_RESULT core) = 1
       ∧ t = { s with regs := t.regs, draws := s.draws + 1 } ∧ pagesKept s t [Pg.ANC])) ∧
  (∀ (handle : BitVec 16) (s : State),
      s.awake = true → (tabFind s.cmpt.sessions handle.toNat).isSome = true →
      runs (.sessionIdleTimeout handle) s (fun t => t.cmpt.sessions = tabDel s.cmpt.sessions handle.toNat ∧ t.coreHandle 0 ≠ some handle.toNat
       ∧ t.coreHandle 1 ≠ some handle.toNat ∧ t.mem = s.mem ∧ s.cyc ≤ t.cyc)) ∧
  (∀ (n : Fin 64) (s : State),
      s.awake = true → s.cmpt.wiping.contains n.val = true →
      runs (.scratchWipeDone n) s (fun t => (∀ a, inRange (scratchBase n) (scratchBase n + 0x400000) a = true → t.byte a = 0)
       ∧ memKept s t (inRange (scratchBase n) (scratchBase n + 0x400000)) ∧ t.cmpt.wiping.contains n.val = false ∧ t.cmpt.sessions = s.cmpt.sessions
       ∧ t.regs = s.regs))

/-- Symbol lock, lanes up and down, heartbeats and their loss (R481, R482, R483, R490). -/
def Obligations.LanesAndHeartbeats : Prop :=
  (∀ (lane : Fin 2) (s : State),
      s.awake = true → s.enabled Pg.BEL = true → s.fset (laneLockFld lane) = false → s.bit R.CLK_LOST 8 = false →
      runs (.symbolLock lane) s (fun t => t.fset (laneLockFld lane) = true
       ∧ t.bel = { s.bel with lockAt := s.bel.lockAt.setIfInBounds lane s.monoNow, idAt := t.bel.idAt } ∧ (s.anyLock = true → t.bel.idAt = s.bel.idAt)
       ∧ t = { s with regs := t.regs, bel := t.bel } ∧ regsKept s t [R.BEL_LANE])) ∧
  (∀ (lane : Fin 2) (s : State),
      s.awake = true → s.enabled Pg.BEL = true → s.fset (laneLockFld lane) = true → s.fset (laneUpFld lane) = false →
      runs (.laneUp lane) s (fun t => t.fset (laneUpFld lane) = true ∧ t.bit (R.INT_RAW Pg.BEL) Ev.BEL_LANE_CHG = true
       ∧ t = { s.atTimeOf t with regs := t.regs, cairn := t.cairn }
       ∧ regsKept s t [R.BEL_LANE, R.INT_RAW Pg.BEL, R.CAIRN_DROP_BUSY, R.INT_RAW Pg.CAIRN])) ∧
  (∀ (lane : Fin 2) (n : Nat) (s : State),
      s.awake = true → s.enabled Pg.BEL = true → s.fset (laneUpFld lane) = true → s.fset (laneUpFld (1 - lane.val)) = true →
      runs (.laneDown lane true n) s (fun t => t.fset (laneUpFld lane) = false ∧ t.fset (laneLockFld lane) = false
       ∧ t.bit (R.INT_RAW Pg.BEL) Ev.BEL_LANE_CHG = true ∧ t.role = s.role ∧ t.pairState = s.pairState
       ∧ t.fget (laneErrFld lane) = min (s.fget (laneErrFld lane) + n) (fieldSize (laneErrFld lane) - 1)
       ∧ t = { s with regs := t.regs, bel := { s.bel with lockAt := t.bel.lockAt, lossAt := t.bel.lossAt }, cairn := t.cairn }
       ∧ regsKept s t [R.BEL_LANE, R.BEL_LANE_ERR, R.INT_RAW Pg.BEL, R.CAIRN_DROP_BUSY, R.INT_RAW Pg.CAIRN])) ∧
  (∀ (lane : Fin 2) (n : Nat) (s : State),
      s.awake = true → s.enabled Pg.BEL = true → s.fset (laneUpFld lane) = true → s.fset (laneUpFld (1 - lane.val)) = false → s.role = 1 →
      s.pairState ≠ 0 → runs (.laneDown lane true n) s (fun t => t.role = 0 ∧ t.pairState = 0 ∧ t.bit (R.INT_RAW Pg.BEL) Ev.BEL_PARTNER_LOST = true
       ∧ t.bit (R.INT_RAW Pg.BEL) Ev.BEL_LANE_CHG = true ∧ t.mem = s.mem ∧ t.isActive = true)) ∧
  (∀ (lane : Fin 2) (n : Nat) (s : State),
      s.awake = true → s.enabled Pg.BEL = true → s.fset (laneUpFld lane) = true → s.fset (laneUpFld (1 - lane.val)) = false → s.role = 2 →
      (s.pairState = 1 ∨ s.pairState = 2) → runs (.laneDown lane true n) s (fun t => t.role = 2 ∧ t.pairState = 0
       ∧ t.bit (R.INT_RAW Pg.BEL) Ev.BEL_PARTNER_LOST = true ∧ t.mem = s.mem)) ∧
  (∀ (lane : Fin 2) (n : Nat) (s : State),
      s.awake = true → s.enabled Pg.BEL = true → n < 16 →
      runs (.laneDown lane false n) s (fun t => t.fget (laneErrFld lane) = min (s.fget (laneErrFld lane) + n) (fieldSize (laneErrFld lane) - 1)
       ∧ t = { s with regs := t.regs } ∧ regsKept s t [R.BEL_LANE_ERR])) ∧
  (∀ (s : State),
      s.awake = true → s.enabled Pg.BEL = true →
      runs (.heartbeatSend) s (fun t => t.bel.hbOut.map (fun h => (h.mono, h.lastRx, h.tinv)) = some (t.monoNow, s.bel.hbIn.map (·.at_), s.timeInvalid)
       ∧ (∀ h ∈ t.bel.hbOut, h.mt ≤ t.now + followSpan 8 ∧ t.now ≤ h.mt + followSpan 8)
       ∧ t = { s.atTimeOf t with bel := { s.bel with hbOut := t.bel.hbOut }, draws := s.draws + 1 })) ∧
  (∀ (mt mono : Word64) (r : Option Word64) (x : Bool) (s : State),
      s.awake = true → s.enabled Pg.BEL = true → s.anyLock = true → s.steered = false →
      runs (.heartbeatRx mt mono r x) s (fun t => t.bel = { s.bel with hbIn := some { at_ := s.monoNow, mt := mt.toNat, mono := mono.toNat, tinv := x }, due := s.monoNow, miss := 0 }
       ∧ t = { s with regs := t.regs, bel := t.bel } ∧ regsKept s t [R.BEL_LINK_DLY])) ∧
  (∀ (mt mono : Word64) (r : Option Word64) (x : Bool) (s : State),
      s.awake = true → s.enabled Pg.BEL = true → s.anyLock = true → s.steered = true → runs (.heartbeatRx mt mono r x) s (fun t => t.timeInvalid = x
       ∧ t.bel.miss = 0 ∧ -(s.slewPpm * 1000000 : Int) ≤ t.rate ∧ t.rate ≤ (s.slewPpm * 1000000 : Int) ∧ t.rate = t.steerRate mt.toNat ∧ t.mt = s.mt
       ∧ t.mono = s.mono ∧ t.mem = s.mem)) ∧
  (∀ (s : State),
      s.awake = true → s.enabled Pg.BEL = true → s.bel.hbIn.isSome = true → s.bel.miss < 3 →
      runs (.heartbeatMiss) s (fun t => t.bel = { s.bel with due := s.bel.due + 50000, miss := s.bel.miss + 1 }
       ∧ (t.rd R.BEL_HB_MISS).toNat = satCount (s.rd R.BEL_HB_MISS) 1 ∧ t = { s.atTimeOf t with regs := t.regs, bel := t.bel }
       ∧ regsKept s t [R.BEL_HB_MISS])) ∧
  (∀ (s : State),
      s.awake = true → s.enabled Pg.BEL = true → s.bel.hbIn.isSome = true → 3 ≤ s.bel.miss → s.anyLock = true → s.role = 2 → s.pairState = 3 →
      s.bel.promote = none → s.bel.handing = false → runs (.heartbeatMiss) s (fun t => t.bel.promote = some true ∧ t.bel.miss = s.bel.miss + 1
       ∧ (t.rd R.BEL_HB_MISS).toNat = satCount (s.rd R.BEL_HB_MISS) 1 ∧ t = { s.atTimeOf t with regs := t.regs, bel := t.bel }
       ∧ regsKept s t [R.BEL_HB_MISS])) ∧
  (∀ (s : State),
      s.awake = true → s.enabled Pg.BEL = true → s.role = 2 → s.pairState = 3 → s.bel.promote = none → s.bel.handing = false →
      runs (.down) s (fun t => t = { s with bel := { s.bel with promote := some true } })) ∧
  (∀ (s : State),
      s.awake = true → s.enabled Pg.BEL = true → (s.role ≠ 2 ∨ s.pairState ≠ 3) → runs (.down) s (fun t => t = s)) ∧
  (∀ (s : State),
      s.awake = true → s.enabled Pg.BEL = true → s.role = 2 → s.pairState = 3 → 4 ≤ s.bel.miss → s.anyLock = false → s.bel.promote = none →
      s.bel.handing = false → s.bel.foreign.all (fun x => decide (x.2 < s.bel.lossAt)) = true →
      runs (.linkLossDecide) s (fun t => t = { s.atTimeOf t with bel := { s.bel with promote := some true } })) ∧
  (∀ (f : Nat × Nat) (s : State),
      s.awake = true → s.enabled Pg.BEL = true → s.role = 2 → s.pairState = 3 → 4 ≤ s.bel.miss → s.anyLock = false → s.bel.promote = none →
      s.bel.foreign = some f → s.bel.lossAt ≤ f.2 → runs (.linkLossDecide) s (fun t => t.pairState = 0 ∧ t.role = 2 ∧ t.bel.promote = none
       ∧ t.bit (R.INT_RAW Pg.BEL) Ev.BEL_PARTNER_LOST = true ∧ t.mem = s.mem))

/-- Identity messages, the role of a start-up, the pair states, and the images that a module loads (R6, R477, R478, R479, R487, R545, R567). -/
def Obligations.IdentityRolesAndImages : Prop :=
  (∀ (s : State),
      s.awake = true → s.enabled Pg.BEL = true → s.anyLock = true →
      runs (.identityMessageSend) s (fun t => t.bel = { s.bel with idOut := some s.identity17, idAt := t.monoNow }
       ∧ t = { s.atTimeOf t with bel := t.bel })) ∧
  (∀ (m : IdMsg) (s : State),
      s.awake = true → s.enabled Pg.BEL = true → s.anyLock = true → s.pairState = 0 → s.bel.decided = true → s.role = 0 → m.starting = false →
      m.sideB ≠ s.pins.sideB → 2 ≤ m.role.val → m.image ≠ s.bel.imgDigest → m.build = s.trust.build → runs (.identityMessage m) s (fun t => t.role = 1
       ∧ t.pairState = 1 ∧ t.bit (R.INT_RAW Pg.BEL) Ev.BEL_PAIRED = true ∧ t.bel.partner = some m ∧ t.fget F.BEL_ROLE_PARTNER_ROLE = m.role.val
       ∧ t.mem = s.mem ∧ t.bel.handing = s.bel.handing)) ∧
  (∀ (m : IdMsg) (s : State),
      s.awake = true → s.enabled Pg.BEL = true → s.anyLock = true → s.pairState = 0 → s.bel.decided = true → s.role = 0 → m.starting = false →
      m.sideB ≠ s.pins.sideB → 2 ≤ m.role.val → m.image = s.bel.imgDigest → m.program = s.bel.progDigest → m.build = s.trust.build →
      runs (.identityMessage m) s (fun t => t.role = 1 ∧ t.pairState = 2 ∧ t.bit (R.INT_RAW Pg.BEL) Ev.BEL_RESYNC = true ∧ t.bel.partner = some m
       ∧ t.bel.out.map (·.kind) = some .pass ∧ t.mem = s.mem)) ∧
  (∀ (m : IdMsg) (s : State),
      s.awake = true → s.enabled Pg.BEL = true → s.anyLock = true → s.pairState = 0 → s.bel.decided = true → s.role = 0 → m.starting = false →
      m.sideB ≠ s.pins.sideB → 2 ≤ m.role.val → m.build ≠ s.trust.build →
      s.flash.boot.valid.toList.getD (1 - boolNat s.flash.boot.activeB) false = false → runs (.identityMessage m) s (fun t => t.role = 1
       ∧ t.pairState = 1 ∧ t.bit (R.INT_RAW Pg.BEL) Ev.BEL_PAIRED = true ∧ t.bel.partner = some m ∧ t.bel.out = s.bel.out ∧ t.mem = s.mem)) ∧
  (∀ (m : IdMsg) (s : State),
      s.awake = true → s.enabled Pg.BEL = true → s.anyLock = true → 2 ≤ s.pairState → s.role = 1 → m.sideB ≠ s.pins.sideB → m.role.val = 2 →
      m.pair.val = 1 → m.build ≠ s.trust.build → s.flash.boot.valid.toList.getD (1 - boolNat s.flash.boot.activeB) false = false →
      runs (.identityMessage m) s (fun t => t.role = 1 ∧ t.pairState = 1 ∧ t.bel.partner = some m ∧ t.mem = s.mem)) ∧
  (∀ (m : IdMsg) (s : State),
      s.awake = true → s.enabled Pg.BEL = true → s.anyLock = true → m.sideB = s.pins.sideB → s.pairState = 0 → m.role.val ≠ 1 →
      s.bel.conflict = false → runs (.identityMessage m) s (fun t => t.bel = { s.bel with partner := some m, conflict := true } ∧ t.pairState = 0
       ∧ t.role = s.role ∧ t = { s with regs := t.regs, bel := t.bel, cairn := t.cairn, draws := t.draws } ∧ regsKept s t ([R.BEL_ROLE] ++ recordRegs)
       ∧ (s.cairn.queue.length < 1024 → t.cairn.queue.map (·.payload) = s.cairn.queue.map (·.payload) ++ [natLe 2 Pg.BEL ++ natLe 2 noBit ++ [BitVec.ofNat 8 (boolNat s.pins.sideB)]]))) ∧
  (∀ (m : IdMsg) (s : State),
      s.awake = true → s.enabled Pg.BEL = true → s.anyLock = true → m.sideB = s.pins.sideB → s.pairState = 0 → m.role.val ≠ 1 →
      s.bel.conflict = true → runs (.identityMessage m) s (fun t => t.bel = { s.bel with partner := some m }
       ∧ t = { s with regs := t.regs, bel := t.bel } ∧ t.role = s.role ∧ t.pairState = 0 ∧ t.fset F.BEL_ROLE_PARTNER_PFW = m.pfw
       ∧ regsKept s t [R.BEL_ROLE])) ∧
  (∀ (s : State),
      s.awake = true → s.enabled Pg.BEL = true → s.bel.decided = false → s.bel.partner = none → s.bel.foreign = none →
      runs (.roleDecide) s (fun t => s.bel.roleAt + 5000000 ≤ t.monoNow
       ∧ t = { s.atTimeOf t with bel := { s.bel with decided := true, roleAt := s.monoNow } })) ∧
  (∀ (f : Nat × Nat) (s : State),
      s.awake = true → s.enabled Pg.BEL = true → s.bel.decided = false → s.bel.partner = none → s.bel.foreign = some f →
      runs (.roleDecide) s (fun t => t.role = 3 ∧ t.pairState = s.pairState ∧ t.isActive = false ∧ t.bel.decided = true
       ∧ t.running = Vector.replicate 2 [] ∧ t.mem = s.mem)) ∧
  (∀ (m : IdMsg) (s : State),
      s.awake = true → s.enabled Pg.BEL = true → s.bel.decided = false → s.bel.partner = some m → m.sideB ≠ s.pins.sideB → m.starting = true →
      m.image ≠ s.bel.imgDigest → m.build = s.trust.build → runs (.roleDecide) s (fun t => (t.role = (if s.pins.sideB then 2 else 1))
       ∧ t.pairState = 1 ∧ t.bel.decided = true ∧ (s.mtr.handed = [] → t.mem = s.mem))) ∧
  (∀ (m : IdMsg) (s : State),
      s.awake = true → s.enabled Pg.BEL = true → s.bel.decided = false → s.bel.partner = some m → m.sideB ≠ s.pins.sideB → m.starting = false →
      m.role.val < 2 → m.image ≠ s.bel.imgDigest → m.build = s.trust.build → runs (.roleDecide) s (fun t => t.role = 2 ∧ t.pairState = 1
       ∧ t.isActive = false ∧ t.bel.decided = true ∧ t.running = Vector.replicate 2 [] ∧ (s.mtr.handed = [] → t.mem = s.mem))) ∧
  (∀ (s : State),
      s.awake = true → s.enabled Pg.BEL = true → s.standby = true → s.pairState ≠ 3 → s.bel.promote = none → s.ckptBest = none →
      runs (.coldTake) s (fun t => t.role = 0 ∧ t.pairState = 0 ∧ t.isActive = true ∧ t.fget F.IOS_STAT_PHASE = 1
       ∧ t.fset F.IOS_STAT_IMAGE_FULL = false ∧ t.mfp.stations.map (·.1) = s.mfp.stations.map (·.1)
       ∧ t.mfp.stations.all (fun e => e.2.st == .lost || e.2.st == .absent) = true
       ∧ memKept s t (fun a => !inRange s.bankBase (s.bankBase + 0x400000) a))) ∧
  (∀ (s : State),
      s.awake = true → s.enabled Pg.BEL = true → s.pairState = 2 → s.role = 1 → s.upd.pairStep ≠ 1 → runs (.synced) s (fun t => t.pairState = 3
       ∧ t.bit (R.INT_RAW Pg.BEL) Ev.BEL_SYNCED = true ∧ t.bel = { s.bel with swapFrom := s.monoNow, retryAt := none }
       ∧ t.fset F.BEL_STAT_SYNCED = true ∧ t = { s with regs := t.regs, bel := t.bel, cairn := t.cairn }
       ∧ regsKept s t [R.BEL_ROLE, R.BLK_STAT Pg.BEL, R.INT_RAW Pg.BEL, R.CAIRN_DROP_BUSY, R.INT_RAW Pg.CAIRN])) ∧
  (∀ (s : State),
      s.awake = true → s.pins.ready = false → s.boot.rtRun = true → s.boot.recovery = false → s.stageBefore 7 = false →
      runs (.configAccept none) s (fun t => t.pins.ready = true ∧ t.fset F.SYS_STAT_READY = true
       ∧ t.rd R.RST_BOOT_TIME = BitVec.ofNat 32 (s.cyc / 400) ∧ t.mem = s.mem ∧ t.tier = s.tier ∧ pagesKept s t [Pg.SYS, Pg.RST])) ∧
  (∀ (c : ConfigImage) (s : State),
      s.awake = true → s.pins.ready = true → (cfgExceeds c).isSome = true → s.boot.rtRun = true → s.boot.recovery = false → s.stageBefore 7 = false →
      runs (.configAccept (some c)) s (fun t => t = { s with regs := t.regs, cairn := t.cairn } ∧ regsKept s t recordRegs)) ∧
  (∀ (c : ConfigImage) (s : State),
      s.awake = true → s.enabled Pg.BEL = false → s.pins.ready = false → cfgExceeds c = none → s.boot.rtRun = true → s.boot.recovery = false →
      s.stageBefore 7 = false → runs (.configAccept (some c)) s (fun t => t.tier = some c.tier ∧ t.bel.imgDigest = c.digest ∧ t.pins.ready = true
       ∧ t.fset F.CMPT_STAT_LOADED = true ∧ t.enabled Pg.IOS = true ∧ t.enabled Pg.FNET = true ∧ t.enabled Pg.LIO = true
       ∧ t.mfp.stations.length ≤ c.stations.length ∧ t.role = s.role)) ∧
  (∀ (o : Nat) (b : Byte) (m : IdMsg) (s : State),
      s.awake = true → s.enabled Pg.BEL = true → s.role = 2 → s.pairState = 1 → s.bel.partner = some m → m.image = s.bel.imgDigest →
      m.build = s.trust.build → s.bel.hbIn = none → o < 0x400000 →
      runs (.partnerImageLoaded none (some [(o, b)])) s (fun t => t.bel.progDigest = m.program ∧ t.pairState = 2 ∧ t.role = 2
       ∧ (∀ a, inRange s.bankBase (s.bankBase + 0x400000) a = true → t.byte a = (if a = s.bankBase + o then b else 0))
       ∧ memKept s t (inRange s.bankBase (s.bankBase + 0x400000)))) ∧
  (∀ (img : Option ConfigImage) (program : Option (List (Nat × Byte))) (m : IdMsg) (s : State),
      s.awake = true → s.enabled Pg.BEL = true → s.bel.partner = some m → m.build ≠ s.trust.build →
      runs (.partnerImageLoaded img program) s (fun t => t = s)) ∧
  (∀ (c : ConfigImage) (m : IdMsg) (s : State),
      s.awake = true → s.enabled Pg.BEL = true → s.role = 2 → s.pairState = 1 → s.bel.decided = true → s.bel.partner = some m → m.image = c.digest →
      m.program = s.bel.progDigest → m.build = s.trust.build → s.bel.hbIn = none → cfgExceeds c = none →
      runs (.partnerImageLoaded (some c) none) s (fun t => t.bel.imgDigest = c.digest ∧ t.tier = some c.tier ∧ t.pairState = 2 ∧ t.role = 2))

/-- SWAP, CANCEL and RELINQUISH, the swaps that fall due, the ALIVE timeout and the promotion (R488, R489, R491, R492, R493, R499). -/
def Obligations.Handovers : Prop :=
  (∀ (req : Req) (s : State),
      s.awake = true → s.opens req R.BEL_CMD = true → s.swapOk = true → s.role = 1 → s.pairState = 3 →
      runs (.swap req) s (fun t => t.bel = { s.bel with swap := some (s.monoNow + 10000000000), retryAt := none }
       ∧ t = { s with bel := t.bel, ochg := { s.ochg with testAt := some s.cyc }, resp := .data 0 })) ∧
  (∀ (req : Req) (s : State),
      s.awake = true → s.opens req R.BEL_CMD = true → s.swapOk = false → s.role = 1 → s.pairState = 3 →
      runs (.swap req) s (fun t => t.bel = { s.bel with swap := none, retryAt := some (s.monoNow + 3600000000000) }
       ∧ t = { s with regs := t.regs, bel := t.bel, cairn := t.cairn, resp := .data 0 }
       ∧ (s.enabled Pg.BEL = true → t.bit (R.INT_RAW Pg.BEL) Ev.BEL_SWAP_REFUSED = true)
       ∧ regsKept s t [R.INT_RAW Pg.BEL, R.CAIRN_DROP_BUSY, R.INT_RAW Pg.CAIRN])) ∧
  (∀ (req : Req) (s : State),
      s.awake = true → s.opens req R.BEL_CMD = true → (s.role ≠ 1 ∨ s.pairState ≠ 3) → runs (.swap req) s (fun t => t.fset F.BEL_FAULT_BAD_CMD = true
       ∧ onlyAnswer s t 0 [R.BLK_FAULT Pg.BEL])) ∧
  (∀ (req : Req) (s : State),
      s.awake = true → s.opens req R.BEL_CMD = true → s.isActive = true →
      runs (.cancel req) s (fun t => t = { s with bel := { s.bel with swap := none }, resp := .data 0 })) ∧
  (∀ (req : Req) (s : State),
      s.awake = true → s.opens req R.BEL_CMD = true → s.isActive = false → runs (.cancel req) s (fun t => t.fset F.BEL_FAULT_BAD_CMD = true
       ∧ onlyAnswer s t 0 [R.BLK_FAULT Pg.BEL])) ∧
  (∀ (req : Req) (s : State),
      s.awake = true → s.opens req R.BEL_CMD = true → s.bel.hbIn = none → s.role = 1 → s.pairState = 3 → runs (.relinquish req) s (fun t => t.role = 2
       ∧ t.pairState = 2 ∧ t.isActive = false ∧ t.running = Vector.replicate 2 [] ∧ t.loops.all (fun e => e.2.due.isNone) = true
       ∧ (s.enabled Pg.BEL = true ∧ s.anyLock = true → t.bel.downAt = some s.monoNow) ∧ (s.mtr.handed = [] → t.mem = s.mem) ∧ t.resp = .data 0)) ∧
  (∀ (req : Req) (s : State),
      s.awake = true → s.opens req R.BEL_CMD = true → (s.role ≠ 1 ∨ s.pairState ≠ 3) →
      runs (.relinquish req) s (fun t => t.fset F.BEL_FAULT_BAD_CMD = true ∧ onlyAnswer s t 0 [R.BLK_FAULT Pg.BEL])) ∧
  (∀ (x : Nat) (s : State),
      s.awake = true → s.enabled Pg.BEL = true → s.swapDueAt = some x → s.bel.swap = none → s.ochg.st = .idle → s.upd.pairStep = 0 →
      s.swapOk = true → s.role = 1 → s.pairState = 3 →
      runs (.swapDue) s (fun t => t.bel = { s.bel with swap := some (t.monoNow + 10000000000), retryAt := none }
       ∧ t = { s.atTimeOf t with bel := t.bel, ochg := { s.ochg with testAt := some t.cyc } })) ∧
  (∀ (x : Nat) (s : State),
      s.awake = true → s.enabled Pg.BEL = true → s.swapDueAt = some x → s.ochg.st ≠ .idle → runs (.swapDue) s (fun t => t = s.atTimeOf t)) ∧
  (∀ (x : Nat) (s : State),
      s.awake = true → s.enabled Pg.BEL = true → s.bel.swap = some x →
      runs (.swapRefused) s (fun t => t.bel = { s.bel with swap := none, retryAt := some (t.monoNow + 3600000000000) }
       ∧ t.bit (R.INT_RAW Pg.BEL) Ev.BEL_SWAP_REFUSED = true ∧ t = { s.atTimeOf t with regs := t.regs, bel := t.bel, cairn := t.cairn }
       ∧ regsKept s t [R.INT_RAW Pg.BEL, R.CAIRN_DROP_BUSY, R.INT_RAW Pg.CAIRN])) ∧
  (∀ (req : Req) (s : State),
      s.awake = true → s.opens req R.BEL_ALIVE = true →
      runs (.alive req) s (fun t => t = { s with bel := { s.bel with aliveAt := s.monoNow }, resp := .data 0 })) ∧
  (∀ (s : State),
      s.awake = true → s.enabled Pg.BEL = true → s.isActive = true → s.fget F.BEL_ALIVE_CFG_MS ≠ 0 → (s.role ≠ 1 ∨ s.pairState ≠ 3) →
      runs (.aliveTimeout) s (fun t => t.bit (R.INT_RAW Pg.BEL) Ev.BEL_DEMOTED = true ∧ t.bel = { s.bel with aliveAt := t.monoNow }
       ∧ t = { s.atTimeOf t with regs := t.regs, bel := t.bel, cairn := t.cairn }
       ∧ regsKept s t [R.INT_RAW Pg.BEL, R.CAIRN_DROP_BUSY, R.INT_RAW Pg.CAIRN])) ∧
  (∀ (s : State),
      s.awake = true → s.enabled Pg.BEL = true → s.fget F.BEL_ALIVE_CFG_MS ≠ 0 → s.bel.hbIn = none → s.role = 1 → s.pairState = 3 →
      runs (.aliveTimeout) s (fun t => t.bit (R.INT_RAW Pg.BEL) Ev.BEL_DEMOTED = true ∧ (t.role = (if s.anyUp then 2 else 3))
       ∧ (t.pairState = (if s.anyUp then 2 else 0)) ∧ t.isActive = false ∧ t.running = Vector.replicate 2 []
       ∧ (s.anyLock = true → t.bel.downAt = some t.monoNow) ∧ (s.mtr.handed = [] → t.mem = s.mem))) ∧
  (∀ (s : State),
      s.awake = true → s.enabled Pg.BEL = true → s.bel.promote = some true → s.role = 2 → s.bel.dual = false → runs (.promote) s (fun t => t.role = 0
       ∧ t.pairState = 0 ∧ t.bel.promote = none ∧ t.bit (R.INT_RAW Pg.BEL) Ev.BEL_FAILOVER = true ∧ t.get64 R.BEL_LAST_HO_LO = s.now
       ∧ (t.rd R.BEL_HO_COUNT).toNat = satCount (s.rd R.BEL_HO_COUNT) 1 ∧ t.fset F.TASK_STAT_RELEASE_OK = true ∧ t.fget F.IOS_STAT_PHASE = 4
       ∧ t.unlock = [])) ∧
  (∀ (s : State),
      s.awake = true → s.enabled Pg.BEL = true → s.bel.promote = some false → s.role = 2 → s.updState ≠ 5 → s.bel.dual = false →
      runs (.promote) s (fun t => t.role = 1 ∧ t.pairState = s.pairState ∧ t.bel.promote = none ∧ t.bit (R.INT_RAW Pg.BEL) Ev.BEL_HANDOVER = true
       ∧ t.get64 R.BEL_LAST_HO_LO = s.now ∧ (t.rd R.BEL_HO_COUNT).toNat = satCount (s.rd R.BEL_HO_COUNT) 1 ∧ t.fset F.TASK_STAT_RELEASE_OK = true
       ∧ t.fget F.IOS_STAT_PHASE = 4)) ∧
  (∀ (m : IdMsg) (s : State),
      s.awake = true → s.enabled Pg.BEL = true → s.bel.promote = some true → s.role = 2 → s.bel.dual = true → s.bel.partner = some m →
      m.sideB ≠ s.pins.sideB → runs (.promote) s (fun t => t.isActive = !s.pins.sideB ∧ t.bel.dual = false ∧ t.bel.promote = none
       ∧ t.bit (R.INT_RAW Pg.BEL) Ev.BEL_FAILOVER = true ∧ t.bit (R.INT_RAW Pg.BEL) Ev.BEL_DUAL_ACTIVE = true
       ∧ t.bit (R.INT_RAW Pg.BEL) Ev.BEL_DEMOTED = (s.bit (R.INT_RAW Pg.BEL) Ev.BEL_DEMOTED || s.pins.sideB) ∧ t.get64 R.BEL_LAST_HO_LO = s.now)) ∧
  (∀ (n : Fin 48) (s : State),
      s.awake = true → s.enabled Pg.BEL = true → s.bel.promote = some true → s.role = 2 → s.sameUpdate = true → s.upd.fresh = [n.val] →
      runs (.promote) s (fun t => (t.task n).first = true ∧ (t.task n).cycle = 0 ∧ (t.task n).skipped = 0 ∧ t.rd (R.TASK_OVR_CNT n) = 0
       ∧ (t.task n).notBefore = s.monoNow + 100000 ∧ t.upd.fresh = []))

/-- Copy units and checkpoints (R484, R485, R494, R495). -/
def Obligations.CopyUnitsAndCheckpoints : Prop :=
  (∀ (s : State),
      s.awake = true → s.enabled Pg.BEL = true → s.copies = true → (s.reach s.bgBoundary).stepDue = false →
      runs (.bgUnit) s (fun t => t.bel.out.map (fun u => (u.kind, u.seq)) = some (.bg, s.bel.seq) ∧ t.bel.seq = s.bel.seq + 1 ∧ t.bel.dirty = []
       ∧ t.rd R.BEL_COPY_PEAK = BitVec.ofNat 32 (max s.bel.load (s.rd R.BEL_COPY_PEAK).toNat)
       ∧ (s.mtr.handed = [] → t = { s.atTimeOf t with regs := t.regs, bel := t.bel } ∧ regsKept s t [R.BEL_COPY_PEAK]) ∧ t.mtr.handed = [])) ∧
  (∀ (n c : Nat) (k : Fin 65536) (w : List Byte) (s : State),
      s.awake = true → s.enabled Pg.BEL = true → s.role = 2 → 2 ≤ s.pairState → s.bel.expect = some n → s.bel.handing = false →
      s.sameUpdate = false → w.length = 64 →
      runs (.copyUnitApply { emptyUnit .bg with seq := n, lines := [(64 * k.val, w)], cycle := c } true) s (fun t => t.bytesAt (s.bankBase + 64 * k.val) 64 = w
       ∧ memKept s t (inRange (s.bankBase + 64 * k.val) (s.bankBase + 64 * k.val + 64)) ∧ t.bel.expect = some (n + 1)
       ∧ t.mfp = { s.mfp with nextCycle := c } ∧ t.points = s.points ∧ t.role = s.role ∧ t.pairState = s.pairState)) ∧
  (∀ (n : Nat) (u : CopyUnit) (s : State),
      s.awake = true → s.enabled Pg.BEL = true → s.role = 2 → 2 ≤ s.pairState → s.bel.expect = some n → u.seq < n →
      runs (.copyUnitApply u true) s (fun t => t = s)) ∧
  (∀ (u : CopyUnit) (s : State),
      s.awake = true → s.enabled Pg.BEL = true → s.role = 2 → s.pairState = 3 → s.bel.hbIn = none →
      runs (.copyUnitApply u false) s (fun t => t.bit (R.INT_RAW Pg.BEL) Ev.BEL_COPY_OVF = true ∧ t.bit (R.INT_RAW Pg.BEL) Ev.BEL_RESYNC = true
       ∧ t.pairState = 2 ∧ t.role = 2 ∧ t.mem = s.mem ∧ t.bel.expect = none ∧ t.mfp = s.mfp)) ∧
  (∀ (s : State),
      s.awake = true → s.enabled Pg.BEL = true → s.fget F.BEL_CKPT_CFG_S ≠ 0 → s.bel.saving = none → s.bel.ckptSlot < 2 →
      runs (.ckptSave) s (fun t => t.bel.ckptSlot = 1 - s.bel.ckptSlot ∧ t.bel.ckptSeq = (s.bel.ckptSeq + 1) % 2 ^ 32
       ∧ t.le (ckptAddr t.bel.ckptSlot) 2 = 1 ∧ t.le (ckptAddr t.bel.ckptSlot + 4) 4 = t.bel.ckptSeq ∧ t.le (ckptAddr t.bel.ckptSlot + 8) 8 = t.now
       ∧ t.bel.saving.map (·.slot) = some t.bel.ckptSlot ∧ t.bel.ckptAt = s.bel.ckptAt + s.fget F.BEL_CKPT_CFG_S * 1000000000 ∧ t.regs = s.regs
       ∧ t.points = s.points)) ∧
  (∀ (s : State),
      s.awake = true → s.enabled Pg.BEL = true → s.fget F.BEL_CKPT_CFG_S = 0 → runs (.ckptSave) s (fun t => t = s)) ∧
  (∀ (c : Ckpt) (s : State),
      s.awake = true → s.bel.saving = some c → s.bel.ckptPend = none →
      runs (.ckptDone) s (fun t => t.le (ckptAddr c.slot + c.bytes.length) 4 = (crc32c c.bytes).toNat ∧ t.bel = { s.bel with saving := none }
       ∧ memKept s t (inRange (ckptAddr c.slot + c.bytes.length) (ckptAddr c.slot + c.bytes.length + 4))
       ∧ (s.enabled Pg.BEL = true → t.bit (R.INT_RAW Pg.BEL) Ev.BEL_CKPT_DONE = true) ∧ regsKept s t [R.INT_RAW Pg.BEL] ∧ t.points = s.points))

/-- The mailbox requests of the anchor itself (R120, R124, R125, R171, R526, R552, R555, R556, R557). -/
def Obligations.AnchorRequests : Prop :=
  (∀ (core : Fin 4) (s : State),
      s.awake = true → s.upd.hold = false → s.fset (F.ANC_RSP_BUSY core) = false → s.trust.otp.decom = false → s.coreComp0 core = true →
      s.ecc.all (fun e => eccInst e.1 != some 5) = true →
      runs (.challenge core) s (fun t => t.trust.chal.any (fun c => c.1 != 0 && c.2 == s.monoNow + 600000000000) = true
       ∧ t = { s with regs := t.regs, draws := s.draws + 2, trust := { s.trust with chal := t.trust.chal } }
       ∧ t.fset (F.ANC_RSP_BUSY core) = false ∧ t.fset (F.ANC_RSP_DONE core) = true ∧ t.fget (F.ANC_RSP_RESULT core) = 0 ∧ pagesKept s t [Pg.ANC])) ∧
  (∀ (core : Fin 4) (s : State),
      s.awake = true → s.upd.hold = false → s.fset (F.ANC_RSP_BUSY core) = false → s.trust.otp.decom = false → s.coreComp0 core = false →
      s.ecc.all (fun e => eccInst e.1 != some 5) = true →
      runs (.challenge core) s (fun t => t.fset (F.ANC_RSP_BUSY core) = false ∧ t.fset (F.ANC_RSP_DONE core) = true ∧ t.fget (F.ANC_RSP_RESULT core) = 6
       ∧ t = { s with regs := t.regs } ∧ pagesKept s t [Pg.ANC])) ∧
  (∀ (core : Fin 4) (s : State),
      s.awake = true → s.upd.hold = false → s.fset (F.ANC_RSP_BUSY core) = true → runs (.challenge core) s (fun t => t.fset F.ANC_FAULT_BUSY_WR = true
       ∧ t.rd (R.ANC_REQ core) = 1 ∧ onlyRegs s t [R.ANC_REQ core, R.BLK_FAULT Pg.ANC])) ∧
  (∀ (c : BitVec 64 × Nat) (s : State),
      s.live = true → s.trust.chal = some c → runs (.challengeExpire) s (fun t => t = { s.atTimeOf t with trust := { s.trust with chal := none } })) ∧
  (∀ (core : Fin 4) (src : Word64) (len : Word) (sigOk : Bool) (s : State),
      s.awake = true → s.upd.hold = false → s.fset (F.ANC_RSP_BUSY core) = false → s.coreComp0 core = true →
      (len.toNat ≠ lcLength ∨ mboxRange core src.toNat len.toNat = false) → s.ecc.all (fun e => eccInst e.1 != some 5) = true →
      runs (.lcCmd core src len sigOk) s (fun t => t.fset (F.ANC_RSP_BUSY core) = false ∧ t.fset (F.ANC_RSP_DONE core) = true ∧ t.fget (F.ANC_RSP_RESULT core) = 3
       ∧ t = { s with regs := t.regs, draws := t.draws } ∧ pagesKept s t [Pg.ANC])) ∧
  (∀ (core : Fin 4) (src : Word64) (len : Word) (s : State),
      s.awake = true → s.upd.hold = false → s.fset (F.ANC_RSP_BUSY core) = false → s.coreComp0 core = true → s.trust.otp.decom = false →
      len.toNat = lcLength → mboxRange core src.toNat len.toNat = true → s.ecc.all (fun e => eccInst e.1 != some 5) = true →
      runs (.lcCmd core src len false) s (fun t => t.fset (F.ANC_RSP_BUSY core) = false ∧ t.fset (F.ANC_RSP_DONE core) = true ∧ t.fget (F.ANC_RSP_RESULT core) = 4
       ∧ t.trust = { s.trust with chal := none } ∧ t = { s with regs := t.regs, draws := t.draws, trust := t.trust, cairn := t.cairn }
       ∧ pagesKept s t [Pg.ANC, Pg.CAIRN])) ∧
  (∀ (core : Fin 4) (src : Word64) (len : Word) (sigOk : Bool) (s : State),
      s.awake = true → s.upd.hold = false → s.fset (F.ANC_RSP_BUSY core) = false → s.coreComp0 core = true → s.trust.otp.decom = true →
      len.toNat = lcLength → mboxRange core src.toNat len.toNat = true → s.ecc.all (fun e => eccInst e.1 != some 5) = true →
      runs (.lcCmd core src len sigOk) s (fun t => t.fset (F.ANC_RSP_BUSY core) = false ∧ t.fset (F.ANC_RSP_DONE core) = true ∧ t.fget (F.ANC_RSP_RESULT core) = 1
       ∧ t.trust = { s.trust with chal := none } ∧ t = { s with regs := t.regs, draws := t.draws, trust := t.trust, cairn := t.cairn }
       ∧ pagesKept s t [Pg.ANC, Pg.CAIRN])) ∧
  (∀ (core : Fin 4) (s : State),
      s.awake = true → s.upd.hold = false → s.fset (F.ANC_RSP_BUSY core) = false → s.coreComp0 core = true → s.trust.otp.decom = true →
      s.ecc.all (fun e => eccInst e.1 != some 5) = true →
      runs (.challenge core) s (fun t => t.fset (F.ANC_RSP_BUSY core) = false ∧ t.fset (F.ANC_RSP_DONE core) = true ∧ t.fget (F.ANC_RSP_RESULT core) = 1
       ∧ t = { s with regs := t.regs, draws := t.draws } ∧ pagesKept s t [Pg.ANC])) ∧
  (∀ (core : Fin 4) (dst : Word64) (s : State),
      s.awake = true → s.upd.hold = false → s.fset (F.ANC_RSP_BUSY core) = false → s.coreComp0 core = true → s.trust.otp.decom = true →
      s.ecc.all (fun e => eccInst e.1 != some 5) = true →
      runs (.deviceKey core dst) s (fun t => t.fset (F.ANC_RSP_BUSY core) = false ∧ t.fset (F.ANC_RSP_DONE core) = true ∧ t.fget (F.ANC_RSP_RESULT core) = 1
       ∧ t = { s with regs := t.regs, draws := t.draws } ∧ pagesKept s t [Pg.ANC])) ∧
  (∀ (core : Fin 4) (o : Word) (s : State),
      s.awake = true → s.upd.hold = false → s.fset (F.ANC_RSP_BUSY core) = false → s.coreComp0 core = true → s.trust.otp.decom = true →
      s.ecc.all (fun e => eccInst e.1 != some 5) = true →
      runs (.utcStore core o) s (fun t => t.fset (F.ANC_RSP_BUSY core) = false ∧ t.fset (F.ANC_RSP_DONE core) = true ∧ t.fget (F.ANC_RSP_RESULT core) = 1
       ∧ t = { s with regs := t.regs, draws := t.draws } ∧ pagesKept s t [Pg.ANC])) ∧
  (∀ (core : Fin 4) (s : State),
      s.awake = true → s.upd.hold = false → s.fset (F.ANC_RSP_BUSY core) = false → s.coreComp0 core = true → s.trust.otp.decom = true →
      s.ecc.all (fun e => eccInst e.1 != some 5) = true →
      runs (.sleep core) s (fun t => t.fset (F.ANC_RSP_BUSY core) = false ∧ t.fset (F.ANC_RSP_DONE core) = true ∧ t.fget (F.ANC_RSP_RESULT core) = 1
       ∧ t = { s with regs := t.regs, draws := t.draws } ∧ pagesKept s t [Pg.ANC])) ∧
  (∀ (core : Fin 4) (src : Word64) (len : Word) (s : State),
      s.awake = true → s.upd.hold = false → s.fset (F.ANC_RSP_BUSY core) = false → s.coreComp0 core = true → len.toNat = lcLength →
      mboxRange core src.toNat len.toNat = true →
      blockOk ((s.bytesAt src.toNat lcLength).drop 256) (lcKeyOk s.trust.otp (s.bytesAt src.toNat lcLength)) true = true →
      s.lcBodyOk (s.bytesAt src.toNat lcLength) = true → byteOf (s.bytesAt src.toNat lcLength) 2 = 2 → lcState s.trust.otp = 1 →
      s.ecc.all (fun e => eccInst e.1 != some 5) = true →
      runs (.lcCmd core src len true) s (fun t => t.fset (F.ANC_RSP_BUSY core) = false ∧ t.fset (F.ANC_RSP_DONE core) = true ∧ t.fget (F.ANC_RSP_RESULT core) = 0
       ∧ t.trust.otp = { s.trust.otp with comm := true } ∧ t.fget F.RST_LC_STAT_STATE = lcState t.trust.otp
       ∧ (s.trust.otp.service = 0 → lcState t.trust.otp = 2) ∧ t.trust.chal = none
       ∧ t.boot.pend.map (fun p => (p.warm, p.lifecycle)) = some (true, true) ∧ t.points = s.points)) ∧
  (∀ (core : Fin 4) (dst : Word64) (s : State),
      s.awake = true → s.upd.hold = false → s.fset (F.ANC_RSP_BUSY core) = false → s.trust.otp.decom = false → s.coreComp0 core = true →
      mboxRange core dst.toNat 64 = true → s.trust.otp.prov = true → s.ecc.all (fun e => eccInst e.1 != some 5) = true →
      runs (.deviceKey core dst) s (fun t => t.bytesAt dst.toNat 64 = padTo 64 (Config.devicePublicKey s.trust.otp.seed)
       ∧ memKept s t (inRange dst.toNat (dst.toNat + 64))
       ∧ t.fset (F.ANC_RSP_BUSY core) = false ∧ t.fset (F.ANC_RSP_DONE core) = true ∧ t.fget (F.ANC_RSP_RESULT core) = 0 ∧ t.trust = s.trust
       ∧ pagesKept s t [Pg.ANC])) ∧
  (∀ (core : Fin 4) (dst : Word64) (s : State),
      s.awake = true → s.upd.hold = false → s.fset (F.ANC_RSP_BUSY core) = false → s.trust.otp.decom = false → s.coreComp0 core = true →
      mboxRange core dst.toNat 64 = true → s.trust.otp.prov = false → s.ecc.all (fun e => eccInst e.1 != some 5) = true →
      runs (.deviceKey core dst) s (fun t => t.fset (F.ANC_RSP_BUSY core) = false ∧ t.fset (F.ANC_RSP_DONE core) = true ∧ t.fget (F.ANC_RSP_RESULT core) = 1
       ∧ t = { s with regs := t.regs, draws := t.draws } ∧ pagesKept s t [Pg.ANC])) ∧
  (∀ (core : Fin 4) (o : Word) (s : State),
      s.awake = true → s.upd.hold = false → s.fset (F.ANC_RSP_BUSY core) = false → s.trust.otp.decom = false → s.coreComp0 core = true →
      o.toNat ≤ 255 → s.ecc.all (fun e => eccInst e.1 != some 5) = true →
      runs (.utcStore core o) s (fun t => t.flash = { s.flash with utc := some o.toNat }
       ∧ t.fset (F.ANC_RSP_BUSY core) = false ∧ t.fset (F.ANC_RSP_DONE core) = true ∧ t.fget (F.ANC_RSP_RESULT core) = 0
       ∧ t = { s with regs := t.regs, draws := t.draws, flash := t.flash } ∧ pagesKept s t [Pg.ANC])) ∧
  (∀ (core : Fin 4) (o : Word) (s : State),
      s.awake = true → s.upd.hold = false → s.fset (F.ANC_RSP_BUSY core) = false → s.trust.otp.decom = false → s.coreComp0 core = true →
      255 < o.toNat → s.ecc.all (fun e => eccInst e.1 != some 5) = true →
      runs (.utcStore core o) s (fun t => t.fset (F.ANC_RSP_BUSY core) = false ∧ t.fset (F.ANC_RSP_DONE core) = true ∧ t.fget (F.ANC_RSP_RESULT core) = 3
       ∧ t = { s with regs := t.regs, draws := t.draws } ∧ pagesKept s t [Pg.ANC])) ∧
  (∀ (core : Fin 4) (s : State),
      s.awake = true → s.upd.hold = false → s.fset (F.ANC_RSP_BUSY core) = false → s.trust.otp.decom = false → s.coreComp0 core = true →
      s.sleepOk = true → s.ecc.all (fun e => eccInst e.1 != some 5) = true → runs (.sleep core) s (fun t => t.sup.asleep = true
       ∧ t.pins.sleepN = false ∧ t.pins.ready = false ∧ t.fset F.SYS_STAT_READY = false
       ∧ t.fset (F.ANC_RSP_BUSY core) = false ∧ t.fset (F.ANC_RSP_DONE core) = true ∧ t.fget (F.ANC_RSP_RESULT core) = 0
       ∧ t.loops.all (fun e => e.2.due.isNone) = true ∧ t.trust.otp = s.trust.otp)) ∧
  (∀ (core : Fin 4) (s : State),
      s.awake = true → s.upd.hold = false → s.fset (F.ANC_RSP_BUSY core) = false → s.trust.otp.decom = false → s.coreComp0 core = true →
      s.sleepOk = false → s.ecc.all (fun e => eccInst e.1 != some 5) = true →
      runs (.sleep core) s (fun t => t.fset (F.ANC_RSP_BUSY core) = false ∧ t.fset (F.ANC_RSP_DONE core) = true ∧ t.fget (F.ANC_RSP_RESULT core) = 1
       ∧ t = { s with regs := t.regs, draws := t.draws } ∧ pagesKept s t [Pg.ANC]))

/-- An update from UPD_BEGIN to READY (R532, R534, R535, R536, R539, R540, R556, R557, R558). -/
def Obligations.UpdateReceives : Prop :=
  (∀ (core : Fin 4) (len : Word) (s : State),
      s.awake = true → s.upd.hold = false → s.fset (F.ANC_RSP_BUSY core) = false → s.coreComp0 core = true → lcState s.trust.otp ≠ 4 →
      s.updState = 0 → contMin ≤ len.toNat → len.toNat ≤ contMax → s.ecc.all (fun e => eccInst e.1 != some 5) = true →
      runs (.updBegin core len) s (fun t => t.fset (F.ANC_RSP_BUSY core) = false ∧ t.fset (F.ANC_RSP_DONE core) = true ∧ t.fget (F.ANC_RSP_RESULT core) = 0
       ∧ t.updState = 1 ∧ t.rd R.UPD_LENGTH = len ∧ t.rd R.UPD_RX_BLOCKS = 0 ∧ t.rd R.UPD_ID ≠ 0 ∧ t.rd (R.ANC_RSP_1 core) = t.rd R.UPD_ID
       ∧ t.flash.boot.valid.toList.getD s.idleBank true = false ∧ t.flash.banks.toList.getD s.idleBank [(0, 0)] = []
       ∧ t.flash.boot.activeB = s.flash.boot.activeB ∧ t.upd.taken = [] ∧ (s.enabled Pg.UPD = true → t.bit (R.INT_RAW Pg.UPD) Ev.UPD_STATE = true)
       ∧ t.mem = s.mem ∧ t.trust = s.trust ∧ pagesKept s t [Pg.ANC, Pg.UPD, Pg.CAIRN])) ∧
  (∀ (core : Fin 4) (len : Word) (s : State),
      s.awake = true → s.upd.hold = false → s.fset (F.ANC_RSP_BUSY core) = false → s.coreComp0 core = true → lcState s.trust.otp ≠ 4 →
      s.updState = 0 → (len.toNat < contMin ∨ contMax < len.toNat) → s.ecc.all (fun e => eccInst e.1 != some 5) = true →
      runs (.updBegin core len) s (fun t => t.fset (F.ANC_RSP_BUSY core) = false ∧ t.fset (F.ANC_RSP_DONE core) = true ∧ t.fget (F.ANC_RSP_RESULT core) = 3
       ∧ t = { s with regs := t.regs, draws := t.draws } ∧ pagesKept s t [Pg.ANC])) ∧
  (∀ (core : Fin 4) (len : Word) (s : State),
      s.awake = true → s.upd.hold = false → s.fset (F.ANC_RSP_BUSY core) = false → s.coreComp0 core = true → lcState s.trust.otp = 4 →
      s.ecc.all (fun e => eccInst e.1 != some 5) = true →
      runs (.updBegin core len) s (fun t => t.fset (F.ANC_RSP_BUSY core) = false ∧ t.fset (F.ANC_RSP_DONE core) = true ∧ t.fget (F.ANC_RSP_RESULT core) = 6
       ∧ t.fget (F.ANC_RSP_VALUE core) = 13 ∧ t.fget F.UPD_REASON_CODE = 13 ∧ t = { s with regs := t.regs, draws := t.draws }
       ∧ pagesKept s t [Pg.ANC, Pg.UPD])) ∧
  (∀ (core : Fin 4) (len : Word) (s : State),
      s.awake = true → s.upd.hold = false → s.fset (F.ANC_RSP_BUSY core) = false → s.coreComp0 core = true → lcState s.trust.otp ≠ 4 →
      s.updState ≠ 0 → s.ecc.all (fun e => eccInst e.1 != some 5) = true →
      runs (.updBegin core len) s (fun t => t.fset (F.ANC_RSP_BUSY core) = false ∧ t.fset (F.ANC_RSP_DONE core) = true ∧ t.fget (F.ANC_RSP_RESULT core) = 6
       ∧ t = { s with regs := t.regs, draws := t.draws } ∧ pagesKept s t [Pg.ANC])) ∧
  (∀ (req : Req) (slot : Fin 8) (s : State),
      s.awake = true → s.opens req R.UPD_SUBMIT = true → s.slotBusy slot = false → runs (.updSubmit req slot) s (fun t => t.slotBusy slot = true
       ∧ t.bit R.UPD_SLOT_STAT (8 + slot.val) = false ∧ onlyAnswer s t 0 [R.UPD_SLOT_STAT])) ∧
  (∀ (req : Req) (slot : Fin 8) (s : State),
      s.awake = true → s.opens req R.UPD_SUBMIT = true → s.slotBusy slot = true →
      runs (.updSubmit req slot) s (fun t => t.fset F.UPD_FAULT_SLOT_BUSY = true ∧ onlyAnswer s t 0 [R.BLK_FAULT Pg.UPD])) ∧
  (∀ (slot : Fin 8) (s : State),
      s.awake = true → s.updState = 1 → s.slotBusy slot = true → s.ecc = [] → s.untested (windowSlot slot) = true →
      blockReason (s.bytesAt (windowSlot slot) 4160) (s.rd R.UPD_ID).toNat (s.rd R.UPD_LENGTH).toNat s.upd.taken (s.cont s.idleBank) = 0 →
      s.upd.taken.contains (leOf (s.bytesAt (windowSlot slot) 4160) 8 8) = false →
      runs (.updBlockDone slot none true) s (fun t => t.cont s.idleBank (leOf (s.bytesAt (windowSlot slot) 4160) 8 8) (((s.bytesAt (windowSlot slot) 4160).drop 64).take (leOf (s.bytesAt (windowSlot slot) 4160) 2 2)).length = (((s.bytesAt (windowSlot slot) 4160).drop 64).take (leOf (s.bytesAt (windowSlot slot) 4160) 2 2))
       ∧ t.upd = { s.upd with taken := (leOf (s.bytesAt (windowSlot slot) 4160) 8 8) :: s.upd.taken } ∧ t.slotBusy slot = false
       ∧ (t.rd R.UPD_RX_BLOCKS).toNat = satCount (s.rd R.UPD_RX_BLOCKS) 1
       ∧ (s.enabled Pg.UPD = true → t.bit (R.INT_RAW Pg.UPD) Ev.UPD_BLOCK_DONE = true)
       ∧ t = { s with regs := t.regs, flash := { s.flash with banks := t.flash.banks }, upd := t.upd }
       ∧ regsKept s t [R.UPD_SLOT_STAT, R.UPD_RX_BLOCKS, R.INT_RAW Pg.UPD])) ∧
  (∀ (slot : Fin 8) (writeOk : Bool) (s : State),
      s.awake = true → s.updState = 1 → s.slotBusy slot = true → s.ecc = [] → s.untested (windowSlot slot) = true →
      blockReason (s.bytesAt (windowSlot slot) 4160) (s.rd R.UPD_ID).toNat (s.rd R.UPD_LENGTH).toNat s.upd.taken (s.cont s.idleBank) ≠ 0 →
      blockReason (s.bytesAt (windowSlot slot) 4160) (s.rd R.UPD_ID).toNat (s.rd R.UPD_LENGTH).toNat s.upd.taken (s.cont s.idleBank) ≠ 4 →
      runs (.updBlockDone slot none writeOk) s (fun t => t.rd R.UPD_SLOT_ERR = BitVec.ofNat 32 (slot.val * 256 + blockReason (s.bytesAt (windowSlot slot) 4160) (s.rd R.UPD_ID).toNat (s.rd R.UPD_LENGTH).toNat s.upd.taken (s.cont s.idleBank))
       ∧ t.slotBusy slot = false ∧ t.bit R.UPD_SLOT_STAT (8 + slot.val) = true
       ∧ (s.enabled Pg.UPD = true → t.bit (R.INT_RAW Pg.UPD) Ev.UPD_BLOCK_ERR = true) ∧ t = { s with regs := t.regs }
       ∧ regsKept s t [R.UPD_SLOT_STAT, R.UPD_SLOT_ERR, R.INT_RAW Pg.UPD])) ∧
  (∀ (slot : Fin 8) (writeOk : Bool) (s : State),
      s.awake = true → s.updState ≠ 1 → s.slotBusy slot = true →
      runs (.updBlockDone slot none writeOk) s (fun t => t.rd R.UPD_SLOT_ERR = BitVec.ofNat 32 (slot.val * 256 + 6) ∧ t.slotBusy slot = false
       ∧ t = { s with regs := t.regs } ∧ regsKept s t [R.UPD_SLOT_STAT, R.UPD_SLOT_ERR, R.INT_RAW Pg.UPD])) ∧
  (∀ (core : Fin 4) (s : State),
      s.awake = true → s.upd.hold = false → s.fset (F.ANC_RSP_BUSY core) = false → s.trust.otp.decom = false → s.coreComp0 core = true →
      s.updState = 1 → s.upd.verifying = none → s.complete19 = true → s.ecc.all (fun e => eccInst e.1 != some 5) = true →
      runs (.updVerify core) s (fun t => t.upd = { s.upd with verifying := some core.val } ∧ t.fset (F.ANC_RSP_BUSY core) = true
       ∧ t = { s with regs := t.regs, upd := t.upd } ∧ pagesKept s t [Pg.ANC])) ∧
  (∀ (core : Fin 4) (s : State),
      s.awake = true → s.upd.hold = false → s.fset (F.ANC_RSP_BUSY core) = false → s.trust.otp.decom = false → s.coreComp0 core = true →
      s.updState = 1 → s.upd.verifying = none → s.complete19 = false → s.ecc.all (fun e => eccInst e.1 != some 5) = true →
      runs (.updVerify core) s (fun t => t.fset (F.ANC_RSP_BUSY core) = false ∧ t.fset (F.ANC_RSP_DONE core) = true ∧ t.fget (F.ANC_RSP_RESULT core) = 1
       ∧ t.fget (F.ANC_RSP_VALUE core) = 7 ∧ t.fget F.UPD_REASON_CODE = 7 ∧ t.updState = 1 ∧ t = { s with regs := t.regs }
       ∧ pagesKept s t [Pg.ANC, Pg.UPD])) ∧
  (∀ (core : Fin 4) (sigOk : Bool) (out : VerifyOut) (r : Nat) (s : State),
      s.awake = true → s.updState = 1 → s.complete19 = true → s.upd.verifying = some core.val →
      s.verifyReason s.idleBank (s.rd R.UPD_LENGTH).toNat sigOk (out != .badDigest) = r →
      runs (.updVerifyDone sigOk out) s (fun t => t.fset (F.ANC_RSP_BUSY core) = false ∧ t.fset (F.ANC_RSP_DONE core) = true
       ∧ (r = 0 ∧ out ≠ .notWritten → t.fget (F.ANC_RSP_RESULT core) = 0 ∧ t.flash.boot.valid.toList.getD s.idleBank false = true ∧ t.flash.boot.build.toList.getD s.idleBank 0 = s.buildOf s.idleBank ∧ t.updState ≠ 1)
       ∧ (r ≠ 0 → t.fget (F.ANC_RSP_RESULT core) = 1 ∧ t.fget (F.ANC_RSP_VALUE core) = r ∧ t.fget F.UPD_REASON_CODE = r ∧ t.updState = 0 ∧ t.flash = s.flash ∧ t.mem = s.mem)
       ∧ (r = 0 ∧ out = .notWritten → t.fget (F.ANC_RSP_RESULT core) = 1 ∧ t.fget (F.ANC_RSP_VALUE core) = 15 ∧ t.fget F.UPD_REASON_CODE = 15 ∧ t.updState = 0 ∧ t.flash = s.flash)
       ∧ t.upd.verifying = none)) ∧
  (∀ (core : Fin 4) (s : State),
      s.awake = true → s.updState = 1 → s.complete19 = true → s.upd.verifying = some core.val →
      s.verifyReason s.idleBank (s.rd R.UPD_LENGTH).toNat true true = 0 → (s.parts s.idleBank).all (fun p => p.type != 5) = true →
      runs (.updVerifyDone true .written) s (fun t => t.fset (F.ANC_RSP_BUSY core) = false ∧ t.fset (F.ANC_RSP_DONE core) = true ∧ t.fget (F.ANC_RSP_RESULT core) = 0
       ∧ t.updState = 2
       ∧ t.flash = { s.flash with boot := { s.flash.boot with seq := s.flash.boot.seq + 1, valid := s.flash.boot.valid.setIfInBounds s.idleBank true, build := s.flash.boot.build.setIfInBounds s.idleBank (s.buildOf s.idleBank) } }
       ∧ t.upd.verifying = none ∧ t.upd.stations = [] ∧ (s.enabled Pg.UPD = true → t.bit (R.INT_RAW Pg.UPD) Ev.UPD_STATE = true)
       ∧ pagesKept s t [Pg.ANC, Pg.UPD, Pg.CAIRN])) ∧
  (∀ (build : BitVec 64) (r : BitVec 4) (s : State),
      s.awake = true → s.role = 1 → s.updState = 2 → r ≠ 0 → runs (.updPartnerReport build r) s (fun t => t.updState = 0
       ∧ t.fget F.UPD_REASON_CODE = 9 ∧ t.upd.stations = [] ∧ t.upd.partner = some r.toNat ∧ t.flash = s.flash)) ∧
  (∀ (build : BitVec 64) (s : State),
      s.awake = true → s.role = 1 → s.updState = 2 → build = s.buildOf s.idleBank →
      runs (.updPartnerReport build 0) s (fun t => t = { s with upd := { s.upd with partner := some 0 } })) ∧
  (∀ (s : State),
      s.awake = true → s.updState = 2 → s.upd.stations.all (fun g => g.phase == .ready) = true → s.role ≠ 1 → s.baseOk = true →
      runs (.updReady) s (fun t => t.updState = 3 ∧ t = { s with regs := t.regs, cairn := t.cairn }
       ∧ (s.enabled Pg.UPD = true → t.bit (R.INT_RAW Pg.UPD) Ev.UPD_STATE = true) ∧ pagesKept s t [Pg.ANC, Pg.UPD, Pg.CAIRN])) ∧
  (∀ (s : State),
      s.awake = true → s.updState = 2 → s.upd.stations.all (fun g => g.phase == .ready) = false → runs (.updReady) s (fun t => t = s)) ∧
  (∀ (s : State),
      s.awake = true → s.updState = 2 → s.upd.stations.all (fun g => g.phase == .ready) = true → s.role ≠ 1 → s.baseOk = false → s.joins = false →
      runs (.updReady) s (fun t => t.updState = 0 ∧ t.fget F.UPD_REASON_CODE = 10 ∧ t.upd.stations = [] ∧ t.flash = s.flash)) ∧
  (∀ (s : State),
      s.awake = true → s.updState = 2 → s.upd.stations.all (fun g => g.phase == .ready) = true → s.joins = true →
      runs (.updReady) s (fun t => t.updState = 3 ∧ t = { s with regs := t.regs, cairn := t.cairn }
       ∧ (s.enabled Pg.UPD = true → t.bit (R.INT_RAW Pg.UPD) Ev.UPD_STATE = true) ∧ pagesKept s t [Pg.ANC, Pg.UPD, Pg.CAIRN]))

/-- The switch of an update, its confirmation and the recovery console (R535, R541, R547, R549, R554, R556, R557). -/
def Obligations.UpdateSwitches : Prop :=
  (∀ (core : Fin 4) (s : State),
      s.awake = true → s.upd.hold = false → s.fset (F.ANC_RSP_BUSY core) = false → s.trust.otp.decom = false → s.coreComp0 core = true →
      s.updState = 3 → s.role = 0 → s.ochg.st = .idle → s.ecc.all (fun e => eccInst e.1 != some 5) = true →
      runs (.updActivate core) s (fun t => t.updState = 4
       ∧ t.upd = { s.upd with activating := some core.val, limit := s.monoNow + 10000000000, step := 0, pairStep := 0 }
       ∧ t.fset (F.ANC_RSP_BUSY core) = true ∧ memKept s t (inRange s.spareBase (s.spareBase + 0x400000)) ∧ t.flash = s.flash
       ∧ (s.enabled Pg.UPD = true → t.bit (R.INT_RAW Pg.UPD) Ev.UPD_STATE = true) ∧ pagesKept s t [Pg.ANC, Pg.UPD, Pg.CAIRN])) ∧
  (∀ (core : Fin 4) (p : Part) (s : State),
      s.awake = true → s.upd.hold = false → s.fset (F.ANC_RSP_BUSY core) = false → s.trust.otp.decom = false → s.coreComp0 core = true →
      s.updState = 3 → s.role = 0 → s.ochg.st = .idle → s.myPart s.idleBank 2 = some p → p.length = 0x400000 →
      s.ecc.all (fun e => eccInst e.1 != some 5) = true →
      runs (.updActivate core) s (fun t => (∀ o, o < 0x400000 → t.byte (s.spareBase + o) = tabGet (fun _ => (0 : Byte)) (s.flash.banks.toList.getD s.idleBank []) (p.offset + o)))) ∧
  (∀ (core : Fin 4) (s : State),
      s.awake = true → s.upd.hold = false → s.fset (F.ANC_RSP_BUSY core) = false → s.trust.otp.decom = false → s.coreComp0 core = true →
      (s.updState ≠ 3 ∨ 2 ≤ s.role) → s.ecc.all (fun e => eccInst e.1 != some 5) = true →
      runs (.updActivate core) s (fun t => t.fset (F.ANC_RSP_BUSY core) = false ∧ t.fset (F.ANC_RSP_DONE core) = true ∧ t.fget (F.ANC_RSP_RESULT core) = 6
       ∧ t = { s with regs := t.regs, draws := t.draws } ∧ pagesKept s t [Pg.ANC])) ∧
  (∀ (core : Fin 4) (s : State),
      s.awake = true → s.upd.hold = false → s.fset (F.ANC_RSP_BUSY core) = false → s.trust.otp.decom = false → s.coreComp0 core = true →
      s.updState = 3 → s.role < 2 → s.ochg.st ≠ .idle → s.ecc.all (fun e => eccInst e.1 != some 5) = true →
      runs (.updActivate core) s (fun t => t.fset (F.ANC_RSP_BUSY core) = false ∧ t.fset (F.ANC_RSP_DONE core) = true ∧ t.fget (F.ANC_RSP_RESULT core) = 2
       ∧ t = { s with regs := t.regs, draws := t.draws } ∧ pagesKept s t [Pg.ANC])) ∧
  (∀ (core : Fin 4) (s : State),
      s.awake = true → s.updState = 4 → s.upd.step = 0 → s.role = 0 → s.upd.activating = some core.val →
      runs (.updGapTimeout) s (fun t => t.updState = 3 ∧ t.fget F.UPD_REASON_CODE = 11
       ∧ t.fset (F.ANC_RSP_BUSY core) = false ∧ t.fset (F.ANC_RSP_DONE core) = true ∧ t.fget (F.ANC_RSP_RESULT core) = 1
       ∧ t.fget (F.ANC_RSP_VALUE core) = 11
       ∧ t = { s.atTimeOf t with regs := t.regs, cairn := t.cairn, upd := { s.upd with activating := none, pairStep := 0 } }
       ∧ pagesKept s t [Pg.ANC, Pg.UPD, Pg.CAIRN])) ∧
  (∀ (p : Part) (s : State),
      s.awake = true → s.upd.hold = true → s.upd.step = 1 → s.myPart s.idleBank 1 = some p → s.myPart s.idleBank 2 = none →
      runs (.updAnchorReentry) s (fun t => t.rd R.ANC_FW_VER = BitVec.ofNat 32 p.version
       ∧ t = { s with regs := t.regs, upd := { s.upd with step := 3 } } ∧ regsKept s t [R.ANC_FW_VER])) ∧
  (∀ (s : State),
      s.awake = true → s.upd.hold = true → s.upd.step = 1 → runs (.updAnchorReentry) s (fun t => t.upd = { s.upd with step := 3 } ∧ t.flash = s.flash
       ∧ t.trust = s.trust ∧ t.ochg.bankB = s.ochg.bankB)) ∧
  (∀ (p : Part) (s : State),
      s.awake = true → s.upd.step = 3 → s.myPart s.idleBank 3 = some p → p.length ≤ 0x4000000 → s.myPart s.idleBank 4 = none →
      runs (.updServiceLoadDone) s (fun t => t.upd = { s.upd with step := 4 } ∧ memKept s t (inRange serviceBase (serviceBase + 0x4000000))
       ∧ (∀ a, inRange (serviceBase + p.length) (serviceBase + 0x4000000) a = true → t.byte a = 0) ∧ t.flash = s.flash
       ∧ regsKept s t [R.CMPT_ENTRY2_LO, R.CMPT_ENTRY2_HI, R.CMPT_ENTRY3_LO, R.CMPT_ENTRY3_HI])) ∧
  (∀ (s : State),
      s.awake = true → s.upd.step = 4 → s.upd.hold = true →
      runs (.updBootRecordWritten) s (fun t => t.flash = { s.flash with boot := { s.flash.boot with seq := s.flash.boot.seq + 1, activeB := !s.flash.boot.activeB, trial := true, trialLeft := 2 } }
       ∧ t.trust = { s.trust with build := s.buildOf s.idleBank, secVer := s.secVerOf s.idleBank } ∧ t.upd = { s.upd with step := 5, fresh := [] }
       ∧ t.mem = s.mem ∧ t.regs = s.regs)) ∧
  (∀ (s : State),
      s.awake = true → s.upd.step = 4 → s.upd.hold = false → s.upd.activating = none → runs (.updBootRecordWritten) s (fun t => t.updState = 5
       ∧ (t.upd = { s.upd with step := 0, fresh := s.ochg.installed, trialFrom := s.monoNow, pairStep := (if s.upd.pairStep = 1 then 0 else s.upd.pairStep) })
       ∧ t.trust = { s.trust with build := s.buildOf s.idleBank, secVer := s.secVerOf s.idleBank } ∧ t.mem = s.mem ∧ t.role = s.role)) ∧
  (∀ (core : Fin 4) (s : State),
      s.awake = true → s.upd.hold = true → s.upd.step = 5 → s.upd.activating = some core.val → runs (.holdEnd) s (fun t => t.updState = 5
       ∧ t.upd.hold = false ∧ t.upd.step = 0 ∧ t.upd.trialFrom = s.monoNow ∧ t.ochg.held = false ∧ t.fget F.ANC_STAT_STATE = 1
       ∧ t.fset (F.ANC_RSP_BUSY core) = false ∧ t.fset (F.ANC_RSP_DONE core) = true ∧ t.fget (F.ANC_RSP_RESULT core) = 0 ∧ t.flash = s.flash
       ∧ t.trust = s.trust)) ∧
  (∀ (core : Fin 4) (s : State),
      s.awake = true → s.upd.hold = false → s.fset (F.ANC_RSP_BUSY core) = false → s.trust.otp.decom = false → s.coreComp0 core = true →
      1 ≤ s.updState → s.updState ≤ 3 → s.upd.verifying = none → s.ecc.all (fun e => eccInst e.1 != some 5) = true →
      runs (.updAbort core) s (fun t => t.fset (F.ANC_RSP_BUSY core) = false ∧ t.fset (F.ANC_RSP_DONE core) = true ∧ t.fget (F.ANC_RSP_RESULT core) = 0
       ∧ t.updState = 0 ∧ t.fget F.UPD_REASON_CODE = 12 ∧ t.upd.stations = [] ∧ t.flash = s.flash ∧ t.trust = s.trust)) ∧
  (∀ (core : Fin 4) (s : State),
      s.awake = true → s.upd.hold = false → s.fset (F.ANC_RSP_BUSY core) = false → s.trust.otp.decom = false → s.coreComp0 core = true →
      s.updState = 4 → s.upd.step = 0 → s.role = 0 → s.upd.pairStep = 0 → s.gapHere = true → s.ecc.all (fun e => eccInst e.1 != some 5) = true →
      runs (.updAbort core) s (fun t => t.fset (F.ANC_RSP_BUSY core) = false ∧ t.fset (F.ANC_RSP_DONE core) = true ∧ t.fget (F.ANC_RSP_RESULT core) = 7
       ∧ t.updState = 4 ∧ t.upd = { s.upd with hold := true, step := 1 } ∧ t.ochg = { s.ochg with held := true } ∧ t.fget F.ANC_STAT_STATE = 3
       ∧ t.flash = s.flash ∧ t.trust = s.trust)) ∧
  (∀ (core : Fin 4) (s : State),
      s.awake = true → s.upd.hold = false → s.fset (F.ANC_RSP_BUSY core) = false → s.trust.otp.decom = false → s.coreComp0 core = true →
      (s.updState = 0 ∨ s.updState = 5 ∨ (s.updState = 4 ∧ s.upd.step = 0 ∧ (s.upd.pairStep ≠ 0 ∨ s.gapHere = false))) →
      s.ecc.all (fun e => eccInst e.1 != some 5) = true →
      runs (.updAbort core) s (fun t => t.fset (F.ANC_RSP_BUSY core) = false ∧ t.fset (F.ANC_RSP_DONE core) = true ∧ t.fget (F.ANC_RSP_RESULT core) = 6
       ∧ t = { s with regs := t.regs, draws := t.draws } ∧ pagesKept s t [Pg.ANC])) ∧
  (∀ (core : Fin 4) (s : State),
      s.awake = true → s.upd.hold = false → s.fset (F.ANC_RSP_BUSY core) = false → s.trust.otp.decom = false → s.coreComp0 core = true →
      s.updState = 5 → s.ecc.all (fun e => eccInst e.1 != some 5) = true →
      runs (.updConfirm core) s (fun t => t.fset (F.ANC_RSP_BUSY core) = false ∧ t.fset (F.ANC_RSP_DONE core) = true ∧ t.fget (F.ANC_RSP_RESULT core) = 0
       ∧ t.trust = { s.trust with otp := { s.trust.otp with counter := max s.trust.otp.counter (min 255 s.trust.secVer) } }
       ∧ t.flash = { s.flash with boot := { s.flash.boot with trial := false, seq := s.flash.boot.seq + 1 } } ∧ t.updState = 0
       ∧ (s.enabled Pg.UPD = true → t.bit (R.INT_RAW Pg.UPD) Ev.UPD_STATE = true) ∧ t.mem = s.mem ∧ pagesKept s t [Pg.ANC, Pg.UPD, Pg.CAIRN])) ∧
  (∀ (core : Fin 4) (s : State),
      s.awake = true → s.upd.hold = false → s.fset (F.ANC_RSP_BUSY core) = false → s.trust.otp.decom = false → s.coreComp0 core = true →
      s.updState ≠ 5 → s.ecc.all (fun e => eccInst e.1 != some 5) = true →
      runs (.updConfirm core) s (fun t => t.fset (F.ANC_RSP_BUSY core) = false ∧ t.fset (F.ANC_RSP_DONE core) = true ∧ t.fget (F.ANC_RSP_RESULT core) = 6
       ∧ t = { s with regs := t.regs, draws := t.draws } ∧ pagesKept s t [Pg.ANC])) ∧
  (∀ (s : State),
      s.awake = true → s.updState = 5 → s.pins.ready = true →
      runs (.updAutoConfirm) s (fun t => t.trust = { s.trust with otp := { s.trust.otp with counter := max s.trust.otp.counter (min 255 s.trust.secVer) } }
       ∧ t.flash = { s.flash with boot := { s.flash.boot with trial := false, seq := s.flash.boot.seq + 1 } } ∧ t.updState = 0
       ∧ (s.enabled Pg.UPD = true → t.bit (R.INT_RAW Pg.UPD) Ev.UPD_STATE = true) ∧ t.mem = s.mem ∧ pagesKept s t [Pg.ANC, Pg.UPD, Pg.CAIRN])) ∧
  (∀ (s : State),
      s.awake = true → s.updState = 5 → s.pins.ready = false → runs (.updAutoConfirm) s (fun t => t = s)) ∧
  (∀ (bytes : List Byte) (sigOk digestsOk : Bool) (n : Nat) (s : State),
      s.live = true → s.boot.recovery = true → bytes.take 2 = [0xA5, 0x5A] → leOf (bytes.drop 2) 8 8 = 2 ^ 64 - 1 → leOf (bytes.drop 2) 0 2 = 1 →
      leOf (bytes.drop 2) 2 2 = 4 → leOf (bytes.drop 2) 4 4 = 0 → leOf (bytes.drop 2) 20 44 = 0 → leOf ((bytes.drop 2).drop 64) 0 4 = n →
      contMin ≤ n → n ≤ contMax → leOf (bytes.drop 2) 16 4 = (crc32c ((bytes.drop 2).take 16 ++ ((bytes.drop 2).drop 64).take 4)).toNat →
      runs (.recoveryConsoleFrame bytes sigOk digestsOk) s (fun t => t.resp = .bytes [0]
       ∧ t.trust = { s.trust with consoleLen := some n, consoleTaken := [] } ∧ t.console = s.console ++ [.answer [0]]
       ∧ t = { s with resp := t.resp, console := t.console, flash := t.flash, trust := t.trust }
       ∧ t.flash.boot.valid.toList.getD s.idleBank true = false ∧ t.flash.banks.toList.getD s.idleBank [(0, 0)] = []
       ∧ t.flash.boot.activeB = s.flash.boot.activeB)) ∧
  (∀ (b : List Byte) (sigOk digestsOk : Bool) (s : State),
      s.live = true → s.boot.recovery = true → leOf b 8 8 ≠ 2 ^ 64 - 1 → s.trust.consoleLen = none →
      runs (.recoveryConsoleFrame (0xA5 :: 0x5A :: b) sigOk digestsOk) s (fun t => t = { s with resp := .bytes [6], console := s.console ++ [.answer [6]] })) ∧
  (∀ (bytes : List Byte) (sigOk digestsOk : Bool) (s : State),
      s.boot.recovery = false → runs (.recoveryConsoleFrame bytes sigOk digestsOk) s (fun t => t = s))

/-- A step runs the command at the front of the queue; with none waiting one CK_FAB cycle passes (the model's choice, log entry 1) (R35, R243, R71). -/
def Obligations.StepRunsTheFrontCommand : Prop :=
  (∀ (c : Instr) (rest : List Instr) (s : State), s.pending = c :: rest → step s = exec c { s with pending := rest }) ∧
  (∀ s : State, s.pending = [] → s.live = false → step s = .next s) ∧
  (∀ s : State, s.pending = [] → s.live = true →
    ∃ t, step s = .next t ∧ t.mt = s.mt + BitVec.ofNat 96 s.inc ∧ t.mono = s.mono + BitVec.ofNat 96 s.inc ∧ t.cyc = s.cyc + 1 ∧ t.pending = [] ∧
      t.points = s.points ∧ t.tasks = s.tasks ∧ t.loops = s.loops ∧ t.forces = s.forces ∧ t.trust = s.trust ∧
      (s.net.eg.toList.all (·.isEmpty) = true → s.denyRate.toList.all (fun e => e.2.2 == 0) = true → t = s.atTimeOf t))

/-- What the reset state holds, and its canonical form (the empty MRAM, the lifecycle BLANK and the invalid RTC are a choice of the model, log entry 2) (R38, R42, R83, R121, R129, R215, R431, R498, R499). -/
def Obligations.ResetLeaves : Prop :=
  (State.reset.rd R.CLK_PLL_LOCK = 0x7F ∧ State.reset.rd R.TSENS_MAX = 0x8000 ∧ State.reset.rd R.TSENS_WARN = 0x6E0 ∧ State.reset.rd R.RST_CAUSE = 1 ∧ State.reset.rd R.RST_COLD_COUNT = 0 ∧ State.reset.rd R.RST_WARM_COUNT = 0 ∧ State.reset.rd R.FNET_SYNC_CFG = 0x320000 ∧ State.reset.rd R.FNET_DISC_CFG = 5 ∧ State.reset.rd R.FNET_START_TMO = 10000 ∧ State.reset.rd R.FNET_Q0_CFG = 0x1F400C8 ∧ State.reset.rd R.IOS_STN_SEL = 1 ∧ State.reset.rd R.MTR_ZC_CFG = 0x32000A ∧ State.reset.rd R.NRG_DMD_CFG = 0x25000F ∧ State.reset.rd R.NRG_SAVE_CFG = 1 ∧ State.reset.rd R.PTP_STEP_LIMIT = 10000 ∧ State.reset.rd R.PTP_UTC = 37 ∧ State.reset.rd R.PTP_SERVO = 0x310242 ∧ State.reset.rd R.SW_AGE = 300 ∧ State.reset.rd R.BEL_SWAP_CFG = 24 ∧ State.reset.rd R.BEL_CKPT_CFG = 10 ∧ State.reset.rd R.BEL_ROLE = 0 ∧ State.reset.rd R.CAIRN_CFG = 0x6E666 ∧ State.reset.rd R.CAIRN_SUM_CFG = 900 ∧ State.reset.rd R.UPD_ID = 0) ∧
  ((∀ n : Fin 4, State.reset.rd (R.CAN_RATE n) = 1 ∧ State.reset.rd (R.CAN_RX_WM n) = 1) ∧
    (∀ n : Fin 48, State.reset.rd (R.TASK_TCFG n) = 0xF000) ∧ (∀ n : Fin 2, State.reset.rd (R.PTP_LOCK_NS n) = 1000 ∧ State.reset.rd (R.PTP_HOLD_S n) = 8)) ∧
  ((∀ a, State.reset.byte a = 0) ∧ Memory.wf State.reset.mem = true ∧ regsWf State.reset.regs = true) ∧
  (State.reset.timeInvalid = true ∧ State.reset.pins.ready = false ∧ State.reset.role = 0 ∧ State.reset.pairState = 0 ∧ State.reset.updState = 0 ∧ lcState State.reset.trust.otp = 0 ∧ State.reset.pending = [])

/-- Every step keeps the canonical forms, the queue's order, the fuses that are burned and the straps (R49, R124, R125, R129, R524, R549). -/
def Obligations.EveryStepKeeps : Prop :=
  (∀ s t : State, Memory.wf s.mem = true → step s = .next t → Memory.wf t.mem = true) ∧
  (∀ s t : State, regsWf s.regs = true → step s = .next t → regsWf t.regs = true) ∧
  (∀ s t : State, step s = .next t → t.pending = s.pending.tail) ∧
  (∀ s t : State, step s = .next t → t.pins.sideB = s.pins.sideB ∧ t.trust.otp.serial = s.trust.otp.serial) ∧
  (∀ s t : State, step s = .next t → fusesOnlyBurn s.trust.otp t.trust.otp)

/-- The warning of the temperature sensor and its hysteresis (R84). -/
def Obligations.TemperatureWarning : Prop :=
  (∀ (deg : BitVec 16) (s : State),
      s.awake = true → s.enabled Pg.TSENS = true → s.sup.tempArmed = true → sgn16 (s.fget F.TSENS_WARN_DEG) ≤ deg.toInt →
      runs (.tsensReading deg) s (fun t => t.bit (R.INT_RAW Pg.TSENS) Ev.TSENS_WARN = true ∧ t.sup.tempArmed = false
       ∧ t = { s with regs := t.regs, sup := { s.sup with tempArmed := t.sup.tempArmed } }
       ∧ regsKept s t [R.TSENS_TEMP, R.TSENS_MAX, R.INT_RAW Pg.TSENS])) ∧
  (∀ (deg : BitVec 16) (s : State),
      s.awake = true → s.enabled Pg.TSENS = true → s.sup.tempArmed = false → sgn16 (s.fget F.TSENS_WARN_DEG) - 32 < deg.toInt →
      runs (.tsensReading deg) s (fun t => t.sup.tempArmed = false ∧ t = { s with regs := t.regs, sup := { s.sup with tempArmed := t.sup.tempArmed } }
       ∧ regsKept s t [R.TSENS_TEMP, R.TSENS_MAX])) ∧
  (∀ (deg : BitVec 16) (s : State),
      s.awake = true → s.enabled Pg.TSENS = true → s.sup.tempArmed = false → deg.toInt ≤ sgn16 (s.fget F.TSENS_WARN_DEG) - 32 →
      runs (.tsensReading deg) s (fun t => t.sup.tempArmed = true ∧ t = { s with regs := t.regs, sup := { s.sup with tempArmed := t.sup.tempArmed } }
       ∧ regsKept s t [R.TSENS_TEMP, R.TSENS_MAX])) ∧
  (∀ (deg : BitVec 16) (s : State),
      s.awake = true → s.enabled Pg.TSENS = true → s.sup.tempArmed = true → deg.toInt < sgn16 (s.fget F.TSENS_WARN_DEG) →
      runs (.tsensReading deg) s (fun t => t.sup.tempArmed = true ∧ t = { s with regs := t.regs, sup := { s.sup with tempArmed := t.sup.tempArmed } }
       ∧ regsKept s t [R.TSENS_TEMP, R.TSENS_MAX]))

/-- COMMITc is accepted only for the RUNNING task of core c dispatched most recently (R235). -/
def Obligations.CommitOfTheLatestTask : Prop :=
  (∀ (req : Req) (c : Fin 2) (n : Nat) (s : State),
      s.awake = true → s.opens req (dispatchKey c) = true → s.dispatchable c = some n →
      runs (.dispatch req c) s (fun t => t.runStack c = n :: s.runStack c ∧ (t.runStack c).find? (fun x => (t.task x).st == .running) = some n)) ∧
  (∀ (req : Req) (c : Fin 2) (n : BitVec 6) (s : State),
      s.awake = true → s.opens req (commitKey c) = true → (s.runStack c).find? (fun x => (s.task x).st == .running) = some n.toNat →
      runs (.commit req c n) s (fun t => t = { s with tasks := t.tasks, resp := .data 0 } ∧ t.task n.toNat = { s.task n.toNat with st := .committing }
       ∧ (∀ k, k ≠ n.toNat → t.task k = s.task k))) ∧
  (∀ (req : Req) (c : Fin 2) (n : BitVec 6) (s : State),
      s.awake = true → s.opens req (commitKey c) = true → (s.runStack c).find? (fun x => (s.task x).st == .running) ≠ some n.toNat →
      runs (.commit req c n) s (fun t => t.bit (R.BLK_FAULT Pg.TASK) 17 = true ∧ onlyAnswer s t 0 [R.BLK_FAULT Pg.TASK]))

/-- A REVOKE command, the key that signs it, and the slot that it may not take (R524). -/
def Obligations.RevokeCommand : Prop :=
  (∀ (core : Fin 4) (src : Word64) (len : Word) (s : State),
      s.awake = true → s.upd.hold = false → s.fset (F.ANC_RSP_BUSY core) = false → s.coreComp0 core = true → len.toNat = lcLength →
      mboxRange core src.toNat len.toNat = true → s.lcBodyOk (s.bytesAt src.toNat lcLength) = true → byteOf (s.bytesAt src.toNat lcLength) 2 = 6 →
      (byteOf (s.bytesAt src.toNat lcLength) 24) < 6 → lcState s.trust.otp ≠ 4 →
      blockOk ((s.bytesAt src.toNat lcLength).drop 256) (fun key => key == (byteOf (s.bytesAt src.toNat lcLength) 24) ^^^ 1) true = true →
      slotUsable s.trust.otp ((byteOf (s.bytesAt src.toNat lcLength) 24) ^^^ 1) = true → s.ecc.all (fun e => eccInst e.1 != some 5) = true →
      runs (.lcCmd core src len true) s (fun t => t.fset (F.ANC_RSP_BUSY core) = false ∧ t.fset (F.ANC_RSP_DONE core) = true
       ∧ t.fget (F.ANC_RSP_RESULT core) = 0
       ∧ t.trust.otp = { s.trust.otp with revoked := s.trust.otp.revoked.setIfInBounds (byteOf (s.bytesAt src.toNat lcLength) 24) true }
       ∧ t.mem = s.mem ∧ t.flash = s.flash ∧ t.boot = s.boot)) ∧
  (∀ (core : Fin 4) (src : Word64) (len : Word) (sigOk : Bool) (s : State),
      s.awake = true → s.upd.hold = false → s.fset (F.ANC_RSP_BUSY core) = false → s.coreComp0 core = true → len.toNat = lcLength →
      mboxRange core src.toNat len.toNat = true → s.lcBodyOk (s.bytesAt src.toNat lcLength) = true → byteOf (s.bytesAt src.toNat lcLength) 2 = 6 →
      (byteOf (s.bytesAt src.toNat lcLength) 24) < 6 → lcState s.trust.otp ≠ 4 →
      byteOf ((s.bytesAt src.toNat lcLength).drop 256) 3 ≠ (byteOf (s.bytesAt src.toNat lcLength) 24) ^^^ 1 →
      s.ecc.all (fun e => eccInst e.1 != some 5) = true →
      runs (.lcCmd core src len sigOk) s (fun t => t.fset (F.ANC_RSP_BUSY core) = false ∧ t.fset (F.ANC_RSP_DONE core) = true
       ∧ t.fget (F.ANC_RSP_RESULT core) ≠ 0 ∧ t.trust.otp = s.trust.otp ∧ t.mem = s.mem ∧ t.flash = s.flash ∧ t.boot = s.boot)) ∧
  (∀ (core : Fin 4) (src : Word64) (len : Word) (sigOk : Bool) (s : State),
      s.awake = true → s.upd.hold = false → s.fset (F.ANC_RSP_BUSY core) = false → s.coreComp0 core = true → len.toNat = lcLength →
      mboxRange core src.toNat len.toNat = true → s.lcBodyOk (s.bytesAt src.toNat lcLength) = true → byteOf (s.bytesAt src.toNat lcLength) 2 = 6 →
      (byteOf (s.bytesAt src.toNat lcLength) 24) < 6 → lcState s.trust.otp ≠ 4 →
      slotUsable s.trust.otp ((byteOf (s.bytesAt src.toNat lcLength) 24) ^^^ 1) = false → s.ecc.all (fun e => eccInst e.1 != some 5) = true →
      runs (.lcCmd core src len sigOk) s (fun t => t.fset (F.ANC_RSP_BUSY core) = false ∧ t.fset (F.ANC_RSP_DONE core) = true
       ∧ t.fget (F.ANC_RSP_RESULT core) ≠ 0 ∧ t.trust.otp = s.trust.otp ∧ t.mem = s.mem ∧ t.flash = s.flash ∧ t.boot = s.boot))
end

