-- ==== Sys2Proof/Laws/Tab.lean ====
section
/-! SUPPORT. Reading a sparse table after a store, and the canonical form that every table operation keeps. -/
namespace Sys2Proof.Machine

variable {α : Type}

/-! ### Finding a key -/

theorem tabFind_tabDel_self (t : Tab α) (k : Nat) : tabFind (tabDel t k) k = none := by
  induction t with
  | nil => rfl
  | cons e t ih =>
    obtain ⟨j, v⟩ := e
    by_cases h : j = k
    · simpa [tabDel, h] using ih
    · simpa [tabDel, h, tabFind] using ih

theorem tabFind_tabDel_ne (t : Tab α) {j k : Nat} (h : j ≠ k) : tabFind (tabDel t k) j = tabFind t j := by
  induction t with
  | nil => rfl
  | cons e t ih =>
    obtain ⟨i, v⟩ := e
    by_cases hi : i = k
    · subst hi
      simpa [tabDel, tabFind, Ne.symm h] using ih
    · by_cases hj : i = j
      · simp [tabDel, tabFind, hj, h]
      · simpa [tabDel, hi, tabFind, hj] using ih

theorem tabFind_tabIns_self (t : Tab α) (k : Nat) (v : α) (h : tabFind t k = none) : tabFind (tabIns k v t) k = some v := by
  induction t with
  | nil => simp [tabIns, tabFind]
  | cons e t ih =>
    obtain ⟨j, w⟩ := e
    by_cases hj : j = k
    · simp [tabFind, hj] at h
    · by_cases hl : k < j
      · simp [tabIns, hl, tabFind]
      · simpa [tabIns, hl, tabFind, hj] using ih (by simpa [tabFind, hj] using h)

theorem tabFind_tabIns_ne (t : Tab α) {j k : Nat} (v : α) (h : j ≠ k) : tabFind (tabIns k v t) j = tabFind t j := by
  induction t with
  | nil => simp [tabIns, tabFind, Ne.symm h]
  | cons e t ih =>
    obtain ⟨i, w⟩ := e
    by_cases hl : k < i
    · simp [tabIns, hl, tabFind, Ne.symm h]
    · by_cases hi : i = j
      · subst hi; simp [tabIns, hl, tabFind]
      · simpa [tabIns, hl, tabFind, hi] using ih

theorem tabFind_tabKeep (p : Nat → Bool) (t : Tab α) (k : Nat) : tabFind (tabKeep p t) k = if p k then tabFind t k else none := by
  induction t with
  | nil => simp [tabKeep, tabFind]
  | cons e t ih =>
    obtain ⟨j, v⟩ := e
    by_cases hp : p j = true <;> by_cases hj : j = k <;> simp_all [tabKeep, tabFind]

/-! ### Read after store -/

variable [DecidableEq α]

@[simp] theorem tabGet_tabSet_self (d : Nat → α) (t : Tab α) (k : Nat) (v : α) : tabGet d (tabSet d t k v) k = v := by
  by_cases h : v = d k
  · simp [tabGet, tabSet, h, tabFind_tabDel_self]
  · simp [tabGet, tabSet, h, tabPut, tabFind_tabIns_self _ _ _ (tabFind_tabDel_self t k)]

theorem tabGet_tabSet_ne (d : Nat → α) (t : Tab α) {j k : Nat} (v : α) (h : j ≠ k) : tabGet d (tabSet d t k v) j = tabGet d t j := by
  by_cases hv : v = d k
  · simp [tabGet, tabSet, hv, tabFind_tabDel_ne t h]
  · simp [tabGet, tabSet, hv, tabPut, tabFind_tabIns_ne _ v h, tabFind_tabDel_ne t h]

theorem tabGet_tabSet (d : Nat → α) (t : Tab α) (j k : Nat) (v : α) :
    tabGet d (tabSet d t k v) j = if j = k then v else tabGet d t j := by
  by_cases h : j = k
  · simp [h]
  · simp [h, tabGet_tabSet_ne d t v h]

omit [DecidableEq α] in
theorem tabGet_tabKeep (d : Nat → α) (p : Nat → Bool) (t : Tab α) (k : Nat) :
    tabGet d (tabKeep p t) k = if p k then tabGet d t k else d k := by
  by_cases h : p k = true <;> simp [tabGet, tabFind_tabKeep, h]

/-! ### The canonical form -/

omit [DecidableEq α] in
theorem tabSorted_iff (t : Tab α) : tabSorted t = true ↔ t.Pairwise (fun a b => a.1 < b.1) := by
  induction t with
  | nil => simp [tabSorted]
  | cons a t ih =>
    cases t with
    | nil => simp [tabSorted]
    | cons b t =>
      simp only [tabSorted, Bool.and_eq_true, decide_eq_true_eq, ih, List.pairwise_cons]
      constructor
      · rintro ⟨hab, hb, ht⟩
        refine ⟨fun c hc => ?_, hb, ht⟩
        rcases List.mem_cons.1 hc with rfl | hc
        · exact hab
        · exact Nat.lt_trans hab (hb c hc)
      · rintro ⟨ha, hb, ht⟩
        exact ⟨ha b List.mem_cons_self, hb, ht⟩

theorem tabWf_iff (d : Nat → α) (t : Tab α) :
    tabWf d t = true ↔ t.Pairwise (fun a b => a.1 < b.1) ∧ ∀ e ∈ t, e.2 ≠ d e.1 := by
  simp [tabWf, tabSorted_iff]

/-- Leaving entries out keeps the form. -/
theorem tabWf_filter (d : Nat → α) (q : Nat × α → Bool) {t : Tab α} (h : tabWf d t = true) : tabWf d (t.filter q) = true := by
  rw [tabWf_iff] at h ⊢
  exact ⟨h.1.filter _, fun e he => h.2 e (List.mem_filter.1 he).1⟩

omit [DecidableEq α] in
theorem mem_tabIns {k : Nat} {v : α} {e : Nat × α} {t : Tab α} : e ∈ tabIns k v t ↔ e = (k, v) ∨ e ∈ t := by
  induction t with
  | nil => simp [tabIns]
  | cons a t ih =>
    by_cases h : k < a.1
    · simp [tabIns, h]
    · simp only [tabIns, h, if_false, List.mem_cons, ih]
      exact or_left_comm

omit [DecidableEq α] in
theorem pairwise_tabIns {k : Nat} {v : α} {t : Tab α} (h : t.Pairwise (fun a b => a.1 < b.1)) (hk : ∀ e ∈ t, e.1 ≠ k) :
    (tabIns k v t).Pairwise (fun a b => a.1 < b.1) := by
  induction t with
  | nil => simp [tabIns]
  | cons a t ih =>
    rw [List.pairwise_cons] at h
    by_cases hl : k < a.1
    · simp only [tabIns, hl, if_true, List.pairwise_cons]
      refine ⟨fun e he => ?_, h⟩
      rcases List.mem_cons.1 he with rfl | he
      · exact hl
      · exact Nat.lt_trans hl (h.1 e he)
    · simp only [tabIns, hl, if_false, List.pairwise_cons]
      refine ⟨fun e he => ?_, ih h.2 (fun e he => hk e (List.mem_cons_of_mem _ he))⟩
      rcases mem_tabIns.1 he with rfl | he
      · have := hk a List.mem_cons_self
        simp only at this ⊢
        omega
      · exact h.1 e he

/-- A store keeps the form. -/
theorem tabWf_tabSet (d : Nat → α) {t : Tab α} (k : Nat) (v : α) (h : tabWf d t = true) : tabWf d (tabSet d t k v) = true := by
  have hd : tabWf d (tabDel t k) = true := tabWf_filter d _ h
  by_cases hv : v = d k
  · simpa [tabSet, hv] using hd
  · simp only [tabSet, hv, if_false, tabPut]
    rw [tabWf_iff] at hd ⊢
    refine ⟨pairwise_tabIns hd.1 (fun e he => ?_), fun e he => ?_⟩
    · have := (List.mem_filter.1 he).2
      simpa using this
    · rcases mem_tabIns.1 he with rfl | he
      · exact hv
      · exact hd.2 e he

theorem tabWf_tabKeep (d : Nat → α) (p : Nat → Bool) {t : Tab α} (h : tabWf d t = true) : tabWf d (tabKeep p t) = true :=
  tabWf_filter d _ h

end Sys2Proof.Machine
end

