-- ==== Sys2Proof/Laws/Memory.lean ====
section
/-! SUPPORT. Registers, fields and memory after an update, and the canonical forms that every operation over them keeps. -/
namespace Sys2Proof.Machine

/-! ### Registers -/

theorem State.rd_wr (s : State) (j k : Nat) (v : Word) : (s.wr k v).rd j = if j = k then v else s.rd j :=
  tabGet_tabSet regReset s.regs j k v

@[simp] theorem State.rd_wr_self (s : State) (k : Nat) (v : Word) : (s.wr k v).rd k = v := tabGet_tabSet_self ..

theorem State.rd_wr_ne (s : State) {j k : Nat} (v : Word) (h : j ≠ k) : (s.wr k v).rd j = s.rd j := tabGet_tabSet_ne _ _ v h

@[simp] theorem State.rd_setByte (s : State) (a : Nat) (b : Byte) (k : Nat) : (s.setByte a b).rd k = s.rd k := rfl

/-- A write of a field leaves every other register. -/
theorem State.rd_fput_ne (s : State) (f : Fld) (x : Nat) {k : Nat} (h : k ≠ f.key) : (s.fput f x).rd k = s.rd k := s.rd_wr_ne _ h

theorem State.fget_fput_ne (s : State) {f g : Fld} (x : Nat) (h : g.key ≠ f.key) : (s.fput f x).fget g = s.fget g := by
  simp only [State.fget, s.rd_fput_ne f x h]

/-- A field of bits lo to hi reads what was put there, modulo its size. -/
theorem fieldOf_fieldPut (f : Fld) (v : Word) (x : Nat) (hlo : f.lo ≤ f.hi) (hhi : f.hi < 32) : fieldOf f (fieldPut f v x) = x % fieldSize f := by
  have hL : 0 < 2 ^ f.lo := Nat.two_pow_pos _
  have hN : 0 < fieldSize f := Nat.two_pow_pos _
  have hM : 2 ^ f.lo * fieldSize f * 2 ^ (31 - f.hi) = 2 ^ 32 := by
    simp only [fieldSize, ← Nat.pow_add]
    congr 1
    omega
  have hx : x % fieldSize f < fieldSize f := Nat.mod_lt _ hN
  have hv : v.toNat < 2 ^ 32 := v.isLt
  unfold fieldOf fieldPut fieldOf
  generalize 2 ^ f.lo = L at *
  generalize fieldSize f = N at *
  generalize 2 ^ (31 - f.hi) = M at *
  generalize x % N = y at *
  generalize v.toNat = V at *
  rw [BitVec.toNat_ofNat]
  -- V = L * (N * q + m) + r
  have h1 : V = L * (V / L) + V % L := (Nat.div_add_mod V L).symm
  have h2 : V / L = N * (V / L / N) + V / L % N := (Nat.div_add_mod _ N).symm
  have hr : V % L < L := Nat.mod_lt _ hL
  generalize V % L = r at *
  generalize V / L = w at *
  generalize w / N = q at *
  generalize w % N = m at *
  subst h2
  subst h1
  have e : L * (N * q + m) + r - m * L + y * L = L * (N * q + y) + r := by
    rw [Nat.mul_add, Nat.mul_add, Nat.mul_comm m L, Nat.mul_comm y L]
    omega
  rw [e]
  have hq : q < M := by
    apply Nat.lt_of_mul_lt_mul_left (a := L * N)
    calc L * N * q ≤ L * (N * q + m) + r := by rw [Nat.mul_add, Nat.mul_assoc]; omega
      _ < L * N * M := by rw [hM]; exact hv
  have hR : L * (N * q + y) + r < 2 ^ 32 := by
    have a1 : N * q + y + 1 ≤ N * (q + 1) := by rw [Nat.mul_add]; omega
    have a2 : L * (N * q + y + 1) ≤ L * (N * M) := Nat.mul_le_mul_left L (Nat.le_trans a1 (Nat.mul_le_mul_left N hq))
    rw [← Nat.mul_assoc, hM] at a2
    rw [Nat.mul_add] at a2
    omega
  rw [Nat.mod_eq_of_lt hR, Nat.add_comm, Nat.add_mul_div_left _ _ hL, Nat.div_eq_of_lt hr, Nat.zero_add, Nat.mul_add_mod, Nat.mod_eq_of_lt hx]

theorem State.fget_fput (s : State) (f : Fld) (x : Nat) (hlo : f.lo ≤ f.hi) (hhi : f.hi < 32) : (s.fput f x).fget f = x % fieldSize f := by
  simp only [State.fget, State.fput, State.rd_wr_self]
  exact fieldOf_fieldPut f _ x hlo hhi

/-! ### Memory -/

theorem State.byte_setByte (s : State) (a c : Nat) (v : Byte) : (s.setByte c v).byte a = if a = c then v else s.byte a :=
  tabGet_tabSet (fun _ => (0 : Byte)) s.mem a c v

@[simp] theorem State.byte_setByte_self (s : State) (a : Nat) (v : Byte) : (s.setByte a v).byte a = v := tabGet_tabSet_self ..

theorem State.byte_setByte_ne (s : State) {a c : Nat} (v : Byte) (h : a ≠ c) : (s.setByte c v).byte a = s.byte a := tabGet_tabSet_ne _ _ v h

@[simp] theorem State.byte_wr (s : State) (k : Nat) (v : Word) (a : Nat) : (s.wr k v).byte a = s.byte a := rfl

/-- Stored bytes change no byte outside their range. -/
theorem State.byte_setBytes_out (s : State) (a c : Nat) (l : List Byte) (h : a < c ∨ c + l.length ≤ a) : (s.setBytes c l).byte a = s.byte a := by
  induction l generalizing s c with
  | nil => rfl
  | cons b l ih =>
    simp only [List.length_cons] at h
    rw [State.setBytes, ih _ _ (by omega), s.byte_setByte_ne b (by omega)]

theorem State.bytesAt_congr {s t : State} (a n : Nat) (h : ∀ c, a ≤ c → c < a + n → t.byte c = s.byte c) : t.bytesAt a n = s.bytesAt a n := by
  induction n generalizing a with
  | zero => rfl
  | succ n ih =>
    simp only [State.bytesAt]
    rw [h a (Nat.le_refl _) (by omega), ih (a + 1) (fun c h1 h2 => h c (by omega) (by omega))]

/-- Stored bytes are read back. -/
@[simp] theorem State.bytesAt_setBytes (s : State) (a : Nat) (l : List Byte) : (s.setBytes a l).bytesAt a l.length = l := by
  induction l generalizing s a with
  | nil => rfl
  | cons b l ih =>
    simp only [State.setBytes, List.length_cons, State.bytesAt, ih]
    rw [State.byte_setBytes_out _ _ _ _ (Or.inl (Nat.lt_succ_self a)), s.byte_setByte_self]

theorem State.byte_wipe (s : State) (p : Nat → Bool) (a : Nat) : (s.wipe p).byte a = if p a then 0 else s.byte a := by
  have h := tabGet_tabKeep (fun _ => (0 : Byte)) (fun a => !p a) s.mem a
  by_cases hp : p a = true
  · simpa [State.byte, State.wipe, hp] using h
  · simpa [State.byte, State.wipe, hp] using h

theorem memKept_setBytes (s : State) (a : Nat) (l : List Byte) : memKept s (s.setBytes a l) (inRange a (a + l.length)) := by
  intro c h
  apply s.byte_setBytes_out
  simp only [inRange, Bool.and_eq_false_iff, decide_eq_false_iff_not] at h
  omega

/-! ### The canonical forms -/

theorem regsWf_wr (s : State) (k : Nat) (v : Word) (h : regsWf s.regs = true) : regsWf (s.wr k v).regs = true := tabWf_tabSet regReset k v h

theorem regsWf_fput (s : State) (f : Fld) (x : Nat) (h : regsWf s.regs = true) : regsWf (s.fput f x).regs = true := regsWf_wr s _ _ h

theorem memWf_setByte (s : State) (a : Nat) (v : Byte) (h : Memory.wf s.mem = true) : Memory.wf (s.setByte a v).mem = true :=
  tabWf_tabSet (fun _ => (0 : Byte)) a v h

theorem memWf_setBytes (s : State) (a : Nat) (l : List Byte) (h : Memory.wf s.mem = true) : Memory.wf (s.setBytes a l).mem = true := by
  induction l generalizing s a with
  | nil => exact h
  | cons b l ih => exact ih _ _ (memWf_setByte s a b h)

theorem memWf_setLe (s : State) (a n v : Nat) (h : Memory.wf s.mem = true) : Memory.wf (s.setLe a n v).mem = true := memWf_setBytes s a _ h

theorem memWf_wipe (s : State) (p : Nat → Bool) (h : Memory.wf s.mem = true) : Memory.wf (s.wipe p).mem = true := by
  show tabWf (fun _ => (0 : Byte)) (tabKeep (fun a => !p a) s.mem) = true
  exact tabWf_tabKeep (fun _ => (0 : Byte)) _ h

/-- What a reset leaves of the register file is in canonical form, whatever stood there. -/
theorem regsWf_keepRegs (keep : Nat → Word) (r : Tab Word) : regsWf (keepRegs keep r) = true := by
  induction r with
  | nil => rfl
  | cons e r ih => exact tabWf_tabSet regReset _ _ ih

theorem memWf_resetKeep (s : State) (keep : Nat → Word) (h : Memory.wf s.mem = true) : Memory.wf (s.resetKeep keep).mem = true :=
  tabWf_tabKeep (fun _ => (0 : Byte)) _ h

/-- The state after reset lists no byte. -/
theorem reset_mem_empty : State.reset.mem = [] := rfl

end Sys2Proof.Machine
end

