-- ==== Sys2Proof/Laws/State.lean ====
section
/-! SUPPORT. What each update of State leaves: one equation per field, by `rfl`; an update that comes down to `wr` inherits its equations. -/
namespace Sys2Proof.Machine

@[simp] theorem State.wr_frame (s : State) (k : Nat) (v : Word) :
    (s.wr k v).pending = s.pending ∧ (s.wr k v).resp = s.resp ∧ (s.wr k v).hiWords = s.hiWords ∧ (s.wr k v).mem = s.mem ∧ (s.wr k v).ecc = s.ecc ∧
    (s.wr k v).mt = s.mt ∧ (s.wr k v).mono = s.mono ∧ (s.wr k v).cyc = s.cyc ∧ (s.wr k v).cycCold = s.cycCold ∧ (s.wr k v).draws = s.draws ∧
    (s.wr k v).pins = s.pins ∧ (s.wr k v).sup = s.sup ∧ (s.wr k v).boot = s.boot ∧ (s.wr k v).unlock = s.unlock ∧ (s.wr k v).claims = s.claims ∧
    (s.wr k v).eccx = s.eccx ∧ (s.wr k v).points = s.points ∧ (s.wr k v).forces = s.forces ∧ (s.wr k v).prior = s.prior ∧
    (s.wr k v).priorAt = s.priorAt ∧ (s.wr k v).blkPrior = s.blkPrior ∧ (s.wr k v).blkAt = s.blkAt ∧ (s.wr k v).mramBad = s.mramBad ∧
    (s.wr k v).console = s.console ∧ (s.wr k v).lioPids = s.lioPids ∧ (s.wr k v).tasks = s.tasks ∧ (s.wr k v).running = s.running ∧
    (s.wr k v).instMin = s.instMin ∧ (s.wr k v).trigs = s.trigs ∧ (s.wr k v).ochg = s.ochg ∧ (s.wr k v).cairn = s.cairn ∧ (s.wr k v).can = s.can ∧
    (s.wr k v).mfp = s.mfp ∧ (s.wr k v).loops = s.loops ∧ (s.wr k v).laneFree = s.laneFree ∧ (s.wr k v).lio = s.lio ∧ (s.wr k v).inj = s.inj ∧
    (s.wr k v).cap = s.cap ∧ (s.wr k v).mtr = s.mtr ∧ (s.wr k v).nrg = s.nrg ∧ (s.wr k v).rate = s.rate ∧ (s.wr k v).rtc = s.rtc ∧
    (s.wr k v).ptp = s.ptp ∧ (s.wr k v).net = s.net ∧ (s.wr k v).ownPoints = s.ownPoints ∧ (s.wr k v).ownSlots = s.ownSlots ∧
    (s.wr k v).ownCommands = s.ownCommands ∧ (s.wr k v).ownClasses = s.ownClasses ∧ (s.wr k v).denyRate = s.denyRate ∧ (s.wr k v).cmpt = s.cmpt ∧
    (s.wr k v).bel = s.bel ∧ (s.wr k v).trust = s.trust ∧ (s.wr k v).flash = s.flash ∧ (s.wr k v).upd = s.upd ∧ (s.wr k v).tier = s.tier :=
  ⟨rfl, rfl, rfl, rfl, rfl, rfl, rfl, rfl, rfl, rfl, rfl, rfl, rfl, rfl, rfl, rfl, rfl, rfl, rfl, rfl, rfl, rfl, rfl, rfl, rfl, rfl, rfl, rfl, rfl,
   rfl, rfl, rfl, rfl, rfl, rfl, rfl, rfl, rfl, rfl, rfl, rfl, rfl, rfl, rfl, rfl, rfl, rfl, rfl, rfl, rfl, rfl, rfl, rfl, rfl, rfl⟩

@[simp] theorem State.setByte_frame (s : State) (a : Nat) (v : Byte) :
    (s.setByte a v).pending = s.pending ∧ (s.setByte a v).resp = s.resp ∧ (s.setByte a v).regs = s.regs ∧ (s.setByte a v).hiWords = s.hiWords ∧
    (s.setByte a v).ecc = s.ecc ∧ (s.setByte a v).mt = s.mt ∧ (s.setByte a v).mono = s.mono ∧ (s.setByte a v).cyc = s.cyc ∧
    (s.setByte a v).cycCold = s.cycCold ∧ (s.setByte a v).draws = s.draws ∧ (s.setByte a v).pins = s.pins ∧ (s.setByte a v).sup = s.sup ∧
    (s.setByte a v).boot = s.boot ∧ (s.setByte a v).unlock = s.unlock ∧ (s.setByte a v).claims = s.claims ∧ (s.setByte a v).eccx = s.eccx ∧
    (s.setByte a v).points = s.points ∧ (s.setByte a v).forces = s.forces ∧ (s.setByte a v).prior = s.prior ∧ (s.setByte a v).priorAt = s.priorAt ∧
    (s.setByte a v).blkPrior = s.blkPrior ∧ (s.setByte a v).blkAt = s.blkAt ∧ (s.setByte a v).mramBad = s.mramBad ∧
    (s.setByte a v).console = s.console ∧ (s.setByte a v).lioPids = s.lioPids ∧ (s.setByte a v).tasks = s.tasks ∧
    (s.setByte a v).running = s.running ∧ (s.setByte a v).instMin = s.instMin ∧ (s.setByte a v).trigs = s.trigs ∧ (s.setByte a v).ochg = s.ochg ∧
    (s.setByte a v).cairn = s.cairn ∧ (s.setByte a v).can = s.can ∧ (s.setByte a v).mfp = s.mfp ∧ (s.setByte a v).loops = s.loops ∧
    (s.setByte a v).laneFree = s.laneFree ∧ (s.setByte a v).lio = s.lio ∧ (s.setByte a v).inj = s.inj ∧ (s.setByte a v).cap = s.cap ∧
    (s.setByte a v).mtr = s.mtr ∧ (s.setByte a v).nrg = s.nrg ∧ (s.setByte a v).rate = s.rate ∧ (s.setByte a v).rtc = s.rtc ∧
    (s.setByte a v).ptp = s.ptp ∧ (s.setByte a v).net = s.net ∧ (s.setByte a v).ownPoints = s.ownPoints ∧ (s.setByte a v).ownSlots = s.ownSlots ∧
    (s.setByte a v).ownCommands = s.ownCommands ∧ (s.setByte a v).ownClasses = s.ownClasses ∧ (s.setByte a v).denyRate = s.denyRate ∧
    (s.setByte a v).cmpt = s.cmpt ∧ (s.setByte a v).bel = s.bel ∧ (s.setByte a v).trust = s.trust ∧ (s.setByte a v).flash = s.flash ∧
    (s.setByte a v).upd = s.upd ∧ (s.setByte a v).tier = s.tier :=
  ⟨rfl, rfl, rfl, rfl, rfl, rfl, rfl, rfl, rfl, rfl, rfl, rfl, rfl, rfl, rfl, rfl, rfl, rfl, rfl, rfl, rfl, rfl, rfl, rfl, rfl, rfl, rfl, rfl, rfl,
   rfl, rfl, rfl, rfl, rfl, rfl, rfl, rfl, rfl, rfl, rfl, rfl, rfl, rfl, rfl, rfl, rfl, rfl, rfl, rfl, rfl, rfl, rfl, rfl, rfl, rfl⟩

@[simp] theorem State.wipe_frame (s : State) (p : Nat → Bool) :
    (s.wipe p).pending = s.pending ∧ (s.wipe p).resp = s.resp ∧ (s.wipe p).regs = s.regs ∧ (s.wipe p).hiWords = s.hiWords ∧ (s.wipe p).mt = s.mt ∧
    (s.wipe p).mono = s.mono ∧ (s.wipe p).cyc = s.cyc ∧ (s.wipe p).cycCold = s.cycCold ∧ (s.wipe p).draws = s.draws ∧ (s.wipe p).pins = s.pins ∧
    (s.wipe p).sup = s.sup ∧ (s.wipe p).boot = s.boot ∧ (s.wipe p).unlock = s.unlock ∧ (s.wipe p).claims = s.claims ∧ (s.wipe p).eccx = s.eccx ∧
    (s.wipe p).points = s.points ∧ (s.wipe p).forces = s.forces ∧ (s.wipe p).prior = s.prior ∧ (s.wipe p).priorAt = s.priorAt ∧
    (s.wipe p).blkPrior = s.blkPrior ∧ (s.wipe p).blkAt = s.blkAt ∧ (s.wipe p).console = s.console ∧ (s.wipe p).lioPids = s.lioPids ∧
    (s.wipe p).tasks = s.tasks ∧ (s.wipe p).running = s.running ∧ (s.wipe p).instMin = s.instMin ∧ (s.wipe p).trigs = s.trigs ∧
    (s.wipe p).ochg = s.ochg ∧ (s.wipe p).cairn = s.cairn ∧ (s.wipe p).can = s.can ∧ (s.wipe p).mfp = s.mfp ∧ (s.wipe p).loops = s.loops ∧
    (s.wipe p).laneFree = s.laneFree ∧ (s.wipe p).lio = s.lio ∧ (s.wipe p).inj = s.inj ∧ (s.wipe p).cap = s.cap ∧ (s.wipe p).mtr = s.mtr ∧
    (s.wipe p).nrg = s.nrg ∧ (s.wipe p).rate = s.rate ∧ (s.wipe p).rtc = s.rtc ∧ (s.wipe p).ptp = s.ptp ∧ (s.wipe p).net = s.net ∧
    (s.wipe p).ownPoints = s.ownPoints ∧ (s.wipe p).ownSlots = s.ownSlots ∧ (s.wipe p).ownCommands = s.ownCommands ∧
    (s.wipe p).ownClasses = s.ownClasses ∧ (s.wipe p).denyRate = s.denyRate ∧ (s.wipe p).cmpt = s.cmpt ∧ (s.wipe p).bel = s.bel ∧
    (s.wipe p).trust = s.trust ∧ (s.wipe p).flash = s.flash ∧ (s.wipe p).upd = s.upd ∧ (s.wipe p).tier = s.tier :=
  ⟨rfl, rfl, rfl, rfl, rfl, rfl, rfl, rfl, rfl, rfl, rfl, rfl, rfl, rfl, rfl, rfl, rfl, rfl, rfl, rfl, rfl, rfl, rfl, rfl, rfl, rfl, rfl, rfl, rfl,
   rfl, rfl, rfl, rfl, rfl, rfl, rfl, rfl, rfl, rfl, rfl, rfl, rfl, rfl, rfl, rfl, rfl, rfl, rfl, rfl, rfl, rfl, rfl, rfl⟩

@[simp] theorem State.put64_frame (s : State) (k v : Nat) :
    (s.put64 k v).pending = s.pending ∧ (s.put64 k v).resp = s.resp ∧ (s.put64 k v).mem = s.mem ∧ (s.put64 k v).ecc = s.ecc ∧
    (s.put64 k v).mt = s.mt ∧ (s.put64 k v).mono = s.mono ∧ (s.put64 k v).cyc = s.cyc ∧ (s.put64 k v).cycCold = s.cycCold ∧
    (s.put64 k v).draws = s.draws ∧ (s.put64 k v).pins = s.pins ∧ (s.put64 k v).sup = s.sup ∧ (s.put64 k v).boot = s.boot ∧
    (s.put64 k v).unlock = s.unlock ∧ (s.put64 k v).claims = s.claims ∧ (s.put64 k v).eccx = s.eccx ∧ (s.put64 k v).points = s.points ∧
    (s.put64 k v).forces = s.forces ∧ (s.put64 k v).prior = s.prior ∧ (s.put64 k v).priorAt = s.priorAt ∧ (s.put64 k v).blkPrior = s.blkPrior ∧
    (s.put64 k v).blkAt = s.blkAt ∧ (s.put64 k v).mramBad = s.mramBad ∧ (s.put64 k v).console = s.console ∧ (s.put64 k v).lioPids = s.lioPids ∧
    (s.put64 k v).tasks = s.tasks ∧ (s.put64 k v).running = s.running ∧ (s.put64 k v).instMin = s.instMin ∧ (s.put64 k v).trigs = s.trigs ∧
    (s.put64 k v).ochg = s.ochg ∧ (s.put64 k v).cairn = s.cairn ∧ (s.put64 k v).can = s.can ∧ (s.put64 k v).mfp = s.mfp ∧
    (s.put64 k v).loops = s.loops ∧ (s.put64 k v).laneFree = s.laneFree ∧ (s.put64 k v).lio = s.lio ∧ (s.put64 k v).inj = s.inj ∧
    (s.put64 k v).cap = s.cap ∧ (s.put64 k v).mtr = s.mtr ∧ (s.put64 k v).nrg = s.nrg ∧ (s.put64 k v).rate = s.rate ∧ (s.put64 k v).rtc = s.rtc ∧
    (s.put64 k v).ptp = s.ptp ∧ (s.put64 k v).net = s.net ∧ (s.put64 k v).ownPoints = s.ownPoints ∧ (s.put64 k v).ownSlots = s.ownSlots ∧
    (s.put64 k v).ownCommands = s.ownCommands ∧ (s.put64 k v).ownClasses = s.ownClasses ∧ (s.put64 k v).denyRate = s.denyRate ∧
    (s.put64 k v).cmpt = s.cmpt ∧ (s.put64 k v).bel = s.bel ∧ (s.put64 k v).trust = s.trust ∧ (s.put64 k v).flash = s.flash ∧
    (s.put64 k v).upd = s.upd ∧ (s.put64 k v).tier = s.tier :=
  ⟨rfl, rfl, rfl, rfl, rfl, rfl, rfl, rfl, rfl, rfl, rfl, rfl, rfl, rfl, rfl, rfl, rfl, rfl, rfl, rfl, rfl, rfl, rfl, rfl, rfl, rfl, rfl, rfl, rfl,
   rfl, rfl, rfl, rfl, rfl, rfl, rfl, rfl, rfl, rfl, rfl, rfl, rfl, rfl, rfl, rfl, rfl, rfl, rfl, rfl, rfl, rfl, rfl, rfl, rfl⟩

@[simp] theorem State.draw_frame (s : State) :
    (s.draw.2).pending = s.pending ∧ (s.draw.2).resp = s.resp ∧ (s.draw.2).regs = s.regs ∧ (s.draw.2).hiWords = s.hiWords ∧ (s.draw.2).mem = s.mem ∧
    (s.draw.2).ecc = s.ecc ∧ (s.draw.2).mt = s.mt ∧ (s.draw.2).mono = s.mono ∧ (s.draw.2).cyc = s.cyc ∧ (s.draw.2).cycCold = s.cycCold ∧
    (s.draw.2).pins = s.pins ∧ (s.draw.2).sup = s.sup ∧ (s.draw.2).boot = s.boot ∧ (s.draw.2).unlock = s.unlock ∧ (s.draw.2).claims = s.claims ∧
    (s.draw.2).eccx = s.eccx ∧ (s.draw.2).points = s.points ∧ (s.draw.2).forces = s.forces ∧ (s.draw.2).prior = s.prior ∧
    (s.draw.2).priorAt = s.priorAt ∧ (s.draw.2).blkPrior = s.blkPrior ∧ (s.draw.2).blkAt = s.blkAt ∧ (s.draw.2).mramBad = s.mramBad ∧
    (s.draw.2).console = s.console ∧ (s.draw.2).lioPids = s.lioPids ∧ (s.draw.2).tasks = s.tasks ∧ (s.draw.2).running = s.running ∧
    (s.draw.2).instMin = s.instMin ∧ (s.draw.2).trigs = s.trigs ∧ (s.draw.2).ochg = s.ochg ∧ (s.draw.2).cairn = s.cairn ∧ (s.draw.2).can = s.can ∧
    (s.draw.2).mfp = s.mfp ∧ (s.draw.2).loops = s.loops ∧ (s.draw.2).laneFree = s.laneFree ∧ (s.draw.2).lio = s.lio ∧ (s.draw.2).inj = s.inj ∧
    (s.draw.2).cap = s.cap ∧ (s.draw.2).mtr = s.mtr ∧ (s.draw.2).nrg = s.nrg ∧ (s.draw.2).rate = s.rate ∧ (s.draw.2).rtc = s.rtc ∧
    (s.draw.2).ptp = s.ptp ∧ (s.draw.2).net = s.net ∧ (s.draw.2).ownPoints = s.ownPoints ∧ (s.draw.2).ownSlots = s.ownSlots ∧
    (s.draw.2).ownCommands = s.ownCommands ∧ (s.draw.2).ownClasses = s.ownClasses ∧ (s.draw.2).denyRate = s.denyRate ∧ (s.draw.2).cmpt = s.cmpt ∧
    (s.draw.2).bel = s.bel ∧ (s.draw.2).trust = s.trust ∧ (s.draw.2).flash = s.flash ∧ (s.draw.2).upd = s.upd ∧ (s.draw.2).tier = s.tier :=
  ⟨rfl, rfl, rfl, rfl, rfl, rfl, rfl, rfl, rfl, rfl, rfl, rfl, rfl, rfl, rfl, rfl, rfl, rfl, rfl, rfl, rfl, rfl, rfl, rfl, rfl, rfl, rfl, rfl, rfl,
   rfl, rfl, rfl, rfl, rfl, rfl, rfl, rfl, rfl, rfl, rfl, rfl, rfl, rfl, rfl, rfl, rfl, rfl, rfl, rfl, rfl, rfl, rfl, rfl, rfl, rfl⟩

@[simp] theorem State.jump_frame (s : State) (n : Nat) :
    (s.jump n).pending = s.pending ∧ (s.jump n).resp = s.resp ∧ (s.jump n).regs = s.regs ∧ (s.jump n).hiWords = s.hiWords ∧ (s.jump n).mem = s.mem ∧
    (s.jump n).ecc = s.ecc ∧ (s.jump n).cycCold = s.cycCold ∧ (s.jump n).draws = s.draws ∧ (s.jump n).pins = s.pins ∧ (s.jump n).sup = s.sup ∧
    (s.jump n).boot = s.boot ∧ (s.jump n).unlock = s.unlock ∧ (s.jump n).claims = s.claims ∧ (s.jump n).eccx = s.eccx ∧
    (s.jump n).points = s.points ∧ (s.jump n).forces = s.forces ∧ (s.jump n).prior = s.prior ∧ (s.jump n).priorAt = s.priorAt ∧
    (s.jump n).blkPrior = s.blkPrior ∧ (s.jump n).blkAt = s.blkAt ∧ (s.jump n).mramBad = s.mramBad ∧ (s.jump n).console = s.console ∧
    (s.jump n).lioPids = s.lioPids ∧ (s.jump n).tasks = s.tasks ∧ (s.jump n).running = s.running ∧ (s.jump n).instMin = s.instMin ∧
    (s.jump n).trigs = s.trigs ∧ (s.jump n).ochg = s.ochg ∧ (s.jump n).cairn = s.cairn ∧ (s.jump n).can = s.can ∧ (s.jump n).mfp = s.mfp ∧
    (s.jump n).loops = s.loops ∧ (s.jump n).laneFree = s.laneFree ∧ (s.jump n).lio = s.lio ∧ (s.jump n).inj = s.inj ∧ (s.jump n).cap = s.cap ∧
    (s.jump n).mtr = s.mtr ∧ (s.jump n).nrg = s.nrg ∧ (s.jump n).rate = s.rate ∧ (s.jump n).rtc = s.rtc ∧ (s.jump n).net = s.net ∧
    (s.jump n).ownPoints = s.ownPoints ∧ (s.jump n).ownSlots = s.ownSlots ∧ (s.jump n).ownCommands = s.ownCommands ∧
    (s.jump n).ownClasses = s.ownClasses ∧ (s.jump n).denyRate = s.denyRate ∧ (s.jump n).cmpt = s.cmpt ∧ (s.jump n).bel = s.bel ∧
    (s.jump n).trust = s.trust ∧ (s.jump n).flash = s.flash ∧ (s.jump n).upd = s.upd ∧ (s.jump n).tier = s.tier :=
  ⟨rfl, rfl, rfl, rfl, rfl, rfl, rfl, rfl, rfl, rfl, rfl, rfl, rfl, rfl, rfl, rfl, rfl, rfl, rfl, rfl, rfl, rfl, rfl, rfl, rfl, rfl, rfl, rfl, rfl,
   rfl, rfl, rfl, rfl, rfl, rfl, rfl, rfl, rfl, rfl, rfl, rfl, rfl, rfl, rfl, rfl, rfl, rfl, rfl, rfl, rfl, rfl, rfl⟩

@[simp] theorem State.servo_frame (s : State) :
    (s.servo).pending = s.pending ∧ (s.servo).resp = s.resp ∧ (s.servo).regs = s.regs ∧ (s.servo).hiWords = s.hiWords ∧ (s.servo).mem = s.mem ∧
    (s.servo).ecc = s.ecc ∧ (s.servo).mt = s.mt ∧ (s.servo).mono = s.mono ∧ (s.servo).cyc = s.cyc ∧ (s.servo).cycCold = s.cycCold ∧
    (s.servo).draws = s.draws ∧ (s.servo).pins = s.pins ∧ (s.servo).sup = s.sup ∧ (s.servo).boot = s.boot ∧ (s.servo).unlock = s.unlock ∧
    (s.servo).claims = s.claims ∧ (s.servo).eccx = s.eccx ∧ (s.servo).points = s.points ∧ (s.servo).forces = s.forces ∧ (s.servo).prior = s.prior ∧
    (s.servo).priorAt = s.priorAt ∧ (s.servo).blkPrior = s.blkPrior ∧ (s.servo).blkAt = s.blkAt ∧ (s.servo).mramBad = s.mramBad ∧
    (s.servo).console = s.console ∧ (s.servo).lioPids = s.lioPids ∧ (s.servo).tasks = s.tasks ∧ (s.servo).running = s.running ∧
    (s.servo).instMin = s.instMin ∧ (s.servo).trigs = s.trigs ∧ (s.servo).ochg = s.ochg ∧ (s.servo).cairn = s.cairn ∧ (s.servo).can = s.can ∧
    (s.servo).mfp = s.mfp ∧ (s.servo).loops = s.loops ∧ (s.servo).laneFree = s.laneFree ∧ (s.servo).lio = s.lio ∧ (s.servo).inj = s.inj ∧
    (s.servo).cap = s.cap ∧ (s.servo).mtr = s.mtr ∧ (s.servo).nrg = s.nrg ∧ (s.servo).rtc = s.rtc ∧ (s.servo).net = s.net ∧
    (s.servo).ownPoints = s.ownPoints ∧ (s.servo).ownSlots = s.ownSlots ∧ (s.servo).ownCommands = s.ownCommands ∧
    (s.servo).ownClasses = s.ownClasses ∧ (s.servo).denyRate = s.denyRate ∧ (s.servo).cmpt = s.cmpt ∧ (s.servo).bel = s.bel ∧
    (s.servo).trust = s.trust ∧ (s.servo).flash = s.flash ∧ (s.servo).upd = s.upd ∧ (s.servo).tier = s.tier :=
  ⟨rfl, rfl, rfl, rfl, rfl, rfl, rfl, rfl, rfl, rfl, rfl, rfl, rfl, rfl, rfl, rfl, rfl, rfl, rfl, rfl, rfl, rfl, rfl, rfl, rfl, rfl, rfl, rfl, rfl,
   rfl, rfl, rfl, rfl, rfl, rfl, rfl, rfl, rfl, rfl, rfl, rfl, rfl, rfl, rfl, rfl, rfl, rfl, rfl, rfl, rfl, rfl, rfl, rfl, rfl⟩

@[simp] theorem State.cairnSet_frame (s : State) (f : Cairn → Cairn) :
    (s.cairnSet f).pending = s.pending ∧ (s.cairnSet f).resp = s.resp ∧ (s.cairnSet f).regs = s.regs ∧ (s.cairnSet f).hiWords = s.hiWords ∧
    (s.cairnSet f).mem = s.mem ∧ (s.cairnSet f).ecc = s.ecc ∧ (s.cairnSet f).mt = s.mt ∧ (s.cairnSet f).mono = s.mono ∧ (s.cairnSet f).cyc = s.cyc ∧
    (s.cairnSet f).cycCold = s.cycCold ∧ (s.cairnSet f).draws = s.draws ∧ (s.cairnSet f).pins = s.pins ∧ (s.cairnSet f).sup = s.sup ∧
    (s.cairnSet f).boot = s.boot ∧ (s.cairnSet f).unlock = s.unlock ∧ (s.cairnSet f).claims = s.claims ∧ (s.cairnSet f).eccx = s.eccx ∧
    (s.cairnSet f).points = s.points ∧ (s.cairnSet f).forces = s.forces ∧ (s.cairnSet f).prior = s.prior ∧ (s.cairnSet f).priorAt = s.priorAt ∧
    (s.cairnSet f).blkPrior = s.blkPrior ∧ (s.cairnSet f).blkAt = s.blkAt ∧ (s.cairnSet f).mramBad = s.mramBad ∧ (s.cairnSet f).console = s.console ∧
    (s.cairnSet f).lioPids = s.lioPids ∧ (s.cairnSet f).tasks = s.tasks ∧ (s.cairnSet f).running = s.running ∧ (s.cairnSet f).instMin = s.instMin ∧
    (s.cairnSet f).trigs = s.trigs ∧ (s.cairnSet f).ochg = s.ochg ∧ (s.cairnSet f).can = s.can ∧ (s.cairnSet f).mfp = s.mfp ∧
    (s.cairnSet f).loops = s.loops ∧ (s.cairnSet f).laneFree = s.laneFree ∧ (s.cairnSet f).lio = s.lio ∧ (s.cairnSet f).inj = s.inj ∧
    (s.cairnSet f).cap = s.cap ∧ (s.cairnSet f).mtr = s.mtr ∧ (s.cairnSet f).nrg = s.nrg ∧ (s.cairnSet f).rate = s.rate ∧
    (s.cairnSet f).rtc = s.rtc ∧ (s.cairnSet f).ptp = s.ptp ∧ (s.cairnSet f).net = s.net ∧ (s.cairnSet f).ownPoints = s.ownPoints ∧
    (s.cairnSet f).ownSlots = s.ownSlots ∧ (s.cairnSet f).ownCommands = s.ownCommands ∧ (s.cairnSet f).ownClasses = s.ownClasses ∧
    (s.cairnSet f).denyRate = s.denyRate ∧ (s.cairnSet f).cmpt = s.cmpt ∧ (s.cairnSet f).bel = s.bel ∧ (s.cairnSet f).trust = s.trust ∧
    (s.cairnSet f).flash = s.flash ∧ (s.cairnSet f).upd = s.upd ∧ (s.cairnSet f).tier = s.tier :=
  ⟨rfl, rfl, rfl, rfl, rfl, rfl, rfl, rfl, rfl, rfl, rfl, rfl, rfl, rfl, rfl, rfl, rfl, rfl, rfl, rfl, rfl, rfl, rfl, rfl, rfl, rfl, rfl, rfl, rfl,
   rfl, rfl, rfl, rfl, rfl, rfl, rfl, rfl, rfl, rfl, rfl, rfl, rfl, rfl, rfl, rfl, rfl, rfl, rfl, rfl, rfl, rfl, rfl, rfl, rfl, rfl⟩

@[simp] theorem State.canSet_frame (s : State) (n : Nat) (f : CanX → CanX) :
    (s.canSet n f).pending = s.pending ∧ (s.canSet n f).resp = s.resp ∧ (s.canSet n f).regs = s.regs ∧ (s.canSet n f).hiWords = s.hiWords ∧
    (s.canSet n f).mem = s.mem ∧ (s.canSet n f).ecc = s.ecc ∧ (s.canSet n f).mt = s.mt ∧ (s.canSet n f).mono = s.mono ∧ (s.canSet n f).cyc = s.cyc ∧
    (s.canSet n f).cycCold = s.cycCold ∧ (s.canSet n f).draws = s.draws ∧ (s.canSet n f).pins = s.pins ∧ (s.canSet n f).sup = s.sup ∧
    (s.canSet n f).boot = s.boot ∧ (s.canSet n f).unlock = s.unlock ∧ (s.canSet n f).claims = s.claims ∧ (s.canSet n f).eccx = s.eccx ∧
    (s.canSet n f).points = s.points ∧ (s.canSet n f).forces = s.forces ∧ (s.canSet n f).prior = s.prior ∧ (s.canSet n f).priorAt = s.priorAt ∧
    (s.canSet n f).blkPrior = s.blkPrior ∧ (s.canSet n f).blkAt = s.blkAt ∧ (s.canSet n f).mramBad = s.mramBad ∧ (s.canSet n f).console = s.console ∧
    (s.canSet n f).lioPids = s.lioPids ∧ (s.canSet n f).tasks = s.tasks ∧ (s.canSet n f).running = s.running ∧ (s.canSet n f).instMin = s.instMin ∧
    (s.canSet n f).trigs = s.trigs ∧ (s.canSet n f).ochg = s.ochg ∧ (s.canSet n f).cairn = s.cairn ∧ (s.canSet n f).mfp = s.mfp ∧
    (s.canSet n f).loops = s.loops ∧ (s.canSet n f).laneFree = s.laneFree ∧ (s.canSet n f).lio = s.lio ∧ (s.canSet n f).inj = s.inj ∧
    (s.canSet n f).cap = s.cap ∧ (s.canSet n f).mtr = s.mtr ∧ (s.canSet n f).nrg = s.nrg ∧ (s.canSet n f).rate = s.rate ∧
    (s.canSet n f).rtc = s.rtc ∧ (s.canSet n f).ptp = s.ptp ∧ (s.canSet n f).net = s.net ∧ (s.canSet n f).ownPoints = s.ownPoints ∧
    (s.canSet n f).ownSlots = s.ownSlots ∧ (s.canSet n f).ownCommands = s.ownCommands ∧ (s.canSet n f).ownClasses = s.ownClasses ∧
    (s.canSet n f).denyRate = s.denyRate ∧ (s.canSet n f).cmpt = s.cmpt ∧ (s.canSet n f).bel = s.bel ∧ (s.canSet n f).trust = s.trust ∧
    (s.canSet n f).flash = s.flash ∧ (s.canSet n f).upd = s.upd ∧ (s.canSet n f).tier = s.tier :=
  ⟨rfl, rfl, rfl, rfl, rfl, rfl, rfl, rfl, rfl, rfl, rfl, rfl, rfl, rfl, rfl, rfl, rfl, rfl, rfl, rfl, rfl, rfl, rfl, rfl, rfl, rfl, rfl, rfl, rfl,
   rfl, rfl, rfl, rfl, rfl, rfl, rfl, rfl, rfl, rfl, rfl, rfl, rfl, rfl, rfl, rfl, rfl, rfl, rfl, rfl, rfl, rfl, rfl, rfl, rfl, rfl⟩

@[simp] theorem State.mfpSet_frame (s : State) (f : Mfp → Mfp) :
    (s.mfpSet f).pending = s.pending ∧ (s.mfpSet f).resp = s.resp ∧ (s.mfpSet f).regs = s.regs ∧ (s.mfpSet f).hiWords = s.hiWords ∧
    (s.mfpSet f).mem = s.mem ∧ (s.mfpSet f).ecc = s.ecc ∧ (s.mfpSet f).mt = s.mt ∧ (s.mfpSet f).mono = s.mono ∧ (s.mfpSet f).cyc = s.cyc ∧
    (s.mfpSet f).cycCold = s.cycCold ∧ (s.mfpSet f).draws = s.draws ∧ (s.mfpSet f).pins = s.pins ∧ (s.mfpSet f).sup = s.sup ∧
    (s.mfpSet f).boot = s.boot ∧ (s.mfpSet f).unlock = s.unlock ∧ (s.mfpSet f).claims = s.claims ∧ (s.mfpSet f).eccx = s.eccx ∧
    (s.mfpSet f).points = s.points ∧ (s.mfpSet f).forces = s.forces ∧ (s.mfpSet f).prior = s.prior ∧ (s.mfpSet f).priorAt = s.priorAt ∧
    (s.mfpSet f).blkPrior = s.blkPrior ∧ (s.mfpSet f).blkAt = s.blkAt ∧ (s.mfpSet f).mramBad = s.mramBad ∧ (s.mfpSet f).console = s.console ∧
    (s.mfpSet f).lioPids = s.lioPids ∧ (s.mfpSet f).tasks = s.tasks ∧ (s.mfpSet f).running = s.running ∧ (s.mfpSet f).instMin = s.instMin ∧
    (s.mfpSet f).trigs = s.trigs ∧ (s.mfpSet f).ochg = s.ochg ∧ (s.mfpSet f).cairn = s.cairn ∧ (s.mfpSet f).can = s.can ∧
    (s.mfpSet f).loops = s.loops ∧ (s.mfpSet f).laneFree = s.laneFree ∧ (s.mfpSet f).lio = s.lio ∧ (s.mfpSet f).inj = s.inj ∧
    (s.mfpSet f).cap = s.cap ∧ (s.mfpSet f).mtr = s.mtr ∧ (s.mfpSet f).nrg = s.nrg ∧ (s.mfpSet f).rate = s.rate ∧ (s.mfpSet f).rtc = s.rtc ∧
    (s.mfpSet f).ptp = s.ptp ∧ (s.mfpSet f).net = s.net ∧ (s.mfpSet f).ownPoints = s.ownPoints ∧ (s.mfpSet f).ownSlots = s.ownSlots ∧
    (s.mfpSet f).ownCommands = s.ownCommands ∧ (s.mfpSet f).ownClasses = s.ownClasses ∧ (s.mfpSet f).denyRate = s.denyRate ∧
    (s.mfpSet f).cmpt = s.cmpt ∧ (s.mfpSet f).bel = s.bel ∧ (s.mfpSet f).trust = s.trust ∧ (s.mfpSet f).flash = s.flash ∧ (s.mfpSet f).upd = s.upd ∧
    (s.mfpSet f).tier = s.tier :=
  ⟨rfl, rfl, rfl, rfl, rfl, rfl, rfl, rfl, rfl, rfl, rfl, rfl, rfl, rfl, rfl, rfl, rfl, rfl, rfl, rfl, rfl, rfl, rfl, rfl, rfl, rfl, rfl, rfl, rfl,
   rfl, rfl, rfl, rfl, rfl, rfl, rfl, rfl, rfl, rfl, rfl, rfl, rfl, rfl, rfl, rfl, rfl, rfl, rfl, rfl, rfl, rfl, rfl, rfl, rfl, rfl⟩

@[simp] theorem State.pointPut_frame (s : State) (p : Nat) (x : Point) :
    (s.pointPut p x).pending = s.pending ∧ (s.pointPut p x).resp = s.resp ∧ (s.pointPut p x).regs = s.regs ∧ (s.pointPut p x).hiWords = s.hiWords ∧
    (s.pointPut p x).mem = s.mem ∧ (s.pointPut p x).ecc = s.ecc ∧ (s.pointPut p x).mt = s.mt ∧ (s.pointPut p x).mono = s.mono ∧
    (s.pointPut p x).cyc = s.cyc ∧ (s.pointPut p x).cycCold = s.cycCold ∧ (s.pointPut p x).draws = s.draws ∧ (s.pointPut p x).pins = s.pins ∧
    (s.pointPut p x).sup = s.sup ∧ (s.pointPut p x).boot = s.boot ∧ (s.pointPut p x).unlock = s.unlock ∧ (s.pointPut p x).claims = s.claims ∧
    (s.pointPut p x).eccx = s.eccx ∧ (s.pointPut p x).forces = s.forces ∧ (s.pointPut p x).prior = s.prior ∧ (s.pointPut p x).priorAt = s.priorAt ∧
    (s.pointPut p x).blkPrior = s.blkPrior ∧ (s.pointPut p x).blkAt = s.blkAt ∧ (s.pointPut p x).mramBad = s.mramBad ∧
    (s.pointPut p x).console = s.console ∧ (s.pointPut p x).lioPids = s.lioPids ∧ (s.pointPut p x).tasks = s.tasks ∧
    (s.pointPut p x).running = s.running ∧ (s.pointPut p x).instMin = s.instMin ∧ (s.pointPut p x).trigs = s.trigs ∧ (s.pointPut p x).ochg = s.ochg ∧
    (s.pointPut p x).cairn = s.cairn ∧ (s.pointPut p x).can = s.can ∧ (s.pointPut p x).mfp = s.mfp ∧ (s.pointPut p x).loops = s.loops ∧
    (s.pointPut p x).laneFree = s.laneFree ∧ (s.pointPut p x).lio = s.lio ∧ (s.pointPut p x).inj = s.inj ∧ (s.pointPut p x).cap = s.cap ∧
    (s.pointPut p x).mtr = s.mtr ∧ (s.pointPut p x).nrg = s.nrg ∧ (s.pointPut p x).rate = s.rate ∧ (s.pointPut p x).rtc = s.rtc ∧
    (s.pointPut p x).ptp = s.ptp ∧ (s.pointPut p x).net = s.net ∧ (s.pointPut p x).ownPoints = s.ownPoints ∧ (s.pointPut p x).ownSlots = s.ownSlots ∧
    (s.pointPut p x).ownCommands = s.ownCommands ∧ (s.pointPut p x).ownClasses = s.ownClasses ∧ (s.pointPut p x).denyRate = s.denyRate ∧
    (s.pointPut p x).cmpt = s.cmpt ∧ (s.pointPut p x).bel = s.bel ∧ (s.pointPut p x).trust = s.trust ∧ (s.pointPut p x).flash = s.flash ∧
    (s.pointPut p x).upd = s.upd ∧ (s.pointPut p x).tier = s.tier :=
  ⟨rfl, rfl, rfl, rfl, rfl, rfl, rfl, rfl, rfl, rfl, rfl, rfl, rfl, rfl, rfl, rfl, rfl, rfl, rfl, rfl, rfl, rfl, rfl, rfl, rfl, rfl, rfl, rfl, rfl,
   rfl, rfl, rfl, rfl, rfl, rfl, rfl, rfl, rfl, rfl, rfl, rfl, rfl, rfl, rfl, rfl, rfl, rfl, rfl, rfl, rfl, rfl, rfl, rfl, rfl, rfl⟩

@[simp] theorem State.forcePut_frame (s : State) (k : Nat) (f : Force) :
    (s.forcePut k f).pending = s.pending ∧ (s.forcePut k f).resp = s.resp ∧ (s.forcePut k f).regs = s.regs ∧ (s.forcePut k f).hiWords = s.hiWords ∧
    (s.forcePut k f).mem = s.mem ∧ (s.forcePut k f).ecc = s.ecc ∧ (s.forcePut k f).mt = s.mt ∧ (s.forcePut k f).mono = s.mono ∧
    (s.forcePut k f).cyc = s.cyc ∧ (s.forcePut k f).cycCold = s.cycCold ∧ (s.forcePut k f).draws = s.draws ∧ (s.forcePut k f).pins = s.pins ∧
    (s.forcePut k f).sup = s.sup ∧ (s.forcePut k f).boot = s.boot ∧ (s.forcePut k f).unlock = s.unlock ∧ (s.forcePut k f).claims = s.claims ∧
    (s.forcePut k f).eccx = s.eccx ∧ (s.forcePut k f).points = s.points ∧ (s.forcePut k f).prior = s.prior ∧ (s.forcePut k f).priorAt = s.priorAt ∧
    (s.forcePut k f).blkPrior = s.blkPrior ∧ (s.forcePut k f).blkAt = s.blkAt ∧ (s.forcePut k f).mramBad = s.mramBad ∧
    (s.forcePut k f).console = s.console ∧ (s.forcePut k f).lioPids = s.lioPids ∧ (s.forcePut k f).tasks = s.tasks ∧
    (s.forcePut k f).running = s.running ∧ (s.forcePut k f).instMin = s.instMin ∧ (s.forcePut k f).trigs = s.trigs ∧ (s.forcePut k f).ochg = s.ochg ∧
    (s.forcePut k f).cairn = s.cairn ∧ (s.forcePut k f).can = s.can ∧ (s.forcePut k f).mfp = s.mfp ∧ (s.forcePut k f).loops = s.loops ∧
    (s.forcePut k f).laneFree = s.laneFree ∧ (s.forcePut k f).lio = s.lio ∧ (s.forcePut k f).inj = s.inj ∧ (s.forcePut k f).cap = s.cap ∧
    (s.forcePut k f).mtr = s.mtr ∧ (s.forcePut k f).nrg = s.nrg ∧ (s.forcePut k f).rate = s.rate ∧ (s.forcePut k f).rtc = s.rtc ∧
    (s.forcePut k f).ptp = s.ptp ∧ (s.forcePut k f).net = s.net ∧ (s.forcePut k f).ownPoints = s.ownPoints ∧ (s.forcePut k f).ownSlots = s.ownSlots ∧
    (s.forcePut k f).ownCommands = s.ownCommands ∧ (s.forcePut k f).ownClasses = s.ownClasses ∧ (s.forcePut k f).denyRate = s.denyRate ∧
    (s.forcePut k f).cmpt = s.cmpt ∧ (s.forcePut k f).bel = s.bel ∧ (s.forcePut k f).trust = s.trust ∧ (s.forcePut k f).flash = s.flash ∧
    (s.forcePut k f).upd = s.upd ∧ (s.forcePut k f).tier = s.tier :=
  ⟨rfl, rfl, rfl, rfl, rfl, rfl, rfl, rfl, rfl, rfl, rfl, rfl, rfl, rfl, rfl, rfl, rfl, rfl, rfl, rfl, rfl, rfl, rfl, rfl, rfl, rfl, rfl, rfl, rfl,
   rfl, rfl, rfl, rfl, rfl, rfl, rfl, rfl, rfl, rfl, rfl, rfl, rfl, rfl, rfl, rfl, rfl, rfl, rfl, rfl, rfl, rfl, rfl, rfl, rfl, rfl⟩

@[simp] theorem State.taskPut_frame (s : State) (n : Nat) (x : Task) :
    (s.taskPut n x).pending = s.pending ∧ (s.taskPut n x).resp = s.resp ∧ (s.taskPut n x).regs = s.regs ∧ (s.taskPut n x).hiWords = s.hiWords ∧
    (s.taskPut n x).mem = s.mem ∧ (s.taskPut n x).ecc = s.ecc ∧ (s.taskPut n x).mt = s.mt ∧ (s.taskPut n x).mono = s.mono ∧
    (s.taskPut n x).cyc = s.cyc ∧ (s.taskPut n x).cycCold = s.cycCold ∧ (s.taskPut n x).draws = s.draws ∧ (s.taskPut n x).pins = s.pins ∧
    (s.taskPut n x).sup = s.sup ∧ (s.taskPut n x).boot = s.boot ∧ (s.taskPut n x).unlock = s.unlock ∧ (s.taskPut n x).claims = s.claims ∧
    (s.taskPut n x).eccx = s.eccx ∧ (s.taskPut n x).points = s.points ∧ (s.taskPut n x).forces = s.forces ∧ (s.taskPut n x).prior = s.prior ∧
    (s.taskPut n x).priorAt = s.priorAt ∧ (s.taskPut n x).blkPrior = s.blkPrior ∧ (s.taskPut n x).blkAt = s.blkAt ∧
    (s.taskPut n x).mramBad = s.mramBad ∧ (s.taskPut n x).console = s.console ∧ (s.taskPut n x).lioPids = s.lioPids ∧
    (s.taskPut n x).running = s.running ∧ (s.taskPut n x).instMin = s.instMin ∧ (s.taskPut n x).trigs = s.trigs ∧ (s.taskPut n x).ochg = s.ochg ∧
    (s.taskPut n x).cairn = s.cairn ∧ (s.taskPut n x).can = s.can ∧ (s.taskPut n x).mfp = s.mfp ∧ (s.taskPut n x).loops = s.loops ∧
    (s.taskPut n x).laneFree = s.laneFree ∧ (s.taskPut n x).lio = s.lio ∧ (s.taskPut n x).inj = s.inj ∧ (s.taskPut n x).cap = s.cap ∧
    (s.taskPut n x).mtr = s.mtr ∧ (s.taskPut n x).nrg = s.nrg ∧ (s.taskPut n x).rate = s.rate ∧ (s.taskPut n x).rtc = s.rtc ∧
    (s.taskPut n x).ptp = s.ptp ∧ (s.taskPut n x).net = s.net ∧ (s.taskPut n x).ownPoints = s.ownPoints ∧ (s.taskPut n x).ownSlots = s.ownSlots ∧
    (s.taskPut n x).ownCommands = s.ownCommands ∧ (s.taskPut n x).ownClasses = s.ownClasses ∧ (s.taskPut n x).denyRate = s.denyRate ∧
    (s.taskPut n x).cmpt = s.cmpt ∧ (s.taskPut n x).bel = s.bel ∧ (s.taskPut n x).trust = s.trust ∧ (s.taskPut n x).flash = s.flash ∧
    (s.taskPut n x).upd = s.upd ∧ (s.taskPut n x).tier = s.tier :=
  ⟨rfl, rfl, rfl, rfl, rfl, rfl, rfl, rfl, rfl, rfl, rfl, rfl, rfl, rfl, rfl, rfl, rfl, rfl, rfl, rfl, rfl, rfl, rfl, rfl, rfl, rfl, rfl, rfl, rfl,
   rfl, rfl, rfl, rfl, rfl, rfl, rfl, rfl, rfl, rfl, rfl, rfl, rfl, rfl, rfl, rfl, rfl, rfl, rfl, rfl, rfl, rfl, rfl, rfl, rfl, rfl⟩

@[simp] theorem State.runStackPut_frame (s : State) (c : Nat) (l : List Nat) :
    (s.runStackPut c l).pending = s.pending ∧ (s.runStackPut c l).resp = s.resp ∧ (s.runStackPut c l).regs = s.regs ∧
    (s.runStackPut c l).hiWords = s.hiWords ∧ (s.runStackPut c l).mem = s.mem ∧ (s.runStackPut c l).ecc = s.ecc ∧ (s.runStackPut c l).mt = s.mt ∧
    (s.runStackPut c l).mono = s.mono ∧ (s.runStackPut c l).cyc = s.cyc ∧ (s.runStackPut c l).cycCold = s.cycCold ∧
    (s.runStackPut c l).draws = s.draws ∧ (s.runStackPut c l).pins = s.pins ∧ (s.runStackPut c l).sup = s.sup ∧ (s.runStackPut c l).boot = s.boot ∧
    (s.runStackPut c l).unlock = s.unlock ∧ (s.runStackPut c l).claims = s.claims ∧ (s.runStackPut c l).eccx = s.eccx ∧
    (s.runStackPut c l).points = s.points ∧ (s.runStackPut c l).forces = s.forces ∧ (s.runStackPut c l).prior = s.prior ∧
    (s.runStackPut c l).priorAt = s.priorAt ∧ (s.runStackPut c l).blkPrior = s.blkPrior ∧ (s.runStackPut c l).blkAt = s.blkAt ∧
    (s.runStackPut c l).mramBad = s.mramBad ∧ (s.runStackPut c l).console = s.console ∧ (s.runStackPut c l).lioPids = s.lioPids ∧
    (s.runStackPut c l).tasks = s.tasks ∧ (s.runStackPut c l).instMin = s.instMin ∧ (s.runStackPut c l).trigs = s.trigs ∧
    (s.runStackPut c l).ochg = s.ochg ∧ (s.runStackPut c l).cairn = s.cairn ∧ (s.runStackPut c l).can = s.can ∧ (s.runStackPut c l).mfp = s.mfp ∧
    (s.runStackPut c l).loops = s.loops ∧ (s.runStackPut c l).laneFree = s.laneFree ∧ (s.runStackPut c l).lio = s.lio ∧
    (s.runStackPut c l).inj = s.inj ∧ (s.runStackPut c l).cap = s.cap ∧ (s.runStackPut c l).mtr = s.mtr ∧ (s.runStackPut c l).nrg = s.nrg ∧
    (s.runStackPut c l).rate = s.rate ∧ (s.runStackPut c l).rtc = s.rtc ∧ (s.runStackPut c l).ptp = s.ptp ∧ (s.runStackPut c l).net = s.net ∧
    (s.runStackPut c l).ownPoints = s.ownPoints ∧ (s.runStackPut c l).ownSlots = s.ownSlots ∧ (s.runStackPut c l).ownCommands = s.ownCommands ∧
    (s.runStackPut c l).ownClasses = s.ownClasses ∧ (s.runStackPut c l).denyRate = s.denyRate ∧ (s.runStackPut c l).cmpt = s.cmpt ∧
    (s.runStackPut c l).bel = s.bel ∧ (s.runStackPut c l).trust = s.trust ∧ (s.runStackPut c l).flash = s.flash ∧ (s.runStackPut c l).upd = s.upd ∧
    (s.runStackPut c l).tier = s.tier :=
  ⟨rfl, rfl, rfl, rfl, rfl, rfl, rfl, rfl, rfl, rfl, rfl, rfl, rfl, rfl, rfl, rfl, rfl, rfl, rfl, rfl, rfl, rfl, rfl, rfl, rfl, rfl, rfl, rfl, rfl,
   rfl, rfl, rfl, rfl, rfl, rfl, rfl, rfl, rfl, rfl, rfl, rfl, rfl, rfl, rfl, rfl, rfl, rfl, rfl, rfl, rfl, rfl, rfl, rfl, rfl, rfl⟩

@[simp] theorem State.loopSet_frame (s : State) (k : Nat) (f : LoopX → LoopX) :
    (s.loopSet k f).pending = s.pending ∧ (s.loopSet k f).resp = s.resp ∧ (s.loopSet k f).regs = s.regs ∧ (s.loopSet k f).hiWords = s.hiWords ∧
    (s.loopSet k f).mem = s.mem ∧ (s.loopSet k f).ecc = s.ecc ∧ (s.loopSet k f).mt = s.mt ∧ (s.loopSet k f).mono = s.mono ∧
    (s.loopSet k f).cyc = s.cyc ∧ (s.loopSet k f).cycCold = s.cycCold ∧ (s.loopSet k f).draws = s.draws ∧ (s.loopSet k f).pins = s.pins ∧
    (s.loopSet k f).sup = s.sup ∧ (s.loopSet k f).boot = s.boot ∧ (s.loopSet k f).unlock = s.unlock ∧ (s.loopSet k f).claims = s.claims ∧
    (s.loopSet k f).eccx = s.eccx ∧ (s.loopSet k f).points = s.points ∧ (s.loopSet k f).forces = s.forces ∧ (s.loopSet k f).prior = s.prior ∧
    (s.loopSet k f).priorAt = s.priorAt ∧ (s.loopSet k f).blkPrior = s.blkPrior ∧ (s.loopSet k f).blkAt = s.blkAt ∧
    (s.loopSet k f).mramBad = s.mramBad ∧ (s.loopSet k f).console = s.console ∧ (s.loopSet k f).lioPids = s.lioPids ∧
    (s.loopSet k f).tasks = s.tasks ∧ (s.loopSet k f).running = s.running ∧ (s.loopSet k f).instMin = s.instMin ∧ (s.loopSet k f).trigs = s.trigs ∧
    (s.loopSet k f).ochg = s.ochg ∧ (s.loopSet k f).cairn = s.cairn ∧ (s.loopSet k f).can = s.can ∧ (s.loopSet k f).mfp = s.mfp ∧
    (s.loopSet k f).laneFree = s.laneFree ∧ (s.loopSet k f).lio = s.lio ∧ (s.loopSet k f).inj = s.inj ∧ (s.loopSet k f).cap = s.cap ∧
    (s.loopSet k f).mtr = s.mtr ∧ (s.loopSet k f).nrg = s.nrg ∧ (s.loopSet k f).rate = s.rate ∧ (s.loopSet k f).rtc = s.rtc ∧
    (s.loopSet k f).ptp = s.ptp ∧ (s.loopSet k f).net = s.net ∧ (s.loopSet k f).ownPoints = s.ownPoints ∧ (s.loopSet k f).ownSlots = s.ownSlots ∧
    (s.loopSet k f).ownCommands = s.ownCommands ∧ (s.loopSet k f).ownClasses = s.ownClasses ∧ (s.loopSet k f).denyRate = s.denyRate ∧
    (s.loopSet k f).cmpt = s.cmpt ∧ (s.loopSet k f).bel = s.bel ∧ (s.loopSet k f).trust = s.trust ∧ (s.loopSet k f).flash = s.flash ∧
    (s.loopSet k f).upd = s.upd ∧ (s.loopSet k f).tier = s.tier :=
  ⟨rfl, rfl, rfl, rfl, rfl, rfl, rfl, rfl, rfl, rfl, rfl, rfl, rfl, rfl, rfl, rfl, rfl, rfl, rfl, rfl, rfl, rfl, rfl, rfl, rfl, rfl, rfl, rfl, rfl,
   rfl, rfl, rfl, rfl, rfl, rfl, rfl, rfl, rfl, rfl, rfl, rfl, rfl, rfl, rfl, rfl, rfl, rfl, rfl, rfl, rfl, rfl, rfl, rfl, rfl, rfl⟩

@[simp] theorem State.injSet_frame (s : State) (i : Nat) (f : InjX → InjX) :
    (s.injSet i f).pending = s.pending ∧ (s.injSet i f).resp = s.resp ∧ (s.injSet i f).regs = s.regs ∧ (s.injSet i f).hiWords = s.hiWords ∧
    (s.injSet i f).mem = s.mem ∧ (s.injSet i f).ecc = s.ecc ∧ (s.injSet i f).mt = s.mt ∧ (s.injSet i f).mono = s.mono ∧ (s.injSet i f).cyc = s.cyc ∧
    (s.injSet i f).cycCold = s.cycCold ∧ (s.injSet i f).draws = s.draws ∧ (s.injSet i f).pins = s.pins ∧ (s.injSet i f).sup = s.sup ∧
    (s.injSet i f).boot = s.boot ∧ (s.injSet i f).unlock = s.unlock ∧ (s.injSet i f).claims = s.claims ∧ (s.injSet i f).eccx = s.eccx ∧
    (s.injSet i f).points = s.points ∧ (s.injSet i f).forces = s.forces ∧ (s.injSet i f).prior = s.prior ∧ (s.injSet i f).priorAt = s.priorAt ∧
    (s.injSet i f).blkPrior = s.blkPrior ∧ (s.injSet i f).blkAt = s.blkAt ∧ (s.injSet i f).mramBad = s.mramBad ∧ (s.injSet i f).console = s.console ∧
    (s.injSet i f).lioPids = s.lioPids ∧ (s.injSet i f).tasks = s.tasks ∧ (s.injSet i f).running = s.running ∧ (s.injSet i f).instMin = s.instMin ∧
    (s.injSet i f).trigs = s.trigs ∧ (s.injSet i f).ochg = s.ochg ∧ (s.injSet i f).cairn = s.cairn ∧ (s.injSet i f).can = s.can ∧
    (s.injSet i f).mfp = s.mfp ∧ (s.injSet i f).loops = s.loops ∧ (s.injSet i f).laneFree = s.laneFree ∧ (s.injSet i f).lio = s.lio ∧
    (s.injSet i f).cap = s.cap ∧ (s.injSet i f).mtr = s.mtr ∧ (s.injSet i f).nrg = s.nrg ∧ (s.injSet i f).rate = s.rate ∧
    (s.injSet i f).rtc = s.rtc ∧ (s.injSet i f).ptp = s.ptp ∧ (s.injSet i f).net = s.net ∧ (s.injSet i f).ownPoints = s.ownPoints ∧
    (s.injSet i f).ownSlots = s.ownSlots ∧ (s.injSet i f).ownCommands = s.ownCommands ∧ (s.injSet i f).ownClasses = s.ownClasses ∧
    (s.injSet i f).denyRate = s.denyRate ∧ (s.injSet i f).cmpt = s.cmpt ∧ (s.injSet i f).bel = s.bel ∧ (s.injSet i f).trust = s.trust ∧
    (s.injSet i f).flash = s.flash ∧ (s.injSet i f).upd = s.upd ∧ (s.injSet i f).tier = s.tier :=
  ⟨rfl, rfl, rfl, rfl, rfl, rfl, rfl, rfl, rfl, rfl, rfl, rfl, rfl, rfl, rfl, rfl, rfl, rfl, rfl, rfl, rfl, rfl, rfl, rfl, rfl, rfl, rfl, rfl, rfl,
   rfl, rfl, rfl, rfl, rfl, rfl, rfl, rfl, rfl, rfl, rfl, rfl, rfl, rfl, rfl, rfl, rfl, rfl, rfl, rfl, rfl, rfl, rfl, rfl, rfl, rfl⟩

@[simp] theorem State.capSet_frame (s : State) (j : Nat) (f : CapX → CapX) :
    (s.capSet j f).pending = s.pending ∧ (s.capSet j f).resp = s.resp ∧ (s.capSet j f).regs = s.regs ∧ (s.capSet j f).hiWords = s.hiWords ∧
    (s.capSet j f).mem = s.mem ∧ (s.capSet j f).ecc = s.ecc ∧ (s.capSet j f).mt = s.mt ∧ (s.capSet j f).mono = s.mono ∧ (s.capSet j f).cyc = s.cyc ∧
    (s.capSet j f).cycCold = s.cycCold ∧ (s.capSet j f).draws = s.draws ∧ (s.capSet j f).pins = s.pins ∧ (s.capSet j f).sup = s.sup ∧
    (s.capSet j f).boot = s.boot ∧ (s.capSet j f).unlock = s.unlock ∧ (s.capSet j f).claims = s.claims ∧ (s.capSet j f).eccx = s.eccx ∧
    (s.capSet j f).points = s.points ∧ (s.capSet j f).forces = s.forces ∧ (s.capSet j f).prior = s.prior ∧ (s.capSet j f).priorAt = s.priorAt ∧
    (s.capSet j f).blkPrior = s.blkPrior ∧ (s.capSet j f).blkAt = s.blkAt ∧ (s.capSet j f).mramBad = s.mramBad ∧ (s.capSet j f).console = s.console ∧
    (s.capSet j f).lioPids = s.lioPids ∧ (s.capSet j f).tasks = s.tasks ∧ (s.capSet j f).running = s.running ∧ (s.capSet j f).instMin = s.instMin ∧
    (s.capSet j f).trigs = s.trigs ∧ (s.capSet j f).ochg = s.ochg ∧ (s.capSet j f).cairn = s.cairn ∧ (s.capSet j f).can = s.can ∧
    (s.capSet j f).mfp = s.mfp ∧ (s.capSet j f).loops = s.loops ∧ (s.capSet j f).laneFree = s.laneFree ∧ (s.capSet j f).lio = s.lio ∧
    (s.capSet j f).inj = s.inj ∧ (s.capSet j f).mtr = s.mtr ∧ (s.capSet j f).nrg = s.nrg ∧ (s.capSet j f).rate = s.rate ∧
    (s.capSet j f).rtc = s.rtc ∧ (s.capSet j f).ptp = s.ptp ∧ (s.capSet j f).net = s.net ∧ (s.capSet j f).ownPoints = s.ownPoints ∧
    (s.capSet j f).ownSlots = s.ownSlots ∧ (s.capSet j f).ownCommands = s.ownCommands ∧ (s.capSet j f).ownClasses = s.ownClasses ∧
    (s.capSet j f).denyRate = s.denyRate ∧ (s.capSet j f).cmpt = s.cmpt ∧ (s.capSet j f).bel = s.bel ∧ (s.capSet j f).trust = s.trust ∧
    (s.capSet j f).flash = s.flash ∧ (s.capSet j f).upd = s.upd ∧ (s.capSet j f).tier = s.tier :=
  ⟨rfl, rfl, rfl, rfl, rfl, rfl, rfl, rfl, rfl, rfl, rfl, rfl, rfl, rfl, rfl, rfl, rfl, rfl, rfl, rfl, rfl, rfl, rfl, rfl, rfl, rfl, rfl, rfl, rfl,
   rfl, rfl, rfl, rfl, rfl, rfl, rfl, rfl, rfl, rfl, rfl, rfl, rfl, rfl, rfl, rfl, rfl, rfl, rfl, rfl, rfl, rfl, rfl, rfl, rfl, rfl⟩

@[simp] theorem State.ochgSet_frame (s : State) (f : Ochg → Ochg) :
    (s.ochgSet f).pending = s.pending ∧ (s.ochgSet f).resp = s.resp ∧ (s.ochgSet f).regs = s.regs ∧ (s.ochgSet f).hiWords = s.hiWords ∧
    (s.ochgSet f).mem = s.mem ∧ (s.ochgSet f).ecc = s.ecc ∧ (s.ochgSet f).mt = s.mt ∧ (s.ochgSet f).mono = s.mono ∧ (s.ochgSet f).cyc = s.cyc ∧
    (s.ochgSet f).cycCold = s.cycCold ∧ (s.ochgSet f).draws = s.draws ∧ (s.ochgSet f).pins = s.pins ∧ (s.ochgSet f).sup = s.sup ∧
    (s.ochgSet f).boot = s.boot ∧ (s.ochgSet f).unlock = s.unlock ∧ (s.ochgSet f).claims = s.claims ∧ (s.ochgSet f).eccx = s.eccx ∧
    (s.ochgSet f).points = s.points ∧ (s.ochgSet f).forces = s.forces ∧ (s.ochgSet f).prior = s.prior ∧ (s.ochgSet f).priorAt = s.priorAt ∧
    (s.ochgSet f).blkPrior = s.blkPrior ∧ (s.ochgSet f).blkAt = s.blkAt ∧ (s.ochgSet f).mramBad = s.mramBad ∧ (s.ochgSet f).console = s.console ∧
    (s.ochgSet f).lioPids = s.lioPids ∧ (s.ochgSet f).tasks = s.tasks ∧ (s.ochgSet f).running = s.running ∧ (s.ochgSet f).instMin = s.instMin ∧
    (s.ochgSet f).trigs = s.trigs ∧ (s.ochgSet f).cairn = s.cairn ∧ (s.ochgSet f).can = s.can ∧ (s.ochgSet f).mfp = s.mfp ∧
    (s.ochgSet f).loops = s.loops ∧ (s.ochgSet f).laneFree = s.laneFree ∧ (s.ochgSet f).lio = s.lio ∧ (s.ochgSet f).inj = s.inj ∧
    (s.ochgSet f).cap = s.cap ∧ (s.ochgSet f).mtr = s.mtr ∧ (s.ochgSet f).nrg = s.nrg ∧ (s.ochgSet f).rate = s.rate ∧ (s.ochgSet f).rtc = s.rtc ∧
    (s.ochgSet f).ptp = s.ptp ∧ (s.ochgSet f).net = s.net ∧ (s.ochgSet f).ownPoints = s.ownPoints ∧ (s.ochgSet f).ownSlots = s.ownSlots ∧
    (s.ochgSet f).ownCommands = s.ownCommands ∧ (s.ochgSet f).ownClasses = s.ownClasses ∧ (s.ochgSet f).denyRate = s.denyRate ∧
    (s.ochgSet f).cmpt = s.cmpt ∧ (s.ochgSet f).bel = s.bel ∧ (s.ochgSet f).trust = s.trust ∧ (s.ochgSet f).flash = s.flash ∧
    (s.ochgSet f).upd = s.upd ∧ (s.ochgSet f).tier = s.tier :=
  ⟨rfl, rfl, rfl, rfl, rfl, rfl, rfl, rfl, rfl, rfl, rfl, rfl, rfl, rfl, rfl, rfl, rfl, rfl, rfl, rfl, rfl, rfl, rfl, rfl, rfl, rfl, rfl, rfl, rfl,
   rfl, rfl, rfl, rfl, rfl, rfl, rfl, rfl, rfl, rfl, rfl, rfl, rfl, rfl, rfl, rfl, rfl, rfl, rfl, rfl, rfl, rfl, rfl, rfl, rfl, rfl⟩

@[simp] theorem State.mtrSet_frame (s : State) (f : Mtr → Mtr) :
    (s.mtrSet f).pending = s.pending ∧ (s.mtrSet f).resp = s.resp ∧ (s.mtrSet f).regs = s.regs ∧ (s.mtrSet f).hiWords = s.hiWords ∧
    (s.mtrSet f).mem = s.mem ∧ (s.mtrSet f).ecc = s.ecc ∧ (s.mtrSet f).mt = s.mt ∧ (s.mtrSet f).mono = s.mono ∧ (s.mtrSet f).cyc = s.cyc ∧
    (s.mtrSet f).cycCold = s.cycCold ∧ (s.mtrSet f).draws = s.draws ∧ (s.mtrSet f).pins = s.pins ∧ (s.mtrSet f).sup = s.sup ∧
    (s.mtrSet f).boot = s.boot ∧ (s.mtrSet f).unlock = s.unlock ∧ (s.mtrSet f).claims = s.claims ∧ (s.mtrSet f).eccx = s.eccx ∧
    (s.mtrSet f).points = s.points ∧ (s.mtrSet f).forces = s.forces ∧ (s.mtrSet f).prior = s.prior ∧ (s.mtrSet f).priorAt = s.priorAt ∧
    (s.mtrSet f).blkPrior = s.blkPrior ∧ (s.mtrSet f).blkAt = s.blkAt ∧ (s.mtrSet f).mramBad = s.mramBad ∧ (s.mtrSet f).console = s.console ∧
    (s.mtrSet f).lioPids = s.lioPids ∧ (s.mtrSet f).tasks = s.tasks ∧ (s.mtrSet f).running = s.running ∧ (s.mtrSet f).instMin = s.instMin ∧
    (s.mtrSet f).trigs = s.trigs ∧ (s.mtrSet f).ochg = s.ochg ∧ (s.mtrSet f).cairn = s.cairn ∧ (s.mtrSet f).can = s.can ∧ (s.mtrSet f).mfp = s.mfp ∧
    (s.mtrSet f).loops = s.loops ∧ (s.mtrSet f).laneFree = s.laneFree ∧ (s.mtrSet f).lio = s.lio ∧ (s.mtrSet f).inj = s.inj ∧
    (s.mtrSet f).cap = s.cap ∧ (s.mtrSet f).nrg = s.nrg ∧ (s.mtrSet f).rate = s.rate ∧ (s.mtrSet f).rtc = s.rtc ∧ (s.mtrSet f).ptp = s.ptp ∧
    (s.mtrSet f).net = s.net ∧ (s.mtrSet f).ownPoints = s.ownPoints ∧ (s.mtrSet f).ownSlots = s.ownSlots ∧ (s.mtrSet f).ownCommands = s.ownCommands ∧
    (s.mtrSet f).ownClasses = s.ownClasses ∧ (s.mtrSet f).denyRate = s.denyRate ∧ (s.mtrSet f).cmpt = s.cmpt ∧ (s.mtrSet f).bel = s.bel ∧
    (s.mtrSet f).trust = s.trust ∧ (s.mtrSet f).flash = s.flash ∧ (s.mtrSet f).upd = s.upd ∧ (s.mtrSet f).tier = s.tier :=
  ⟨rfl, rfl, rfl, rfl, rfl, rfl, rfl, rfl, rfl, rfl, rfl, rfl, rfl, rfl, rfl, rfl, rfl, rfl, rfl, rfl, rfl, rfl, rfl, rfl, rfl, rfl, rfl, rfl, rfl,
   rfl, rfl, rfl, rfl, rfl, rfl, rfl, rfl, rfl, rfl, rfl, rfl, rfl, rfl, rfl, rfl, rfl, rfl, rfl, rfl, rfl, rfl, rfl, rfl, rfl, rfl⟩

@[simp] theorem State.nrgSet_frame (s : State) (f : Nrg → Nrg) :
    (s.nrgSet f).pending = s.pending ∧ (s.nrgSet f).resp = s.resp ∧ (s.nrgSet f).regs = s.regs ∧ (s.nrgSet f).hiWords = s.hiWords ∧
    (s.nrgSet f).mem = s.mem ∧ (s.nrgSet f).ecc = s.ecc ∧ (s.nrgSet f).mt = s.mt ∧ (s.nrgSet f).mono = s.mono ∧ (s.nrgSet f).cyc = s.cyc ∧
    (s.nrgSet f).cycCold = s.cycCold ∧ (s.nrgSet f).draws = s.draws ∧ (s.nrgSet f).pins = s.pins ∧ (s.nrgSet f).sup = s.sup ∧
    (s.nrgSet f).boot = s.boot ∧ (s.nrgSet f).unlock = s.unlock ∧ (s.nrgSet f).claims = s.claims ∧ (s.nrgSet f).eccx = s.eccx ∧
    (s.nrgSet f).points = s.points ∧ (s.nrgSet f).forces = s.forces ∧ (s.nrgSet f).prior = s.prior ∧ (s.nrgSet f).priorAt = s.priorAt ∧
    (s.nrgSet f).blkPrior = s.blkPrior ∧ (s.nrgSet f).blkAt = s.blkAt ∧ (s.nrgSet f).mramBad = s.mramBad ∧ (s.nrgSet f).console = s.console ∧
    (s.nrgSet f).lioPids = s.lioPids ∧ (s.nrgSet f).tasks = s.tasks ∧ (s.nrgSet f).running = s.running ∧ (s.nrgSet f).instMin = s.instMin ∧
    (s.nrgSet f).trigs = s.trigs ∧ (s.nrgSet f).ochg = s.ochg ∧ (s.nrgSet f).cairn = s.cairn ∧ (s.nrgSet f).can = s.can ∧ (s.nrgSet f).mfp = s.mfp ∧
    (s.nrgSet f).loops = s.loops ∧ (s.nrgSet f).laneFree = s.laneFree ∧ (s.nrgSet f).lio = s.lio ∧ (s.nrgSet f).inj = s.inj ∧
    (s.nrgSet f).cap = s.cap ∧ (s.nrgSet f).mtr = s.mtr ∧ (s.nrgSet f).rate = s.rate ∧ (s.nrgSet f).rtc = s.rtc ∧ (s.nrgSet f).ptp = s.ptp ∧
    (s.nrgSet f).net = s.net ∧ (s.nrgSet f).ownPoints = s.ownPoints ∧ (s.nrgSet f).ownSlots = s.ownSlots ∧ (s.nrgSet f).ownCommands = s.ownCommands ∧
    (s.nrgSet f).ownClasses = s.ownClasses ∧ (s.nrgSet f).denyRate = s.denyRate ∧ (s.nrgSet f).cmpt = s.cmpt ∧ (s.nrgSet f).bel = s.bel ∧
    (s.nrgSet f).trust = s.trust ∧ (s.nrgSet f).flash = s.flash ∧ (s.nrgSet f).upd = s.upd ∧ (s.nrgSet f).tier = s.tier :=
  ⟨rfl, rfl, rfl, rfl, rfl, rfl, rfl, rfl, rfl, rfl, rfl, rfl, rfl, rfl, rfl, rfl, rfl, rfl, rfl, rfl, rfl, rfl, rfl, rfl, rfl, rfl, rfl, rfl, rfl,
   rfl, rfl, rfl, rfl, rfl, rfl, rfl, rfl, rfl, rfl, rfl, rfl, rfl, rfl, rfl, rfl, rfl, rfl, rfl, rfl, rfl, rfl, rfl, rfl, rfl, rfl⟩

@[simp] theorem State.rtcSet_frame (s : State) (f : Rtc → Rtc) :
    (s.rtcSet f).pending = s.pending ∧ (s.rtcSet f).resp = s.resp ∧ (s.rtcSet f).regs = s.regs ∧ (s.rtcSet f).hiWords = s.hiWords ∧
    (s.rtcSet f).mem = s.mem ∧ (s.rtcSet f).ecc = s.ecc ∧ (s.rtcSet f).mt = s.mt ∧ (s.rtcSet f).mono = s.mono ∧ (s.rtcSet f).cyc = s.cyc ∧
    (s.rtcSet f).cycCold = s.cycCold ∧ (s.rtcSet f).draws = s.draws ∧ (s.rtcSet f).pins = s.pins ∧ (s.rtcSet f).sup = s.sup ∧
    (s.rtcSet f).boot = s.boot ∧ (s.rtcSet f).unlock = s.unlock ∧ (s.rtcSet f).claims = s.claims ∧ (s.rtcSet f).eccx = s.eccx ∧
    (s.rtcSet f).points = s.points ∧ (s.rtcSet f).forces = s.forces ∧ (s.rtcSet f).prior = s.prior ∧ (s.rtcSet f).priorAt = s.priorAt ∧
    (s.rtcSet f).blkPrior = s.blkPrior ∧ (s.rtcSet f).blkAt = s.blkAt ∧ (s.rtcSet f).mramBad = s.mramBad ∧ (s.rtcSet f).console = s.console ∧
    (s.rtcSet f).lioPids = s.lioPids ∧ (s.rtcSet f).tasks = s.tasks ∧ (s.rtcSet f).running = s.running ∧ (s.rtcSet f).instMin = s.instMin ∧
    (s.rtcSet f).trigs = s.trigs ∧ (s.rtcSet f).ochg = s.ochg ∧ (s.rtcSet f).cairn = s.cairn ∧ (s.rtcSet f).can = s.can ∧ (s.rtcSet f).mfp = s.mfp ∧
    (s.rtcSet f).loops = s.loops ∧ (s.rtcSet f).laneFree = s.laneFree ∧ (s.rtcSet f).lio = s.lio ∧ (s.rtcSet f).inj = s.inj ∧
    (s.rtcSet f).cap = s.cap ∧ (s.rtcSet f).mtr = s.mtr ∧ (s.rtcSet f).nrg = s.nrg ∧ (s.rtcSet f).rate = s.rate ∧ (s.rtcSet f).ptp = s.ptp ∧
    (s.rtcSet f).net = s.net ∧ (s.rtcSet f).ownPoints = s.ownPoints ∧ (s.rtcSet f).ownSlots = s.ownSlots ∧ (s.rtcSet f).ownCommands = s.ownCommands ∧
    (s.rtcSet f).ownClasses = s.ownClasses ∧ (s.rtcSet f).denyRate = s.denyRate ∧ (s.rtcSet f).cmpt = s.cmpt ∧ (s.rtcSet f).bel = s.bel ∧
    (s.rtcSet f).trust = s.trust ∧ (s.rtcSet f).flash = s.flash ∧ (s.rtcSet f).upd = s.upd ∧ (s.rtcSet f).tier = s.tier :=
  ⟨rfl, rfl, rfl, rfl, rfl, rfl, rfl, rfl, rfl, rfl, rfl, rfl, rfl, rfl, rfl, rfl, rfl, rfl, rfl, rfl, rfl, rfl, rfl, rfl, rfl, rfl, rfl, rfl, rfl,
   rfl, rfl, rfl, rfl, rfl, rfl, rfl, rfl, rfl, rfl, rfl, rfl, rfl, rfl, rfl, rfl, rfl, rfl, rfl, rfl, rfl, rfl, rfl, rfl, rfl, rfl⟩

@[simp] theorem State.ptpSet_frame (s : State) (f : Ptp → Ptp) :
    (s.ptpSet f).pending = s.pending ∧ (s.ptpSet f).resp = s.resp ∧ (s.ptpSet f).regs = s.regs ∧ (s.ptpSet f).hiWords = s.hiWords ∧
    (s.ptpSet f).mem = s.mem ∧ (s.ptpSet f).ecc = s.ecc ∧ (s.ptpSet f).mt = s.mt ∧ (s.ptpSet f).mono = s.mono ∧ (s.ptpSet f).cyc = s.cyc ∧
    (s.ptpSet f).cycCold = s.cycCold ∧ (s.ptpSet f).draws = s.draws ∧ (s.ptpSet f).pins = s.pins ∧ (s.ptpSet f).sup = s.sup ∧
    (s.ptpSet f).boot = s.boot ∧ (s.ptpSet f).unlock = s.unlock ∧ (s.ptpSet f).claims = s.claims ∧ (s.ptpSet f).eccx = s.eccx ∧
    (s.ptpSet f).points = s.points ∧ (s.ptpSet f).forces = s.forces ∧ (s.ptpSet f).prior = s.prior ∧ (s.ptpSet f).priorAt = s.priorAt ∧
    (s.ptpSet f).blkPrior = s.blkPrior ∧ (s.ptpSet f).blkAt = s.blkAt ∧ (s.ptpSet f).mramBad = s.mramBad ∧ (s.ptpSet f).console = s.console ∧
    (s.ptpSet f).lioPids = s.lioPids ∧ (s.ptpSet f).tasks = s.tasks ∧ (s.ptpSet f).running = s.running ∧ (s.ptpSet f).instMin = s.instMin ∧
    (s.ptpSet f).trigs = s.trigs ∧ (s.ptpSet f).ochg = s.ochg ∧ (s.ptpSet f).cairn = s.cairn ∧ (s.ptpSet f).can = s.can ∧ (s.ptpSet f).mfp = s.mfp ∧
    (s.ptpSet f).loops = s.loops ∧ (s.ptpSet f).laneFree = s.laneFree ∧ (s.ptpSet f).lio = s.lio ∧ (s.ptpSet f).inj = s.inj ∧
    (s.ptpSet f).cap = s.cap ∧ (s.ptpSet f).mtr = s.mtr ∧ (s.ptpSet f).nrg = s.nrg ∧ (s.ptpSet f).rate = s.rate ∧ (s.ptpSet f).rtc = s.rtc ∧
    (s.ptpSet f).net = s.net ∧ (s.ptpSet f).ownPoints = s.ownPoints ∧ (s.ptpSet f).ownSlots = s.ownSlots ∧ (s.ptpSet f).ownCommands = s.ownCommands ∧
    (s.ptpSet f).ownClasses = s.ownClasses ∧ (s.ptpSet f).denyRate = s.denyRate ∧ (s.ptpSet f).cmpt = s.cmpt ∧ (s.ptpSet f).bel = s.bel ∧
    (s.ptpSet f).trust = s.trust ∧ (s.ptpSet f).flash = s.flash ∧ (s.ptpSet f).upd = s.upd ∧ (s.ptpSet f).tier = s.tier :=
  ⟨rfl, rfl, rfl, rfl, rfl, rfl, rfl, rfl, rfl, rfl, rfl, rfl, rfl, rfl, rfl, rfl, rfl, rfl, rfl, rfl, rfl, rfl, rfl, rfl, rfl, rfl, rfl, rfl, rfl,
   rfl, rfl, rfl, rfl, rfl, rfl, rfl, rfl, rfl, rfl, rfl, rfl, rfl, rfl, rfl, rfl, rfl, rfl, rfl, rfl, rfl, rfl, rfl, rfl, rfl, rfl⟩

@[simp] theorem State.netSet_frame (s : State) (f : Net → Net) :
    (s.netSet f).pending = s.pending ∧ (s.netSet f).resp = s.resp ∧ (s.netSet f).regs = s.regs ∧ (s.netSet f).hiWords = s.hiWords ∧
    (s.netSet f).mem = s.mem ∧ (s.netSet f).ecc = s.ecc ∧ (s.netSet f).mt = s.mt ∧ (s.netSet f).mono = s.mono ∧ (s.netSet f).cyc = s.cyc ∧
    (s.netSet f).cycCold = s.cycCold ∧ (s.netSet f).draws = s.draws ∧ (s.netSet f).pins = s.pins ∧ (s.netSet f).sup = s.sup ∧
    (s.netSet f).boot = s.boot ∧ (s.netSet f).unlock = s.unlock ∧ (s.netSet f).claims = s.claims ∧ (s.netSet f).eccx = s.eccx ∧
    (s.netSet f).points = s.points ∧ (s.netSet f).forces = s.forces ∧ (s.netSet f).prior = s.prior ∧ (s.netSet f).priorAt = s.priorAt ∧
    (s.netSet f).blkPrior = s.blkPrior ∧ (s.netSet f).blkAt = s.blkAt ∧ (s.netSet f).mramBad = s.mramBad ∧ (s.netSet f).console = s.console ∧
    (s.netSet f).lioPids = s.lioPids ∧ (s.netSet f).tasks = s.tasks ∧ (s.netSet f).running = s.running ∧ (s.netSet f).instMin = s.instMin ∧
    (s.netSet f).trigs = s.trigs ∧ (s.netSet f).ochg = s.ochg ∧ (s.netSet f).cairn = s.cairn ∧ (s.netSet f).can = s.can ∧ (s.netSet f).mfp = s.mfp ∧
    (s.netSet f).loops = s.loops ∧ (s.netSet f).laneFree = s.laneFree ∧ (s.netSet f).lio = s.lio ∧ (s.netSet f).inj = s.inj ∧
    (s.netSet f).cap = s.cap ∧ (s.netSet f).mtr = s.mtr ∧ (s.netSet f).nrg = s.nrg ∧ (s.netSet f).rate = s.rate ∧ (s.netSet f).rtc = s.rtc ∧
    (s.netSet f).ptp = s.ptp ∧ (s.netSet f).ownPoints = s.ownPoints ∧ (s.netSet f).ownSlots = s.ownSlots ∧ (s.netSet f).ownCommands = s.ownCommands ∧
    (s.netSet f).ownClasses = s.ownClasses ∧ (s.netSet f).denyRate = s.denyRate ∧ (s.netSet f).cmpt = s.cmpt ∧ (s.netSet f).bel = s.bel ∧
    (s.netSet f).trust = s.trust ∧ (s.netSet f).flash = s.flash ∧ (s.netSet f).upd = s.upd ∧ (s.netSet f).tier = s.tier :=
  ⟨rfl, rfl, rfl, rfl, rfl, rfl, rfl, rfl, rfl, rfl, rfl, rfl, rfl, rfl, rfl, rfl, rfl, rfl, rfl, rfl, rfl, rfl, rfl, rfl, rfl, rfl, rfl, rfl, rfl,
   rfl, rfl, rfl, rfl, rfl, rfl, rfl, rfl, rfl, rfl, rfl, rfl, rfl, rfl, rfl, rfl, rfl, rfl, rfl, rfl, rfl, rfl, rfl, rfl, rfl, rfl⟩

@[simp] theorem State.cmptSet_frame (s : State) (f : Cmpt → Cmpt) :
    (s.cmptSet f).pending = s.pending ∧ (s.cmptSet f).resp = s.resp ∧ (s.cmptSet f).regs = s.regs ∧ (s.cmptSet f).hiWords = s.hiWords ∧
    (s.cmptSet f).mem = s.mem ∧ (s.cmptSet f).ecc = s.ecc ∧ (s.cmptSet f).mt = s.mt ∧ (s.cmptSet f).mono = s.mono ∧ (s.cmptSet f).cyc = s.cyc ∧
    (s.cmptSet f).cycCold = s.cycCold ∧ (s.cmptSet f).draws = s.draws ∧ (s.cmptSet f).pins = s.pins ∧ (s.cmptSet f).sup = s.sup ∧
    (s.cmptSet f).boot = s.boot ∧ (s.cmptSet f).unlock = s.unlock ∧ (s.cmptSet f).claims = s.claims ∧ (s.cmptSet f).eccx = s.eccx ∧
    (s.cmptSet f).points = s.points ∧ (s.cmptSet f).forces = s.forces ∧ (s.cmptSet f).prior = s.prior ∧ (s.cmptSet f).priorAt = s.priorAt ∧
    (s.cmptSet f).blkPrior = s.blkPrior ∧ (s.cmptSet f).blkAt = s.blkAt ∧ (s.cmptSet f).mramBad = s.mramBad ∧ (s.cmptSet f).console = s.console ∧
    (s.cmptSet f).lioPids = s.lioPids ∧ (s.cmptSet f).tasks = s.tasks ∧ (s.cmptSet f).running = s.running ∧ (s.cmptSet f).instMin = s.instMin ∧
    (s.cmptSet f).trigs = s.trigs ∧ (s.cmptSet f).ochg = s.ochg ∧ (s.cmptSet f).cairn = s.cairn ∧ (s.cmptSet f).can = s.can ∧
    (s.cmptSet f).mfp = s.mfp ∧ (s.cmptSet f).loops = s.loops ∧ (s.cmptSet f).laneFree = s.laneFree ∧ (s.cmptSet f).lio = s.lio ∧
    (s.cmptSet f).inj = s.inj ∧ (s.cmptSet f).cap = s.cap ∧ (s.cmptSet f).mtr = s.mtr ∧ (s.cmptSet f).nrg = s.nrg ∧ (s.cmptSet f).rate = s.rate ∧
    (s.cmptSet f).rtc = s.rtc ∧ (s.cmptSet f).ptp = s.ptp ∧ (s.cmptSet f).net = s.net ∧ (s.cmptSet f).ownPoints = s.ownPoints ∧
    (s.cmptSet f).ownSlots = s.ownSlots ∧ (s.cmptSet f).ownCommands = s.ownCommands ∧ (s.cmptSet f).ownClasses = s.ownClasses ∧
    (s.cmptSet f).denyRate = s.denyRate ∧ (s.cmptSet f).bel = s.bel ∧ (s.cmptSet f).trust = s.trust ∧ (s.cmptSet f).flash = s.flash ∧
    (s.cmptSet f).upd = s.upd ∧ (s.cmptSet f).tier = s.tier :=
  ⟨rfl, rfl, rfl, rfl, rfl, rfl, rfl, rfl, rfl, rfl, rfl, rfl, rfl, rfl, rfl, rfl, rfl, rfl, rfl, rfl, rfl, rfl, rfl, rfl, rfl, rfl, rfl, rfl, rfl,
   rfl, rfl, rfl, rfl, rfl, rfl, rfl, rfl, rfl, rfl, rfl, rfl, rfl, rfl, rfl, rfl, rfl, rfl, rfl, rfl, rfl, rfl, rfl, rfl, rfl, rfl⟩

@[simp] theorem State.belSet_frame (s : State) (f : Bel → Bel) :
    (s.belSet f).pending = s.pending ∧ (s.belSet f).resp = s.resp ∧ (s.belSet f).regs = s.regs ∧ (s.belSet f).hiWords = s.hiWords ∧
    (s.belSet f).mem = s.mem ∧ (s.belSet f).ecc = s.ecc ∧ (s.belSet f).mt = s.mt ∧ (s.belSet f).mono = s.mono ∧ (s.belSet f).cyc = s.cyc ∧
    (s.belSet f).cycCold = s.cycCold ∧ (s.belSet f).draws = s.draws ∧ (s.belSet f).pins = s.pins ∧ (s.belSet f).sup = s.sup ∧
    (s.belSet f).boot = s.boot ∧ (s.belSet f).unlock = s.unlock ∧ (s.belSet f).claims = s.claims ∧ (s.belSet f).eccx = s.eccx ∧
    (s.belSet f).points = s.points ∧ (s.belSet f).forces = s.forces ∧ (s.belSet f).prior = s.prior ∧ (s.belSet f).priorAt = s.priorAt ∧
    (s.belSet f).blkPrior = s.blkPrior ∧ (s.belSet f).blkAt = s.blkAt ∧ (s.belSet f).mramBad = s.mramBad ∧ (s.belSet f).console = s.console ∧
    (s.belSet f).lioPids = s.lioPids ∧ (s.belSet f).tasks = s.tasks ∧ (s.belSet f).running = s.running ∧ (s.belSet f).instMin = s.instMin ∧
    (s.belSet f).trigs = s.trigs ∧ (s.belSet f).ochg = s.ochg ∧ (s.belSet f).cairn = s.cairn ∧ (s.belSet f).can = s.can ∧ (s.belSet f).mfp = s.mfp ∧
    (s.belSet f).loops = s.loops ∧ (s.belSet f).laneFree = s.laneFree ∧ (s.belSet f).lio = s.lio ∧ (s.belSet f).inj = s.inj ∧
    (s.belSet f).cap = s.cap ∧ (s.belSet f).mtr = s.mtr ∧ (s.belSet f).nrg = s.nrg ∧ (s.belSet f).rate = s.rate ∧ (s.belSet f).rtc = s.rtc ∧
    (s.belSet f).ptp = s.ptp ∧ (s.belSet f).net = s.net ∧ (s.belSet f).ownPoints = s.ownPoints ∧ (s.belSet f).ownSlots = s.ownSlots ∧
    (s.belSet f).ownCommands = s.ownCommands ∧ (s.belSet f).ownClasses = s.ownClasses ∧ (s.belSet f).denyRate = s.denyRate ∧
    (s.belSet f).cmpt = s.cmpt ∧ (s.belSet f).trust = s.trust ∧ (s.belSet f).flash = s.flash ∧ (s.belSet f).upd = s.upd ∧
    (s.belSet f).tier = s.tier :=
  ⟨rfl, rfl, rfl, rfl, rfl, rfl, rfl, rfl, rfl, rfl, rfl, rfl, rfl, rfl, rfl, rfl, rfl, rfl, rfl, rfl, rfl, rfl, rfl, rfl, rfl, rfl, rfl, rfl, rfl,
   rfl, rfl, rfl, rfl, rfl, rfl, rfl, rfl, rfl, rfl, rfl, rfl, rfl, rfl, rfl, rfl, rfl, rfl, rfl, rfl, rfl, rfl, rfl, rfl, rfl, rfl⟩

@[simp] theorem State.trustSet_frame (s : State) (f : Trust → Trust) :
    (s.trustSet f).pending = s.pending ∧ (s.trustSet f).resp = s.resp ∧ (s.trustSet f).regs = s.regs ∧ (s.trustSet f).hiWords = s.hiWords ∧
    (s.trustSet f).mem = s.mem ∧ (s.trustSet f).ecc = s.ecc ∧ (s.trustSet f).mt = s.mt ∧ (s.trustSet f).mono = s.mono ∧ (s.trustSet f).cyc = s.cyc ∧
    (s.trustSet f).cycCold = s.cycCold ∧ (s.trustSet f).draws = s.draws ∧ (s.trustSet f).pins = s.pins ∧ (s.trustSet f).sup = s.sup ∧
    (s.trustSet f).boot = s.boot ∧ (s.trustSet f).unlock = s.unlock ∧ (s.trustSet f).claims = s.claims ∧ (s.trustSet f).eccx = s.eccx ∧
    (s.trustSet f).points = s.points ∧ (s.trustSet f).forces = s.forces ∧ (s.trustSet f).prior = s.prior ∧ (s.trustSet f).priorAt = s.priorAt ∧
    (s.trustSet f).blkPrior = s.blkPrior ∧ (s.trustSet f).blkAt = s.blkAt ∧ (s.trustSet f).mramBad = s.mramBad ∧ (s.trustSet f).console = s.console ∧
    (s.trustSet f).lioPids = s.lioPids ∧ (s.trustSet f).tasks = s.tasks ∧ (s.trustSet f).running = s.running ∧ (s.trustSet f).instMin = s.instMin ∧
    (s.trustSet f).trigs = s.trigs ∧ (s.trustSet f).ochg = s.ochg ∧ (s.trustSet f).cairn = s.cairn ∧ (s.trustSet f).can = s.can ∧
    (s.trustSet f).mfp = s.mfp ∧ (s.trustSet f).loops = s.loops ∧ (s.trustSet f).laneFree = s.laneFree ∧ (s.trustSet f).lio = s.lio ∧
    (s.trustSet f).inj = s.inj ∧ (s.trustSet f).cap = s.cap ∧ (s.trustSet f).mtr = s.mtr ∧ (s.trustSet f).nrg = s.nrg ∧
    (s.trustSet f).rate = s.rate ∧ (s.trustSet f).rtc = s.rtc ∧ (s.trustSet f).ptp = s.ptp ∧ (s.trustSet f).net = s.net ∧
    (s.trustSet f).ownPoints = s.ownPoints ∧ (s.trustSet f).ownSlots = s.ownSlots ∧ (s.trustSet f).ownCommands = s.ownCommands ∧
    (s.trustSet f).ownClasses = s.ownClasses ∧ (s.trustSet f).denyRate = s.denyRate ∧ (s.trustSet f).cmpt = s.cmpt ∧ (s.trustSet f).bel = s.bel ∧
    (s.trustSet f).flash = s.flash ∧ (s.trustSet f).upd = s.upd ∧ (s.trustSet f).tier = s.tier :=
  ⟨rfl, rfl, rfl, rfl, rfl, rfl, rfl, rfl, rfl, rfl, rfl, rfl, rfl, rfl, rfl, rfl, rfl, rfl, rfl, rfl, rfl, rfl, rfl, rfl, rfl, rfl, rfl, rfl, rfl,
   rfl, rfl, rfl, rfl, rfl, rfl, rfl, rfl, rfl, rfl, rfl, rfl, rfl, rfl, rfl, rfl, rfl, rfl, rfl, rfl, rfl, rfl, rfl, rfl, rfl, rfl⟩

@[simp] theorem State.updSet_frame (s : State) (f : Upd → Upd) :
    (s.updSet f).pending = s.pending ∧ (s.updSet f).resp = s.resp ∧ (s.updSet f).regs = s.regs ∧ (s.updSet f).hiWords = s.hiWords ∧
    (s.updSet f).mem = s.mem ∧ (s.updSet f).ecc = s.ecc ∧ (s.updSet f).mt = s.mt ∧ (s.updSet f).mono = s.mono ∧ (s.updSet f).cyc = s.cyc ∧
    (s.updSet f).cycCold = s.cycCold ∧ (s.updSet f).draws = s.draws ∧ (s.updSet f).pins = s.pins ∧ (s.updSet f).sup = s.sup ∧
    (s.updSet f).boot = s.boot ∧ (s.updSet f).unlock = s.unlock ∧ (s.updSet f).claims = s.claims ∧ (s.updSet f).eccx = s.eccx ∧
    (s.updSet f).points = s.points ∧ (s.updSet f).forces = s.forces ∧ (s.updSet f).prior = s.prior ∧ (s.updSet f).priorAt = s.priorAt ∧
    (s.updSet f).blkPrior = s.blkPrior ∧ (s.updSet f).blkAt = s.blkAt ∧ (s.updSet f).mramBad = s.mramBad ∧ (s.updSet f).console = s.console ∧
    (s.updSet f).lioPids = s.lioPids ∧ (s.updSet f).tasks = s.tasks ∧ (s.updSet f).running = s.running ∧ (s.updSet f).instMin = s.instMin ∧
    (s.updSet f).trigs = s.trigs ∧ (s.updSet f).ochg = s.ochg ∧ (s.updSet f).cairn = s.cairn ∧ (s.updSet f).can = s.can ∧ (s.updSet f).mfp = s.mfp ∧
    (s.updSet f).loops = s.loops ∧ (s.updSet f).laneFree = s.laneFree ∧ (s.updSet f).lio = s.lio ∧ (s.updSet f).inj = s.inj ∧
    (s.updSet f).cap = s.cap ∧ (s.updSet f).mtr = s.mtr ∧ (s.updSet f).nrg = s.nrg ∧ (s.updSet f).rate = s.rate ∧ (s.updSet f).rtc = s.rtc ∧
    (s.updSet f).ptp = s.ptp ∧ (s.updSet f).net = s.net ∧ (s.updSet f).ownPoints = s.ownPoints ∧ (s.updSet f).ownSlots = s.ownSlots ∧
    (s.updSet f).ownCommands = s.ownCommands ∧ (s.updSet f).ownClasses = s.ownClasses ∧ (s.updSet f).denyRate = s.denyRate ∧
    (s.updSet f).cmpt = s.cmpt ∧ (s.updSet f).bel = s.bel ∧ (s.updSet f).trust = s.trust ∧ (s.updSet f).flash = s.flash ∧
    (s.updSet f).tier = s.tier :=
  ⟨rfl, rfl, rfl, rfl, rfl, rfl, rfl, rfl, rfl, rfl, rfl, rfl, rfl, rfl, rfl, rfl, rfl, rfl, rfl, rfl, rfl, rfl, rfl, rfl, rfl, rfl, rfl, rfl, rfl,
   rfl, rfl, rfl, rfl, rfl, rfl, rfl, rfl, rfl, rfl, rfl, rfl, rfl, rfl, rfl, rfl, rfl, rfl, rfl, rfl, rfl, rfl, rfl, rfl, rfl, rfl⟩

@[simp] theorem State.flashSet_frame (s : State) (f : Flash → Flash) :
    (s.flashSet f).pending = s.pending ∧ (s.flashSet f).resp = s.resp ∧ (s.flashSet f).regs = s.regs ∧ (s.flashSet f).hiWords = s.hiWords ∧
    (s.flashSet f).mem = s.mem ∧ (s.flashSet f).ecc = s.ecc ∧ (s.flashSet f).mt = s.mt ∧ (s.flashSet f).mono = s.mono ∧ (s.flashSet f).cyc = s.cyc ∧
    (s.flashSet f).cycCold = s.cycCold ∧ (s.flashSet f).draws = s.draws ∧ (s.flashSet f).pins = s.pins ∧ (s.flashSet f).sup = s.sup ∧
    (s.flashSet f).boot = s.boot ∧ (s.flashSet f).unlock = s.unlock ∧ (s.flashSet f).claims = s.claims ∧ (s.flashSet f).eccx = s.eccx ∧
    (s.flashSet f).points = s.points ∧ (s.flashSet f).forces = s.forces ∧ (s.flashSet f).prior = s.prior ∧ (s.flashSet f).priorAt = s.priorAt ∧
    (s.flashSet f).blkPrior = s.blkPrior ∧ (s.flashSet f).blkAt = s.blkAt ∧ (s.flashSet f).mramBad = s.mramBad ∧ (s.flashSet f).console = s.console ∧
    (s.flashSet f).lioPids = s.lioPids ∧ (s.flashSet f).tasks = s.tasks ∧ (s.flashSet f).running = s.running ∧ (s.flashSet f).instMin = s.instMin ∧
    (s.flashSet f).trigs = s.trigs ∧ (s.flashSet f).ochg = s.ochg ∧ (s.flashSet f).cairn = s.cairn ∧ (s.flashSet f).can = s.can ∧
    (s.flashSet f).mfp = s.mfp ∧ (s.flashSet f).loops = s.loops ∧ (s.flashSet f).laneFree = s.laneFree ∧ (s.flashSet f).lio = s.lio ∧
    (s.flashSet f).inj = s.inj ∧ (s.flashSet f).cap = s.cap ∧ (s.flashSet f).mtr = s.mtr ∧ (s.flashSet f).nrg = s.nrg ∧
    (s.flashSet f).rate = s.rate ∧ (s.flashSet f).rtc = s.rtc ∧ (s.flashSet f).ptp = s.ptp ∧ (s.flashSet f).net = s.net ∧
    (s.flashSet f).ownPoints = s.ownPoints ∧ (s.flashSet f).ownSlots = s.ownSlots ∧ (s.flashSet f).ownCommands = s.ownCommands ∧
    (s.flashSet f).ownClasses = s.ownClasses ∧ (s.flashSet f).denyRate = s.denyRate ∧ (s.flashSet f).cmpt = s.cmpt ∧ (s.flashSet f).bel = s.bel ∧
    (s.flashSet f).trust = s.trust ∧ (s.flashSet f).upd = s.upd ∧ (s.flashSet f).tier = s.tier :=
  ⟨rfl, rfl, rfl, rfl, rfl, rfl, rfl, rfl, rfl, rfl, rfl, rfl, rfl, rfl, rfl, rfl, rfl, rfl, rfl, rfl, rfl, rfl, rfl, rfl, rfl, rfl, rfl, rfl, rfl,
   rfl, rfl, rfl, rfl, rfl, rfl, rfl, rfl, rfl, rfl, rfl, rfl, rfl, rfl, rfl, rfl, rfl, rfl, rfl, rfl, rfl, rfl, rfl, rfl, rfl, rfl⟩

@[simp] theorem State.wr_regs (s : State) (k : Nat) (v : Word) : (s.wr k v).regs = tabSet regReset s.regs k v := rfl
@[simp] theorem State.setByte_mem (s : State) (a : Nat) (v : Byte) : (s.setByte a v).mem = tabSet (fun _ => (0 : Byte)) s.mem a v := rfl
@[simp] theorem State.draw_draws (s : State) : (s.draw.2).draws = s.draws + 1 := rfl
@[simp] theorem State.runStackPut_running (s : State) (c : Nat) (l : List Nat) : (s.runStackPut c l).running = s.running.setIfInBounds c l := rfl
@[simp] theorem State.cairnSet_cairn (s : State) (f : Cairn → Cairn) : (s.cairnSet f).cairn = f s.cairn := rfl
@[simp] theorem State.mfpSet_mfp (s : State) (f : Mfp → Mfp) : (s.mfpSet f).mfp = f s.mfp := rfl
@[simp] theorem State.ochgSet_ochg (s : State) (f : Ochg → Ochg) : (s.ochgSet f).ochg = f s.ochg := rfl
@[simp] theorem State.mtrSet_mtr (s : State) (f : Mtr → Mtr) : (s.mtrSet f).mtr = f s.mtr := rfl
@[simp] theorem State.nrgSet_nrg (s : State) (f : Nrg → Nrg) : (s.nrgSet f).nrg = f s.nrg := rfl
@[simp] theorem State.rtcSet_rtc (s : State) (f : Rtc → Rtc) : (s.rtcSet f).rtc = f s.rtc := rfl
@[simp] theorem State.ptpSet_ptp (s : State) (f : Ptp → Ptp) : (s.ptpSet f).ptp = f s.ptp := rfl
@[simp] theorem State.netSet_net (s : State) (f : Net → Net) : (s.netSet f).net = f s.net := rfl
@[simp] theorem State.cmptSet_cmpt (s : State) (f : Cmpt → Cmpt) : (s.cmptSet f).cmpt = f s.cmpt := rfl
@[simp] theorem State.belSet_bel (s : State) (f : Bel → Bel) : (s.belSet f).bel = f s.bel := rfl
@[simp] theorem State.trustSet_trust (s : State) (f : Trust → Trust) : (s.trustSet f).trust = f s.trust := rfl
@[simp] theorem State.updSet_upd (s : State) (f : Upd → Upd) : (s.updSet f).upd = f s.upd := rfl
@[simp] theorem State.flashSet_flash (s : State) (f : Flash → Flash) : (s.flashSet f).flash = f s.flash := rfl

end Sys2Proof.Machine
end

