-- ==== Sys2Proof/Laws/Gates.lean ====
section
/-! SUPPORT. What the operations that every meaning is written with can do: where a command is served, what an event, a record and the passing of time
change, and how a mailbox request is answered. -/
namespace Sys2Proof.Machine

/-! ### Where a command is served -/

theorem whenAwake_awake {s : State} (f : State → State) (h : s.awake = true) : s.whenAwake f = .next (f s) := by
  simp only [State.awake] at h
  simp only [State.whenAwake, h, if_true]

theorem whenAwake_not {s : State} (f : State → State) (h : s.awake = false) : s.whenAwake f = .next s := by
  simp only [State.awake] at h
  simp only [State.whenAwake, h, Bool.false_eq_true, if_false]

theorem whenLive_live {s : State} (f : State → State) (h : s.live = true) : s.whenLive f = .next (f s) := by
  simp only [State.whenLive, h, if_true]

/-- A register command of a requester that R93 lets reach the register. -/
theorem regCmd_opens {s : State} {req : Req} {key : Nat} (f : State → State) (h : s.awake = true) (ho : s.opens req key = true) :
    s.regCmd req key f = .next { f s with resp := .data 0 } := by
  simp only [State.opens] at ho
  simp only [State.regCmd, whenAwake_awake _ h, State.onPage, ho, if_true]

/-- One that R93 does not let reach it is refused with an access fault. -/
theorem regCmd_refused {s : State} {req : Req} {key : Nat} (f : State → State) (h : s.awake = true) (ho : s.opens req key = false) :
    s.regCmd req key f = .next (s.pageRefuse req (key / 0x1000) (key % 0x1000) true) := by
  simp only [State.opens] at ho
  simp only [State.regCmd, whenAwake_awake _ h, State.onPage, ho, Bool.false_eq_true, if_false]

theorem whenAwake_runs {s : State} (f : State → State) {P : State → Prop} (h : s.awake = true) (hp : P (f s)) : ∃ t, s.whenAwake f = .next t ∧ P t :=
  ⟨f s, whenAwake_awake f h, hp⟩

/-! ### Registers alone -/

theorem fput_regs (s : State) (f : Fld) (x : Nat) : s.fput f x = { s with regs := (s.fput f x).regs } := rfl
theorem setBit_regs (s : State) (k i : Nat) (b : Bool) : s.setBit k i b = { s with regs := (s.setBit k i b).regs } := rfl
theorem addSat_regs (s : State) (f : Fld) (n : Nat) : s.addSat f n = { s with regs := (s.addSat f n).regs } := rfl
theorem countSat_regs (s : State) (k n : Nat) : s.countSat k n = { s with regs := (s.countSat k n).regs } := rfl
theorem flag_regs (s : State) (f : Fld) : s.flag f = { s with regs := (s.flag f).regs } := rfl
theorem setPair_regs (s : State) (lo hi v : Nat) : s.setPair lo hi v = { s with regs := (s.setPair lo hi v).regs } := rfl

/-- An event changes INT_RAW of its page and nothing else, and only while the page's ENABLE is 1 (R91). -/
theorem raise_regs (s : State) (p k : Nat) : s.raise p k = { s with regs := (s.raise p k).regs } := by
  unfold State.raise
  split <;> rfl

theorem raise_disabled {s : State} {p : Nat} (k : Nat) (h : s.enabled p = false) : s.raise p k = s := by
  simp only [State.raise, h, Bool.false_eq_true, if_false]

theorem rd_raise_ne (s : State) (p k : Nat) {j : Nat} (h : j ≠ R.INT_RAW p) : (s.raise p k).rd j = s.rd j := by
  unfold State.raise
  split
  · exact s.rd_fput_ne _ _ h
  · rfl

/-- A record changes the queue of the recorder, and, where the queue is full, the count and the event of its drop (R504). -/
theorem submit_frame (s : State) (r : Rec) : s.submit r = { s with regs := (s.submit r).regs, cairn := (s.submit r).cairn } := by
  unfold State.submit
  split
  · rfl
  · rw [raise_regs]
    rfl

theorem submit_room {s : State} (r : Rec) (h : s.cairn.queue.length < queueSize) : (s.submit r).regs = s.regs := by
  simp only [State.submit, h, if_true]

/-! ### Time -/

@[simp] theorem jump_atTimeOf (s t : State) (n : Nat) : (s.jump n).atTimeOf t = s.atTimeOf t := rfl
@[simp] theorem servo_atTimeOf (s t : State) : s.servo.atTimeOf t = s.atTimeOf t := rfl
theorem jump_time (s : State) (n : Nat) : s.jump n = s.atTimeOf (s.jump n) := rfl

theorem tickN_time (n : Nat) (s : State) : State.tickN n s = s.atTimeOf (State.tickN n s) := by
  induction n generalizing s with
  | zero => rfl
  | succ n ih =>
    unfold State.tickN
    split
    · exact jump_time s _
    · exact (ih _).trans (by rw [servo_atTimeOf, jump_atTimeOf])

/-- Time that passes changes the clocks and their servo alone. -/
theorem tick_time (s : State) (n : Nat) : s.tick n = s.atTimeOf (s.tick n) := tickN_time n s

theorem reachN_time (f : State → Nat) (x n : Nat) (s : State) : State.reachN f x n s = s.atTimeOf (State.reachN f x n s) := by
  induction n generalizing s with
  | zero => rfl
  | succ n ih =>
    unfold State.reachN
    split
    · rfl
    · split
      · exact jump_time s _
      · exact (ih _).trans (by rw [servo_atTimeOf, jump_atTimeOf])

theorem reach_time (s : State) (x : Nat) : s.reach x = s.atTimeOf (s.reach x) := reachN_time _ x _ s
theorem reachMono_time (s : State) (x : Nat) : s.reachMono x = s.atTimeOf (s.reachMono x) := reachN_time _ x _ s
theorem reachCyc_time (s : State) (c : Nat) : s.reachCyc c = s.atTimeOf (s.reachCyc c) := tickN_time _ s

theorem tickN_cyc (n : Nat) (s : State) : (State.tickN n s).cyc = s.cyc + n := by
  induction n generalizing s with
  | zero => rfl
  | succ n ih =>
    unfold State.tickN
    split
    · rfl
    · rw [ih]
      show s.cyc + 1 + n = s.cyc + (n + 1)
      omega

theorem reachCyc_le (s : State) (c : Nat) : c ≤ (s.reachCyc c).cyc := by
  show c ≤ (State.tickN (c - s.cyc) s).cyc
  rw [tickN_cyc]
  omega

/-! ### The mailbox (R555) -/

/-- The arguments of a request change registers alone. -/
theorem mboxArgs_regs (s : State) (core code : Nat) (args : List Word) :
    s.mboxArgs core code args = { s with regs := (s.mboxArgs core code args).regs } := by
  unfold State.mboxArgs
  generalize hw : s.wr (R.ANC_REQ core) (BitVec.ofNat 32 code) = t
  have ht : t = { s with regs := t.regs } := by rw [← hw]; rfl
  clear hw
  generalize args.zipIdx = l
  induction l generalizing t with
  | nil => exact ht
  | cons e l ih =>
    exact ih _ (by rw [ht]; rfl)

/-- A request while another is BUSY leaves its arguments and sets BUSY_WR. -/
theorem mbox_busy {s : State} {core : Nat} (code : Nat) (args : List Word) (ok : Bool) (f : State → State) (hh : s.upd.hold = false)
    (h : s.fset (F.ANC_RSP_BUSY core) = true) :
    s.mbox core code args ok f = (s.mboxArgs core code args).flag F.ANC_FAULT_BUSY_WR := by
  simp only [State.mbox, hh, h, Bool.false_eq_true, if_false, if_true]

/-- During the Bivouac hold no request is made (R542). -/
theorem mbox_hold {s : State} {core : Nat} (code : Nat) (args : List Word) (ok : Bool) (f : State → State) (hh : s.upd.hold = true) :
    s.mbox core code args ok f = s := by
  simp only [State.mbox, hh, if_true]

/-- The answer changes the core's answer registers and its event. -/
theorem mboxDone_regs (s : State) (core result value value2 : Nat) :
    s.mboxDone core result value value2 = { s with regs := (s.mboxDone core result value value2).regs } := by
  simp only [State.mboxDone]
  rw [raise_regs]
  rfl

/-- Of an answer whose values no rule states, a free value is drawn. -/
theorem mboxEnd_frame (s : State) (core result : Nat) :
    s.mboxEnd core result = { s with regs := (s.mboxEnd core result).regs, draws := s.draws + 1 } := by
  simp only [State.mboxEnd, State.draw]
  rw [mboxDone_regs]

end Sys2Proof.Machine
end

