-- ==== Sys2Proof/Laws/Meter.lean ====
section
/-! SUPPORT. The filter chain of a metering channel (R350, R351, R354): one sample for each instant at which one leaves, the fixed delay of the dates, and a
channel without a calibration. -/
namespace Sys2Proof.Laws
open Sys2Proof.Machine

/-- One calibrated sample for each instant at which one leaves the interpolator. -/
theorem chain_length (off : Bool) (cal : Nat → Int × Int) (c : ChanIn) : (chain off cal c).length = c.leave.length := by
  simp only [chain, List.length_map, List.length_zipIdx]

/-- D_FIX is 1,243.677 µs, to 1 ns. -/
theorem dateDelay_zero : dateDelay 0 = 1243677 := by decide

theorem calSample_zero (x : Int) : calSample 0 x = 0 := by
  simp only [calSample, Int.mul_zero]
  decide

/-- Without a calibration every calibrated sample is 0, dated without a phase delay. -/
theorem samples_noCal (s : State) (ch : Nat) (inp : ChanIn) (h : s.mtr.cals = []) :
    (s.samples ch inp).map (fun x => (x.date, x.y)) = inp.leave.map (fun t => (dateOf t 0, 0)) := by
  have e : inp.leave.zipIdx.map (fun e => (dateOf e.1 0, (0 : Int))) = inp.leave.map (fun t => (dateOf t 0, 0)) := by
    rw [show (fun e : Nat × Nat => (dateOf e.1 0, (0 : Int))) = (fun t => (dateOf t 0, 0)) ∘ Prod.fst from rfl, ← List.map_map, List.zipIdx_map_fst]
  rw [← e]
  simp [State.samples, chain, State.calAt, h, calSample_zero, Function.comp_def]

end Sys2Proof.Laws
end

