-- ==== Sys2Proof/Laws/Net.lean ====
section
/-! SUPPORT. What the egress queues do: ports none of which can send leave the state alone, and a port whose queue exceeds its own and the shared
packet memory has room for no frame. -/
namespace Sys2Proof.Laws
open Sys2Proof Sys2Proof.Machine

/-- A port with no frame waiting, or whose next choice lies ahead, sends nothing. -/
theorem portRun_waits (s : State) (p n : Nat) (h : ∀ x ∈ s.egNext p, s.monoNow < x.2) : s.portRun p n = s := by
  cases n with
  | zero => rfl
  | succ n =>
    unfold State.portRun
    split
    · rfl
    · rename_i e t he
      have := h (e, t) (by simp [he])
      simp_all

theorem netRun_waits (s : State) (h : ∀ p < 4, ∀ x ∈ s.egNext p, s.monoNow < x.2) : s.netRun = s := by
  simp [State.netRun, portRun_waits s 0 _ (h 0 (by decide)), portRun_waits s 1 _ (h 1 (by decide)), portRun_waits s 2 _ (h 2 (by decide)),
    portRun_waits s 3 _ (h 3 (by decide))]

theorem egBytes_one (s : State) (p : Nat) (e : EgEnt) (h : s.egOf p = [e]) : e.frame.data.length ≤ s.egBytes p := by
  simp [State.egBytes, h, frameLength]; omega

/-- A sum over four ports in which one alone exceeds the bound. -/
theorem sum_above (f : Nat → Nat) (p k : Nat) (hp : p < 4) (h : k < f p) : ¬ ([0, 1, 2, 3].map f).sum ≤ k := by
  have hp : p = 0 ∨ p = 1 ∨ p = 2 ∨ p = 3 := by omega
  rcases hp with rfl | rfl | rfl | rfl <;> simp <;> omega

/-- One port above its own and the shared memory: both conditions of room fail. -/
theorem egRoom_full (s : State) (p n : Nat) (hp : p < 4) (h : portMemory + sharedMemory < s.egBytes p) : s.egRoom p n = false := by
  unfold State.egRoom
  rw [Bool.or_eq_false_iff]
  refine ⟨decide_eq_false ?_, decide_eq_false (sum_above _ p _ hp ?_)⟩ <;> simp only [if_true] <;> omega

end Sys2Proof.Laws
end

