-- ==== Sys2Proof/Laws/PerInstr.lean ====
section
/-! SUPPORT. The commands one by one: none of them is spelled by a word, since no row of spec/opcode_table.json gives bits. -/
namespace Sys2Proof.Laws

/-- No word of any length spells the command. -/
def CommandShape.Statement (i : Instr) : Prop := ∀ nbits w, decodeTableWord nbits w ≠ some i

/-- Where the decoder answers nothing, it answers no command. -/
theorem CommandShape.holds (i : Instr) : CommandShape.Statement i := fun _ _ h => nomatch h

theorem CommandShape.vinRise : CommandShape.Statement (.vinRise) := CommandShape.holds _
theorem CommandShape.underV : CommandShape.Statement (.underV) := CommandShape.holds _
theorem CommandShape.overV : CommandShape.Statement (.overV) := CommandShape.holds _
theorem CommandShape.overVRelease : CommandShape.Statement (.overVRelease) := CommandShape.holds _
theorem CommandShape.resetPin : CommandShape.Statement (.resetPin) := CommandShape.holds _
theorem CommandShape.resetPinRelease : CommandShape.Statement (.resetPinRelease) := CommandShape.holds _
theorem CommandShape.coldResetRelease : CommandShape.Statement (.coldResetRelease) := CommandShape.holds _
theorem CommandShape.clockLoss (d : Fin 11) : CommandShape.Statement (.clockLoss d) := CommandShape.holds _
theorem CommandShape.clockRestore (d : Fin 11) : CommandShape.Statement (.clockRestore d) := CommandShape.holds _
theorem CommandShape.pllUnlock (p : Fin 7) : CommandShape.Statement (.pllUnlock p) := CommandShape.holds _
theorem CommandShape.pllRelock (p : Fin 7) : CommandShape.Statement (.pllRelock p) := CommandShape.holds _
theorem CommandShape.thermal : CommandShape.Statement (.thermal) := CommandShape.holds _
theorem CommandShape.thermalRelease : CommandShape.Statement (.thermalRelease) := CommandShape.holds _
theorem CommandShape.pfwFall : CommandShape.Statement (.pfwFall) := CommandShape.holds _
theorem CommandShape.pfwRise : CommandShape.Statement (.pfwRise) := CommandShape.holds _
theorem CommandShape.tsensReading (deg : BitVec 16) : CommandShape.Statement (.tsensReading deg) := CommandShape.holds _
theorem CommandShape.ppsOutPulse : CommandShape.Statement (.ppsOutPulse) := CommandShape.holds _
theorem CommandShape.ppsIn : CommandShape.Statement (.ppsIn) := CommandShape.holds _
theorem CommandShape.debugAccess (acc : Access) : CommandShape.Statement (.debugAccess acc) := CommandShape.holds _
theorem CommandShape.coreMemoryLoad (core : Fin 5) (fetch : Bool) (addr : Nat) (width : Width) : CommandShape.Statement (.coreMemoryLoad core fetch addr width) := CommandShape.holds _
theorem CommandShape.coreMemoryStore (core : Fin 5) (addr : Nat) (width : Width) (data : Word64) : CommandShape.Statement (.coreMemoryStore core addr width data) := CommandShape.holds _
theorem CommandShape.eccBucketLeak (n : Fin 8) : CommandShape.Statement (.eccBucketLeak n) := CommandShape.holds _
theorem CommandShape.scrubWord (n : Fin 8) : CommandShape.Statement (.scrubWord n) := CommandShape.holds _
theorem CommandShape.scrubPassDone (n : Fin 8) : CommandShape.Statement (.scrubPassDone n) := CommandShape.holds _
theorem CommandShape.bucketCfgWrite (req : Req) (n : Fin 8) (value : Word) : CommandShape.Statement (.bucketCfgWrite req n value) := CommandShape.holds _
theorem CommandShape.registerWrite (req : Req) (page : Fin 39) (off : Nat) (value : Word) : CommandShape.Statement (.registerWrite req page off value) := CommandShape.holds _
theorem CommandShape.expertArm (req : Req) (page : Fin 39) (enable : Bool) : CommandShape.Statement (.expertArm req page enable) := CommandShape.holds _
theorem CommandShape.expertUnlock (req : Req) (page : Fin 39) (enable : Bool) : CommandShape.Statement (.expertUnlock req page enable) := CommandShape.holds _
theorem CommandShape.expertClear (req : Req) (page : Fin 39) (enable : Bool) : CommandShape.Statement (.expertClear req page enable) := CommandShape.holds _
theorem CommandShape.blockEnable (req : Req) (page : Fin 39) (expert : Bool) : CommandShape.Statement (.blockEnable req page expert) := CommandShape.holds _
theorem CommandShape.blockDisable (req : Req) (page : Fin 39) (expert : Bool) : CommandShape.Statement (.blockDisable req page expert) := CommandShape.holds _
theorem CommandShape.intClr (req : Req) (page : Fin 39) (value : Word) : CommandShape.Statement (.intClr req page value) := CommandShape.holds _
theorem CommandShape.blkOwnerWrite (req : Req) (page : Fin 39) (value : Word) : CommandShape.Statement (.blkOwnerWrite req page value) := CommandShape.holds _
theorem CommandShape.intcRouteWrite (req : Req) (source : Fin 256) (value : Word) : CommandShape.Statement (.intcRouteWrite req source value) := CommandShape.holds _
theorem CommandShape.intcClaim (req : Req) (target : Fin 5) : CommandShape.Statement (.intcClaim req target) := CommandShape.holds _
theorem CommandShape.intcComplete (req : Req) (target : Fin 5) (source : Fin 256) : CommandShape.Statement (.intcComplete req target source) := CommandShape.holds _
theorem CommandShape.intcSwiSet (req : Req) (value : Word) : CommandShape.Statement (.intcSwiSet req value) := CommandShape.holds _
theorem CommandShape.rstCmdWarm (req : Req) (delay : Byte) : CommandShape.Statement (.rstCmdWarm req delay) := CommandShape.holds _
theorem CommandShape.rstCmdCold (req : Req) (delay : Byte) : CommandShape.Statement (.rstCmdCold req delay) := CommandShape.holds _
theorem CommandShape.rstCmdCancel (req : Req) : CommandShape.Statement (.rstCmdCancel req) := CommandShape.holds _
theorem CommandShape.resetSaveStart : CommandShape.Statement (.resetSaveStart) := CommandShape.holds _
theorem CommandShape.resetSaveDone : CommandShape.Statement (.resetSaveDone) := CommandShape.holds _
theorem CommandShape.sramWipeDone : CommandShape.Statement (.sramWipeDone) := CommandShape.holds _
theorem CommandShape.lifecycleWipeDone : CommandShape.Statement (.lifecycleWipeDone) := CommandShape.holds _
theorem CommandShape.eccSelftest (n : Fin 8) (pass : Bool) : CommandShape.Statement (.eccSelftest n pass) := CommandShape.holds _
theorem CommandShape.bootVerifyDone (selectedOk : Bool) (otherOk : Bool) : CommandShape.Statement (.bootVerifyDone selectedOk otherOk) := CommandShape.holds _
theorem CommandShape.dramWipeDone : CommandShape.Statement (.dramWipeDone) := CommandShape.holds _
theorem CommandShape.nrgTotalsLoad : CommandShape.Statement (.nrgTotalsLoad) := CommandShape.holds _
theorem CommandShape.configAccept (img : Option ConfigImage) : CommandShape.Statement (.configAccept img) := CommandShape.holds _
theorem CommandShape.canIntegrationDone (ch : Fin 4) : CommandShape.Statement (.canIntegrationDone ch) := CommandShape.holds _
theorem CommandShape.canModeNormal (req : Req) (ch : Fin 4) : CommandShape.Statement (.canModeNormal req ch) := CommandShape.holds _
theorem CommandShape.canModeListen (req : Req) (ch : Fin 4) : CommandShape.Statement (.canModeListen req ch) := CommandShape.holds _
theorem CommandShape.canModeLoopback (req : Req) (ch : Fin 4) : CommandShape.Statement (.canModeLoopback req ch) := CommandShape.holds _
theorem CommandShape.canModeSleep (req : Req) (ch : Fin 4) : CommandShape.Statement (.canModeSleep req ch) := CommandShape.holds _
theorem CommandShape.canProtocolError (ch : Fin 4) (kind : CanErr) (inData : Bool) (tecInc : Nat) (recInc : Nat) : CommandShape.Statement (.canProtocolError ch kind inData tecInc recInc) := CommandShape.holds _
theorem CommandShape.canRecover (req : Req) (ch : Fin 4) : CommandShape.Statement (.canRecover req ch) := CommandShape.holds _
theorem CommandShape.canRecoveryDone (ch : Fin 4) : CommandShape.Statement (.canRecoveryDone ch) := CommandShape.holds _
theorem CommandShape.canWake (ch : Fin 4) (cause : CanWakeCause) : CommandShape.Statement (.canWake ch cause) := CommandShape.holds _
theorem CommandShape.canRxValid (ch : Fin 4) (frame : CanFrame) (sof : Word64) : CommandShape.Statement (.canRxValid ch frame sof) := CommandShape.holds _
theorem CommandShape.canRxWmTimeout (ch : Fin 4) : CommandShape.Statement (.canRxWmTimeout ch) := CommandShape.holds _
theorem CommandShape.canTxStart (ch : Fin 4) : CommandShape.Statement (.canTxStart ch) := CommandShape.holds _
theorem CommandShape.canTxSuccess (ch : Fin 4) (loopDelay : Nat) (measured : Nat) : CommandShape.Statement (.canTxSuccess ch loopDelay measured) := CommandShape.holds _
theorem CommandShape.canTxDropLate (ch : Fin 4) (queue : Fin 3) : CommandShape.Statement (.canTxDropLate ch queue) := CommandShape.holds _
theorem CommandShape.canPop (req : Req) (ch : Fin 4) : CommandShape.Statement (.canPop req ch) := CommandShape.holds _
theorem CommandShape.canAbortQ1 (req : Req) (ch : Fin 4) : CommandShape.Statement (.canAbortQ1 req ch) := CommandShape.holds _
theorem CommandShape.canAbortQ2 (req : Req) (ch : Fin 4) : CommandShape.Statement (.canAbortQ2 req ch) := CommandShape.holds _
theorem CommandShape.canRxRdFwWrite (req : Req) (ch : Fin 4) (index : BitVec 16) : CommandShape.Statement (.canRxRdFwWrite req ch index) := CommandShape.holds _
theorem CommandShape.canRxCfgWrite (req : Req) (ch : Fin 4) (fwConsumer : Bool) : CommandShape.Statement (.canRxCfgWrite req ch fwConsumer) := CommandShape.holds _
theorem CommandShape.canTxqWrWrite (req : Req) (ch : Fin 4) (second : Bool) (index : BitVec 16) : CommandShape.Statement (.canTxqWrWrite req ch second index) := CommandShape.holds _
theorem CommandShape.fnetSyncQueue : CommandShape.Statement (.fnetSyncQueue) := CommandShape.holds _
theorem CommandShape.fnetTimeQueue : CommandShape.Statement (.fnetTimeQueue) := CommandShape.holds _
theorem CommandShape.discOpen (ch : Fin 4) : CommandShape.Statement (.discOpen ch) := CommandShape.holds _
theorem CommandShape.announce (ch : Fin 4) : CommandShape.Statement (.announce ch) := CommandShape.holds _
theorem CommandShape.hello (ch : Fin 4) : CommandShape.Statement (.hello ch) := CommandShape.holds _
theorem CommandShape.helloTimeout (ch : Fin 4) (addr : Nat) : CommandShape.Statement (.helloTimeout ch addr) := CommandShape.holds _
theorem CommandShape.cfgAck (ch : Fin 4) : CommandShape.Statement (.cfgAck ch) := CommandShape.holds _
theorem CommandShape.cfgTimeout (ch : Fin 4) (addr : Nat) : CommandShape.Statement (.cfgTimeout ch addr) := CommandShape.holds _
theorem CommandShape.initReport (ch : Fin 4) : CommandShape.Statement (.initReport ch) := CommandShape.holds _
theorem CommandShape.start : CommandShape.Statement (.start) := CommandShape.holds _
theorem CommandShape.outSetTimeout (ch : Fin 4) (addr : Nat) : CommandShape.Statement (.outSetTimeout ch addr) := CommandShape.holds _
theorem CommandShape.stationPresent : CommandShape.Statement (.stationPresent) := CommandShape.holds _
theorem CommandShape.mfpInputFrame (ch : Fin 4) : CommandShape.Statement (.mfpInputFrame ch) := CommandShape.holds _
theorem CommandShape.mfpCosFrame (ch : Fin 4) : CommandShape.Statement (.mfpCosFrame ch) := CommandShape.holds _
theorem CommandShape.mfpAlarmFrame (ch : Fin 4) : CommandShape.Statement (.mfpAlarmFrame ch) := CommandShape.holds _
theorem CommandShape.iosOutputBuild (ch : Fin 4) (frame : Nat) : CommandShape.Statement (.iosOutputBuild ch frame) := CommandShape.holds _
theorem CommandShape.iosQ0Enqueue (ch : Fin 4) : CommandShape.Statement (.iosQ0Enqueue ch) := CommandShape.holds _
theorem CommandShape.stationMissedCycle : CommandShape.Statement (.stationMissedCycle) := CommandShape.holds _
theorem CommandShape.startTmo : CommandShape.Statement (.startTmo) := CommandShape.holds _
theorem CommandShape.iosEvtRead (req : Req) : CommandShape.Statement (.iosEvtRead req) := CommandShape.holds _
theorem CommandShape.fwDataSend (ch : Fin 4) : CommandShape.Statement (.fwDataSend ch) := CommandShape.holds _
theorem CommandShape.fwAck (ch : Fin 4) : CommandShape.Statement (.fwAck ch) := CommandShape.holds _
theorem CommandShape.fwStat (ch : Fin 4) : CommandShape.Statement (.fwStat ch) := CommandShape.holds _
theorem CommandShape.taskRelease (t : Fin 16) : CommandShape.Statement (.taskRelease t) := CommandShape.holds _
theorem CommandShape.taskTrigger : CommandShape.Statement (.taskTrigger) := CommandShape.holds _
theorem CommandShape.taskLatchDone (t : Fin 48) : CommandShape.Statement (.taskLatchDone t) := CommandShape.holds _
theorem CommandShape.dispatch (req : Req) (c : Fin 2) : CommandShape.Statement (.dispatch req c) := CommandShape.holds _
theorem CommandShape.commit (req : Req) (c : Fin 2) (t : BitVec 6) : CommandShape.Statement (.commit req c t) := CommandShape.holds _
theorem CommandShape.taskPublish (t : Fin 48) : CommandShape.Statement (.taskPublish t) := CommandShape.holds _
theorem CommandShape.taskBudgetExpire (t : Fin 48) : CommandShape.Statement (.taskBudgetExpire t) := CommandShape.holds _
theorem CommandShape.swTrig (req : Req) (value : Word) : CommandShape.Statement (.swTrig req value) := CommandShape.holds _
theorem CommandShape.taskEnable (req : Req) (t : Fin 48) : CommandShape.Statement (.taskEnable req t) := CommandShape.holds _
theorem CommandShape.taskDisable (req : Req) (t : Fin 48) : CommandShape.Statement (.taskDisable req t) := CommandShape.holds _
theorem CommandShape.imageKeeperVisit (pid : Nat) : CommandShape.Statement (.imageKeeperVisit pid) := CommandShape.holds _
theorem CommandShape.ochgArm (core : Fin 4) (sigOk : Bool) (digestOk : Bool) (partnerOk : Bool) : CommandShape.Statement (.ochgArm core sigOk digestOk partnerOk) := CommandShape.holds _
theorem CommandShape.ochgCancel (core : Fin 4) : CommandShape.Statement (.ochgCancel core) := CommandShape.holds _
theorem CommandShape.ochgTimeout : CommandShape.Statement (.ochgTimeout) := CommandShape.holds _
theorem CommandShape.quiescentGap : CommandShape.Statement (.quiescentGap) := CommandShape.holds _
theorem CommandShape.carryOverDone : CommandShape.Statement (.carryOverDone) := CommandShape.holds _
theorem CommandShape.ochgSwitchDone : CommandShape.Statement (.ochgSwitchDone) := CommandShape.holds _
theorem CommandShape.ochgRecordDone : CommandShape.Statement (.ochgRecordDone) := CommandShape.holds _
theorem CommandShape.forceStore (req : Req) (entry : Fin 512) (word : Word64) : CommandShape.Statement (.forceStore req entry word) := CommandShape.holds _
theorem CommandShape.cairnRecordSubmit (r : CairnRec) : CommandShape.Statement (.cairnRecordSubmit r) := CommandShape.holds _
theorem CommandShape.cairnRecordStore : CommandShape.Statement (.cairnRecordStore) := CommandShape.holds _
theorem CommandShape.cairnLoss : CommandShape.Statement (.cairnLoss) := CommandShape.holds _
theorem CommandShape.cairnIndexReady : CommandShape.Statement (.cairnIndexReady) := CommandShape.holds _
theorem CommandShape.clear (req : Req) : CommandShape.Statement (.clear req) := CommandShape.holds _
theorem CommandShape.testEnter (req : Req) : CommandShape.Statement (.testEnter req) := CommandShape.holds _
theorem CommandShape.testLeave (req : Req) : CommandShape.Statement (.testLeave req) := CommandShape.holds _
theorem CommandShape.first (k : Fin 5) : CommandShape.Statement (.first k) := CommandShape.holds _
theorem CommandShape.next (k : Fin 5) : CommandShape.Statement (.next k) := CommandShape.holds _
theorem CommandShape.last (k : Fin 5) : CommandShape.Statement (.last k) := CommandShape.holds _
theorem CommandShape.submit (k : Fin 5) : CommandShape.Statement (.submit k) := CommandShape.holds _
theorem CommandShape.cairnSearchDone (k : Fin 5) : CommandShape.Statement (.cairnSearchDone k) := CommandShape.holds _
theorem CommandShape.pointSummary : CommandShape.Statement (.pointSummary) := CommandShape.holds _
theorem CommandShape.loopSample (slot : Fin 512) : CommandShape.Statement (.loopSample slot) := CommandShape.holds _
theorem CommandShape.loopFixedEvaluation (lane : Fin 4) : CommandShape.Statement (.loopFixedEvaluation lane) := CommandShape.holds _
theorem CommandShape.loopFixedOutput (slot : Fin 16) : CommandShape.Statement (.loopFixedOutput slot) := CommandShape.holds _
theorem CommandShape.loopEvaluation (lane : Fin 4) : CommandShape.Statement (.loopEvaluation lane) := CommandShape.holds _
theorem CommandShape.loopDeadlineMiss (slot : Fin 512) : CommandShape.Statement (.loopDeadlineMiss slot) := CommandShape.holds _
theorem CommandShape.loopSlotEnable (req : Req) (slot : Fin 512) : CommandShape.Statement (.loopSlotEnable req slot) := CommandShape.holds _
theorem CommandShape.loopSlotDisable (req : Req) (slot : Fin 512) : CommandShape.Statement (.loopSlotDisable req slot) := CommandShape.holds _
theorem CommandShape.loopLaneFault (lane : Fin 4) (selfCheck : Bool) : CommandShape.Statement (.loopLaneFault lane selfCheck) := CommandShape.holds _
theorem CommandShape.statClrSlot (req : Req) (slot : Fin 512) : CommandShape.Statement (.statClrSlot req slot) := CommandShape.holds _
theorem CommandShape.statClrAll (req : Req) : CommandShape.Statement (.statClrAll req) := CommandShape.holds _
theorem CommandShape.lioAinHold (volts : List Int) (levels : BitVec 16) : CommandShape.Statement (.lioAinHold volts levels) := CommandShape.holds _
theorem CommandShape.lioAinResult : CommandShape.Statement (.lioAinResult) := CommandShape.holds _
theorem CommandShape.lioAoutShort (n : Fin 4) : CommandShape.Statement (.lioAoutShort n) := CommandShape.holds _
theorem CommandShape.injStart (req : Req) (n : Fin 4) : CommandShape.Statement (.injStart req n) := CommandShape.holds _
theorem CommandShape.injStop (req : Req) (n : Fin 4) : CommandShape.Statement (.injStop req n) := CommandShape.holds _
theorem CommandShape.capArm (req : Req) (j : Fin 4) : CommandShape.Statement (.capArm req j) := CommandShape.holds _
theorem CommandShape.capStop (req : Req) (j : Fin 4) : CommandShape.Statement (.capStop req j) := CommandShape.holds _
theorem CommandShape.modFault (c : Fin 24) : CommandShape.Statement (.modFault c) := CommandShape.holds _
theorem CommandShape.modFaultClear (c : Fin 24) : CommandShape.Statement (.modFaultClear c) := CommandShape.holds _
theorem CommandShape.mtrTempUpdate : CommandShape.Statement (.mtrTempUpdate) := CommandShape.holds _
theorem CommandShape.calLoad (req : Req) : CommandShape.Statement (.calLoad req) := CommandShape.holds _
theorem CommandShape.calCommit (req : Req) : CommandShape.Statement (.calCommit req) := CommandShape.holds _
theorem CommandShape.circEnable (req : Req) (m : Fin 18) : CommandShape.Statement (.circEnable req m) := CommandShape.holds _
theorem CommandShape.circDisable (req : Req) (m : Fin 18) : CommandShape.Statement (.circDisable req m) := CommandShape.holds _
theorem CommandShape.zeroCrossing (ch : Fin 6) (inp : ChanIn) : CommandShape.Statement (.zeroCrossing ch inp) := CommandShape.holds _
theorem CommandShape.zcLost (ch : Fin 6) : CommandShape.Statement (.zcLost ch) := CommandShape.holds _
theorem CommandShape.timedWindow (m : Fin 18) : CommandShape.Statement (.timedWindow m) := CommandShape.holds _
theorem CommandShape.cycleRecord (m : Fin 18) (cyc : CycleIn) : CommandShape.Statement (.cycleRecord m cyc) := CommandShape.holds _
theorem CommandShape.window (m : Fin 18) (delay : Nat) : CommandShape.Statement (.window m delay) := CommandShape.holds _
theorem CommandShape.nrgRecordAdd : CommandShape.Statement (.nrgRecordAdd) := CommandShape.holds _
theorem CommandShape.intervalClose (m : Fin 18) : CommandShape.Statement (.intervalClose m) := CommandShape.holds _
theorem CommandShape.nrgSavePeriodic : CommandShape.Statement (.nrgSavePeriodic) := CommandShape.holds _
theorem CommandShape.nrgSaveDone (writeFailed : Bool) : CommandShape.Statement (.nrgSaveDone writeFailed) := CommandShape.holds _
theorem CommandShape.nrgUnitWrite (req : Req) (m : Fin 18) (unit : BitVec 3) : CommandShape.Statement (.nrgUnitWrite req m unit) := CommandShape.holds _
theorem CommandShape.nrgTotRead (req : Req) : CommandShape.Statement (.nrgTotRead req) := CommandShape.holds _
theorem CommandShape.nrgTallyRead (req : Req) : CommandShape.Statement (.nrgTallyRead req) := CommandShape.holds _
theorem CommandShape.exportCreate (req : Req) : CommandShape.Statement (.exportCreate req) := CommandShape.holds _
theorem CommandShape.exportDone : CommandShape.Statement (.exportDone) := CommandShape.holds _
theorem CommandShape.rtcSecond : CommandShape.Statement (.rtcSecond) := CommandShape.holds _
theorem CommandShape.rtcSecRead (req : Req) : CommandShape.Statement (.rtcSecRead req) := CommandShape.holds _
theorem CommandShape.rtcYearHiRead (req : Req) : CommandShape.Statement (.rtcYearHiRead req) := CommandShape.holds _
theorem CommandShape.rtcFreezeTimeout : CommandShape.Statement (.rtcFreezeTimeout) := CommandShape.holds _
theorem CommandShape.load (req : Req) : CommandShape.Statement (.load req) := CommandShape.holds _
theorem CommandShape.loadSec (req : Req) : CommandShape.Statement (.loadSec req) := CommandShape.holds _
theorem CommandShape.rtcLoadApply : CommandShape.Statement (.rtcLoadApply) := CommandShape.holds _
theorem CommandShape.rtcTimeLost : CommandShape.Statement (.rtcTimeLost) := CommandShape.holds _
theorem CommandShape.cdStart (req : Req) : CommandShape.Statement (.cdStart req) := CommandShape.holds _
theorem CommandShape.cdStop (req : Req) : CommandShape.Statement (.cdStop req) := CommandShape.holds _
theorem CommandShape.cdExpire : CommandShape.Statement (.cdExpire) := CommandShape.holds _
theorem CommandShape.ptpSampleCommit (req : Req) (d : Fin 2) (hi : Word) : CommandShape.Statement (.ptpSampleCommit req d hi) := CommandShape.holds _
theorem CommandShape.domainEnable (req : Req) (d : Fin 2) : CommandShape.Statement (.domainEnable req d) := CommandShape.holds _
theorem CommandShape.domainDisable (req : Req) (d : Fin 2) : CommandShape.Statement (.domainDisable req d) := CommandShape.holds _
theorem CommandShape.holdover (d : Fin 2) : CommandShape.Statement (.holdover d) := CommandShape.holds _
theorem CommandShape.ptpSelect (req : Req) (sel : BitVec 2) : CommandShape.Statement (.ptpSelect req sel) := CommandShape.holds _
theorem CommandShape.slewDone : CommandShape.Statement (.slewDone) := CommandShape.holds _
theorem CommandShape.stepCmd (req : Req) (hi : Word) : CommandShape.Statement (.stepCmd req hi) := CommandShape.holds _
theorem CommandShape.timeStep : CommandShape.Statement (.timeStep) := CommandShape.holds _
theorem CommandShape.scheduleFire (entry : Fin 256) : CommandShape.Statement (.scheduleFire entry) := CommandShape.holds _
theorem CommandShape.scheduleEntryStore (req : Req) (entry : Fin 256) (word : Fin 4) (data : Word64) : CommandShape.Statement (.scheduleEntryStore req entry word data) := CommandShape.holds _
theorem CommandShape.aoutShortEnd (n : Fin 4) : CommandShape.Statement (.aoutShortEnd n) := CommandShape.holds _
theorem CommandShape.ethFrameRx (port : Fin 4) (frame : EthFrame) (transit : Nat) : CommandShape.Statement (.ethFrameRx port frame transit) := CommandShape.holds _
theorem CommandShape.ethLinkChange (port : Fin 4) (up : Bool) : CommandShape.Statement (.ethLinkChange port up) := CommandShape.holds _
theorem CommandShape.sfpChg (cage : Fin 2) (present : Bool) (los : Bool) (txFault : Bool) : CommandShape.Statement (.sfpChg cage present los txFault) := CommandShape.holds _
theorem CommandShape.fdbAgeOut : CommandShape.Statement (.fdbAgeOut) := CommandShape.holds _
theorem CommandShape.fdbFlushAll (req : Req) : CommandShape.Statement (.fdbFlushAll req) := CommandShape.holds _
theorem CommandShape.fdbFlushPorts (req : Req) (ports : BitVec 5) : CommandShape.Statement (.fdbFlushPorts req ports) := CommandShape.holds _
theorem CommandShape.mac4TxWrWrite (req : Req) (index : BitVec 17) : CommandShape.Statement (.mac4TxWrWrite req index) := CommandShape.holds _
theorem CommandShape.mac4TxDescriptor : CommandShape.Statement (.mac4TxDescriptor) := CommandShape.holds _
theorem CommandShape.mac4RxRdWrite (req : Req) (index : BitVec 17) : CommandShape.Statement (.mac4RxRdWrite req index) := CommandShape.holds _
theorem CommandShape.ethLaunch (port : Fin 4) (jitter : Nat) : CommandShape.Statement (.ethLaunch port jitter) := CommandShape.holds _
theorem CommandShape.ethDropLate (port : Fin 4) : CommandShape.Statement (.ethDropLate port) := CommandShape.holds _
theorem CommandShape.commandExchangeStore (req : Req) (slot : Fin 8192) (word : Word64) : CommandShape.Statement (.commandExchangeStore req slot word) := CommandShape.holds _
theorem CommandShape.accessRequest (r : AccessRequest) : CommandShape.Statement (.accessRequest r) := CommandShape.holds _
theorem CommandShape.historianSample (pid : Fin 12288) : CommandShape.Statement (.historianSample pid) := CommandShape.holds _
theorem CommandShape.hsrUniq : CommandShape.Statement (.hsrUniq) := CommandShape.holds _
theorem CommandShape.hs (core : Fin 4) (src : Word64) (len : Word) (out : Word) (reply : List Byte) (live : Option HsLive) : CommandShape.Statement (.hs core src len out reply live) := CommandShape.holds _
theorem CommandShape.enter (core : Fin 4) (handle : Word) : CommandShape.Statement (.enter core handle) := CommandShape.holds _
theorem CommandShape.leave (core : Fin 4) : CommandShape.Statement (.leave core) := CommandShape.holds _
theorem CommandShape.cmptSwitch (core : Fin 2) (value : Word) : CommandShape.Statement (.cmptSwitch core value) := CommandShape.holds _
theorem CommandShape.openRecord (core : Fin 4) (src : Word64) (len : Word) (dst : Word) (out : RecordOut) : CommandShape.Statement (.openRecord core src len dst out) := CommandShape.holds _
theorem CommandShape.seal (core : Fin 4) (src : Word64) (len : Word) (dst : Word) (out : RecordOut) : CommandShape.Statement (.seal core src len dst out) := CommandShape.holds _
theorem CommandShape.close (core : Fin 4) (handle : Word) : CommandShape.Statement (.close core handle) := CommandShape.holds _
theorem CommandShape.sessionIdleTimeout (handle : BitVec 16) : CommandShape.Statement (.sessionIdleTimeout handle) := CommandShape.holds _
theorem CommandShape.scratchWipeDone (n : Fin 64) : CommandShape.Statement (.scratchWipeDone n) := CommandShape.holds _
theorem CommandShape.identityMessage (m : IdMsg) : CommandShape.Statement (.identityMessage m) := CommandShape.holds _
theorem CommandShape.roleDecide : CommandShape.Statement (.roleDecide) := CommandShape.holds _
theorem CommandShape.coldTake : CommandShape.Statement (.coldTake) := CommandShape.holds _
theorem CommandShape.laneDown (lane : Fin 2) (lockLost : Bool) (badFrames : Nat) : CommandShape.Statement (.laneDown lane lockLost badFrames) := CommandShape.holds _
theorem CommandShape.laneUp (lane : Fin 2) : CommandShape.Statement (.laneUp lane) := CommandShape.holds _
theorem CommandShape.heartbeatSend : CommandShape.Statement (.heartbeatSend) := CommandShape.holds _
theorem CommandShape.heartbeatRx (mt : Word64) (mono : Word64) (lastRx : Option Word64) (timeInvalid : Bool) : CommandShape.Statement (.heartbeatRx mt mono lastRx timeInvalid) := CommandShape.holds _
theorem CommandShape.heartbeatMiss : CommandShape.Statement (.heartbeatMiss) := CommandShape.holds _
theorem CommandShape.down : CommandShape.Statement (.down) := CommandShape.holds _
theorem CommandShape.linkLossDecide : CommandShape.Statement (.linkLossDecide) := CommandShape.holds _
theorem CommandShape.bgUnit : CommandShape.Statement (.bgUnit) := CommandShape.holds _
theorem CommandShape.copyUnitApply (unit : CopyUnit) (arrived : Bool) : CommandShape.Statement (.copyUnitApply unit arrived) := CommandShape.holds _
theorem CommandShape.synced : CommandShape.Statement (.synced) := CommandShape.holds _
theorem CommandShape.swap (req : Req) : CommandShape.Statement (.swap req) := CommandShape.holds _
theorem CommandShape.cancel (req : Req) : CommandShape.Statement (.cancel req) := CommandShape.holds _
theorem CommandShape.relinquish (req : Req) : CommandShape.Statement (.relinquish req) := CommandShape.holds _
theorem CommandShape.swapDue : CommandShape.Statement (.swapDue) := CommandShape.holds _
theorem CommandShape.swapRefused : CommandShape.Statement (.swapRefused) := CommandShape.holds _
theorem CommandShape.promote : CommandShape.Statement (.promote) := CommandShape.holds _
theorem CommandShape.alive (req : Req) : CommandShape.Statement (.alive req) := CommandShape.holds _
theorem CommandShape.aliveTimeout : CommandShape.Statement (.aliveTimeout) := CommandShape.holds _
theorem CommandShape.ckptSave : CommandShape.Statement (.ckptSave) := CommandShape.holds _
theorem CommandShape.ckptDone : CommandShape.Statement (.ckptDone) := CommandShape.holds _
theorem CommandShape.symbolLock (lane : Fin 2) : CommandShape.Statement (.symbolLock lane) := CommandShape.holds _
theorem CommandShape.identityMessageSend : CommandShape.Statement (.identityMessageSend) := CommandShape.holds _
theorem CommandShape.partnerImageLoaded (img : Option ConfigImage) (program : Option (List (Nat × Byte))) : CommandShape.Statement (.partnerImageLoaded img program) := CommandShape.holds _
theorem CommandShape.challenge (core : Fin 4) : CommandShape.Statement (.challenge core) := CommandShape.holds _
theorem CommandShape.challengeExpire : CommandShape.Statement (.challengeExpire) := CommandShape.holds _
theorem CommandShape.lcCmd (core : Fin 4) (src : Word64) (len : Word) (sigOk : Bool) : CommandShape.Statement (.lcCmd core src len sigOk) := CommandShape.holds _
theorem CommandShape.deviceKey (core : Fin 4) (dst : Word64) : CommandShape.Statement (.deviceKey core dst) := CommandShape.holds _
theorem CommandShape.sleep (core : Fin 4) : CommandShape.Statement (.sleep core) := CommandShape.holds _
theorem CommandShape.utcStore (core : Fin 4) (offset : Word) : CommandShape.Statement (.utcStore core offset) := CommandShape.holds _
theorem CommandShape.updBegin (core : Fin 4) (len : Word) : CommandShape.Statement (.updBegin core len) := CommandShape.holds _
theorem CommandShape.updSubmit (req : Req) (slot : Fin 8) : CommandShape.Statement (.updSubmit req slot) := CommandShape.holds _
theorem CommandShape.updBlockDone (slot : Fin 8) (link : Option LinkBlock) (writeOk : Bool) : CommandShape.Statement (.updBlockDone slot link writeOk) := CommandShape.holds _
theorem CommandShape.updVerify (core : Fin 4) : CommandShape.Statement (.updVerify core) := CommandShape.holds _
theorem CommandShape.updVerifyDone (sigOk : Bool) (out : VerifyOut) : CommandShape.Statement (.updVerifyDone sigOk out) := CommandShape.holds _
theorem CommandShape.updPartnerReport (build : BitVec 64) (reason : BitVec 4) : CommandShape.Statement (.updPartnerReport build reason) := CommandShape.holds _
theorem CommandShape.updReady : CommandShape.Statement (.updReady) := CommandShape.holds _
theorem CommandShape.updActivate (core : Fin 4) : CommandShape.Statement (.updActivate core) := CommandShape.holds _
theorem CommandShape.updGapTimeout : CommandShape.Statement (.updGapTimeout) := CommandShape.holds _
theorem CommandShape.updAnchorReentry : CommandShape.Statement (.updAnchorReentry) := CommandShape.holds _
theorem CommandShape.updServiceLoadDone : CommandShape.Statement (.updServiceLoadDone) := CommandShape.holds _
theorem CommandShape.updBootRecordWritten : CommandShape.Statement (.updBootRecordWritten) := CommandShape.holds _
theorem CommandShape.holdEnd : CommandShape.Statement (.holdEnd) := CommandShape.holds _
theorem CommandShape.updAbort (core : Fin 4) : CommandShape.Statement (.updAbort core) := CommandShape.holds _
theorem CommandShape.updConfirm (core : Fin 4) : CommandShape.Statement (.updConfirm core) := CommandShape.holds _
theorem CommandShape.updAutoConfirm : CommandShape.Statement (.updAutoConfirm) := CommandShape.holds _
theorem CommandShape.recoveryConsoleFrame (bytes : List Byte) (sigOk : Bool) (digestsOk : Bool) : CommandShape.Statement (.recoveryConsoleFrame bytes sigOk digestsOk) := CommandShape.holds _
theorem CommandShape.alwaysOnSupplySwitch : CommandShape.Statement (.alwaysOnSupplySwitch) := CommandShape.holds _

end Sys2Proof.Laws
end

