-- ==== Sys2Proof/Tests/Slice0.lean ====
section
/-! SUPPORT. Tests: terms that the well-formedness checks refuse, worked examples of the spec computed by hand there, and for every statement with
hypotheses a state and operands that meet them, clause by clause. -/
namespace Sys2Proof.Tests
open Sys2Proof Sys2Proof.Machine
set_option Elab.async false

/-! ### Ill-formed commands, one for each check -/

def frame8 : CanFrame := { id := 5, ide := false, rtr := false, dlc := 1, fdf := false, brs := false, esi := false, data := [7] }

theorem test_wellformed_frame : (Instr.canRxValid 0 frame8 0).wellFormed = true := by decide
theorem test_refuses_frames :
    [{ frame8 with dlc := 16 }, { frame8 with id := 2048 }, { frame8 with rtr := true, fdf := true, data := [] }, { frame8 with brs := true },
      { frame8 with data := [] }].all (fun f => !(Instr.canRxValid 0 f 0).wellFormed) = true := by decide
theorem test_refuses_addresses :
    [Instr.helloTimeout 0 0, .cfgTimeout 0 65, .outSetTimeout 3 65, .imageKeeperVisit 12288, .coreMemoryLoad 0 false (2 ^ 64) .b8,
      .coreMemoryStore 0 (2 ^ 64) .b8 0, .debugAccess (.load (2 ^ 64) .b4), .debugAccess (.store (2 ^ 64) .b4 0),
      .canWake 0 (.frame false 0 16 0)].all (fun c => !c.wellFormed) = true := by decide
theorem test_refuses_lengths :
    [Instr.cairnRecordSubmit { cls := 1, sev := 0, comp := 0, time := 0, payload := List.replicate 241 0 }, .lioAinHold [0] 0,
      .cycleRecord 0 { chans := List.replicate 4 (⟨[], 0, []⟩, ⟨[], 0, []⟩) },
      .cycleRecord 0 { chans := [(⟨[], 0, []⟩, ⟨[], 0, [7]⟩)] }, .zeroCrossing 0 ⟨[], 0, [7]⟩, .window 0 2000001, .ethLaunch 2 101, .ethFrameRx 2 ⟨5, 6, none, none, 5, [], true⟩ 4001,
      .ethFrameRx 2 ⟨5, 6, none, none, 5, List.replicate 1501 0, true⟩ 0].all (fun c => !c.wellFormed) = true := by
  decide +kernel

/-! ### Worked examples of the spec -/

/-- R355's example: the block of channel 9. -/
def block9 : List Byte :=
  natLe 4 4200000 ++ natLe 4 3000 ++ natLe 4 1 ++ [3, 0, 0, 0] ++ natLe 2 (65536 - 160) ++ natLe 3 7046 ++ natLe 3 655 ++ natLe 2 400 ++ natLe 3 0
    ++ natLe 3 0 ++ natLe 2 960 ++ natLe 3 (2 ^ 24 - 8556) ++ natLe 3 (2 ^ 24 - 1048)

theorem test_calibration_example :
    calCorr block9 664 = (-4034, -494) ∧ calOf block9 (calCorr block9 664) = (4198990, 2506) ∧ rnd (5000000 * 4198990) 22 = 5005586 := by decide +kernel

/-- The evaluation of "one fixed-phase evaluation" (09), from UPREV `y`. -/
def slot5 (y : Int) : LawOut :=
  ({ cfg := 1, ctl := 0, src2 := 0, spi := packI 12000 0, lim := packI 0 65535, rdb := packI 500 0, bag := 0
     c := [packI 5 2, packI 1311 0, packI 3200 4, packI 13107 14, packI 1 0, 0, 0, 0]
     iacc := 1310720000, dst := -2560, edp := -11480, uprev := y, yst := 0, xprev := 0 } : Blk).eval
    { pv := 11500, sp := 12000, ff := 0, lo := 0, hi := 65535, forced := none, innerHi := false, innerLo := false }

theorem test_fixed_phase_example :
    (slot5 20400).v = 20611 ∧ (slot5 20400).u = 20611 ∧ (slot5 20400).iacc = 1311375500 ∧ (slot5 20400).dst = -6048 := by decide +kernel
theorem test_fixed_phase_rate_limited :
    (slot5 19800).u = 20300 ∧ (slot5 19800).iacc = 1310720000 ∧ (slot5 19800).rateLim = true := by decide +kernel

/-- The table of R407's example: SEC, MIN, HOUR, DAY, MON, YEAR_LO, YEAR_HI as staged. -/
theorem test_staged_dates :
    [[0, 0, 8, 0x29, 2, 0, 0x21], [0, 0, 8, 0x29, 2, 0, 0x20], [0x59, 0x59, 0x23, 0x28, 2, 0, 0x21], [0, 0, 0, 1, 0x13, 0x24, 0x20],
      [0, 0, 0, 0x1A, 6, 0x24, 0x20]].map stagedOk = [false, true, true, false, false] := by decide +kernel
theorem test_century_rolls :
    (calendarOf [0x59, 0x59, 0x23, 0x28, 2, 0, 0x21]).next = (⟨2100, 3, 1, 0, 0, 0⟩, false) ∧ weekday 2100 3 1 = 1 ∧ weekday 2000 2 29 = 2 := by
  decide +kernel

/-- The load of CAN1 in R182's example: 1 Mbit/s and 8 Mbit/s. -/
def frames1 : List (Nat × Nat) :=
  [(8, 1), (16, 1), (16, 1), (24, 1)] ++ List.replicate 40 (48, 50) ++ List.replicate 2 (12, 50) ++ List.replicate 3 (64, 50)
    ++ List.replicate 40 (20, 500)
theorem test_channel_load : loadOf 0xD frames1 (List.replicate 20 50) = 6869 := by decide +kernel

/-- "One receive interrupt on AC2" (03): the address of ROUTE83, and CLAIM2. -/
theorem test_route_address : R.INTC_ROUTE 83 = 0x324C := by decide
theorem test_claim_example :
    (match exec (.intcClaim .ac2 2)
        (((State.reset.wr (R.INTC_ROUTE 83) 0x53).fput (F.HDR_ENABLE 18) 1).wr (R.INT_EN 18) 8 |>.wr (R.INT_RAW 18) 8) with
      | .next t => t.resp
      | _ => .none) = .data 0x80000053 := by decide +kernel

/-- The check value of CRC-32C (log entry 14). -/
theorem test_crc32c : crc32c [0x31, 0x32, 0x33, 0x34, 0x35, 0x36, 0x37, 0x38, 0x39] = 0xE3069283 := by decide +kernel

/-- No row of the table has bits. -/
theorem test_no_words (n w : Nat) : decodeTableWord n w = none := rfl

/-! ### Hypotheses that are met -/

theorem test_meets_ColdResetsEnter :
    (∃ (s : State), s.live = true ∧ s.sup.vin ≠ .low) ∧
    (∃ (s : State), s.live = true ∧ s.sup.vin = .inRange) ∧
    (∃ (s : State), s.live = true ∧ s.pins.resetAsserted = false) ∧
    (∃ (s : State), s.live = true ∧ s.sup.holds.thermal = false) ∧
    (∃ (d : Fin 11) (s : State), s.live = true ∧ d.val < 4 ∧ s.clkFails d = false ∧ s.monitored d = true) ∧
    (∃ (p : PendReset) (s : State), s.awake = true ∧ s.boot.pend = some p ∧ p.saving = true ∧ p.warm = false) :=
  ⟨⟨State.reset, by decide +kernel⟩,
   ⟨State.reset, by decide +kernel⟩,
   ⟨State.reset, by decide +kernel⟩,
   ⟨State.reset, by decide +kernel⟩,
   ⟨3, State.reset, by decide +kernel⟩,
   ⟨⟨false, false, 0, true⟩, { State.reset with boot := { pend := some ⟨false, false, 0, true⟩ } }, by decide +kernel⟩⟩

theorem test_meets_ColdResetHeldOnce :
    (∃ (s : State), s.live = false ∧ s.sup.vin = .inRange) ∧
    (∃ (s : State), s.live = false ∧ s.sup.vin ≠ .low) ∧
    (∃ (s : State), s.live = false ∧ s.pins.resetAsserted = false) ∧
    (∃ (s : State), s.live = false ∧ s.sup.holds.thermal = false) :=
  ⟨⟨{ State.reset with sup := { inReset := true } }, by decide +kernel⟩,
   ⟨{ State.reset with sup := { inReset := true } }, by decide +kernel⟩,
   ⟨{ State.reset with sup := { inReset := true } }, by decide +kernel⟩,
   ⟨{ State.reset with sup := { inReset := true } }, by decide +kernel⟩⟩

theorem test_meets_PowerOnAndRelease :
    (∃ (s : State), s.live = false ∧ s.sup.vin = .low) ∧
    (∃ (s : State), s.sup.vin = .high) ∧
    (∃ (d : Fin 11) (s : State), s.live = false ∧ s.clkFails d = true ∧ d.val ≠ 10) ∧
    (∃ (s : State), s.releasable = true ∧ s.sup.lostClk = Vector.replicate 11 false) ∧
    (∃ (s : State), s.releasable = true) ∧
    (∃ (d : Nat) (l : List Nat) (s : State), s.causesClear = true ∧ s.step3Fails = d :: l) ∧
    (∃ (s : State), s.sup.vin = .low) :=
  ⟨⟨{ State.reset with sup := { vin := .low, inReset := true, holds := { vinLow := true } } }, by decide +kernel⟩,
   ⟨{ State.reset with sup := { vin := .high, inReset := true, holds := { overV := true } } }, by decide +kernel⟩,
   ⟨0, { State.reset with sup := { inReset := true, lostClk := (Vector.replicate 11 false).set 0 true } }, by decide +kernel⟩,
   ⟨{ State.reset with sup := { inReset := true } }, by decide +kernel⟩,
   ⟨{ State.reset with sup := { inReset := true, lostClk := (Vector.replicate 11 false).set 5 true } }, by decide +kernel⟩,
   ⟨4, [], { State.reset with sup := { inReset := true, lostClk := (Vector.replicate 11 false).set 4 true } }, by decide +kernel⟩,
   ⟨{ State.reset with sup := { vin := .low } }, by decide +kernel⟩⟩

theorem test_meets_ClocksAndSensors :
    (∃ (d : Fin 11) (s : State), s.live = true ∧ 4 ≤ d.val ∧ s.clkFails d = false ∧ s.monitored d = true) ∧
    (∃ (d : Fin 11) (s : State), s.live = true ∧ (d.val = 4 ∨ d.val = 9) ∧ s.clkFails d = false ∧ s.monitored d = true) ∧
    (∃ (d : Fin 11) (s : State), s.live = true ∧ 4 ≤ d.val ∧ s.clkFails d = true ∧ s.bit R.CLK_LOST d = true) ∧
    (∃ (s : State), s.live = true) ∧
    (∃ (s : State), s.live = true) ∧
    (∃ (s : State), s.live = true ∧ s.pins.pfwAsserted = false ∧ (s.started = false ∨ s.sup.asleep = true)) ∧
    (∃ (s : State), s.live = true ∧ s.pins.pfwAsserted = false ∧ s.started = true ∧ s.sup.asleep = false) ∧
    (∃ (s : State), s.live = true ∧ s.pins.pfwAsserted = true) ∧
    (∃ (s : State), s.awake = true) :=
  ⟨⟨9, State.reset, by decide +kernel⟩,
   ⟨4, State.reset, by decide +kernel⟩,
   ⟨9, { State.reset.setBit R.CLK_LOST 9 true with sup := { lostClk := (Vector.replicate 11 false).set 9 true } }, by decide +kernel⟩,
   ⟨State.reset, by decide +kernel⟩,
   ⟨State.reset, by decide +kernel⟩,
   ⟨State.reset, by decide +kernel⟩,
   ⟨State.reset.fput F.RST_BOOT_STAT_STAGE 9, by decide +kernel⟩,
   ⟨{ State.reset with pins := { pfwAsserted := true } }, by decide +kernel⟩,
   ⟨State.reset, by decide +kernel⟩⟩

theorem test_meets_ResetRequests :
    (∃ (req : Req) (s : State), s.awake = true ∧ s.opens req R.RST_CMD = true ∧ s.rstLate = false) ∧
    (∃ (req : Req) (s : State), s.awake = true ∧ s.opens req R.RST_CMD = true ∧ s.rstLate = false) ∧
    (∃ (req : Req) (s : State), s.awake = true ∧ s.opens req R.RST_CMD = true ∧ s.rstLate = false) ∧
    (∃ (req : Req) (s : State), s.awake = true ∧ s.opens req R.RST_CMD = true ∧ s.rstLate = true) ∧
    (∃ (p : PendReset) (s : State), s.awake = true ∧ s.boot.pend = some p ∧ p.saving = false) ∧
    (∃ (p : PendReset) (s : State), s.awake = true ∧ s.boot.pend = some p ∧ p.saving = true ∧ p.warm = true) :=
  ⟨⟨.ac0, State.reset, by decide +kernel⟩,
   ⟨.ac1, State.reset, by decide +kernel⟩,
   ⟨.anchor, State.reset, by decide +kernel⟩,
   ⟨.ac0, { State.reset with boot := { pend := some ⟨true, false, 0, true⟩ } }, by decide +kernel⟩,
   ⟨⟨true, false, 400000, false⟩, { State.reset with boot := { pend := some ⟨true, false, 400000, false⟩ } }, by decide +kernel⟩,
   ⟨⟨true, true, 0, true⟩, { State.reset with boot := { pend := some ⟨true, true, 0, true⟩ } }, by decide +kernel⟩⟩

theorem test_meets_StartUpSteps :
    (∃ (s : State), s.awake = true ∧ s.boot.sramWiping = true) ∧
    (∃ (n : Fin 8) (s : State), s.awake = true ∧ s.selfTestDue n = true) ∧
    (∃ (n : Fin 8) (s : State), s.awake = true ∧ s.selfTestDue n = true) ∧
    (∃ (s : State), s.awake = true ∧ s.lcWipeDue = true ∧ s.fget F.RST_BOOT_STAT_STAGE = 5) ∧
    (∃ (s : State), s.awake = true ∧ s.fget F.RST_BOOT_STAT_STAGE = 5 ∧ s.lcWipeDue = false ∧ s.trust.otp.decom = false ∧ s.eccHeld = false ∧
      s.boot.recovery = false ∧ s.flash.boot.trial = false ∧ s.bankPasses s.activeBank true = true) ∧
    (∃ (s : State), s.awake = true ∧ s.fget F.RST_BOOT_STAT_STAGE = 5 ∧ s.lcWipeDue = false ∧ s.trust.otp.decom = false ∧ s.eccHeld = false ∧
      s.boot.recovery = false ∧ s.flash.boot.trial = false) ∧
    (∃ (s : State), s.awake = true ∧ s.boot.dramWiping = true ∧ s.boot.tested.contains 7 = true ∧ s.fget F.RST_BOOT_STAT_ECC_FAIL / 128 = 0) :=
  ⟨⟨State.reset, by decide +kernel⟩,
   ⟨2, { State.reset.fput F.RST_BOOT_STAT_STAGE 3 with boot := { sramWiping := false } }, by decide +kernel⟩,
   ⟨7, { State.reset.fput F.RST_BOOT_STAT_STAGE 4 with boot := { sramWiping := false } }, by decide +kernel⟩,
   ⟨State.reset.fput F.RST_BOOT_STAT_STAGE 5, by decide +kernel⟩,
   ⟨{ (State.reset.fput F.RST_BOOT_STAT_STAGE 5).putBytes .anchor markerAddr State.reset.markerNow with flash := { banks := #v[[(0x10000, 1), (0x10002, 1), (0x10003, 0xF0), (0x10004, 0xB0), (0x10005, 0x74)], []] } }, by decide +kernel⟩,
   ⟨(State.reset.fput F.RST_BOOT_STAT_STAGE 5).putBytes .anchor markerAddr State.reset.markerNow, by decide +kernel⟩,
   ⟨{ State.reset with boot := { tested := [7] } }, by decide +kernel⟩⟩

theorem test_meets_ExpertSequence :
    (∃ (req : Req) (page : Fin 39) (enable : Bool) (s : State), s.awake = true ∧ s.opens req (R.BLK_CTL page) = true ∧ s.comp0 req = true ∧
      s.enabled page = enable) ∧
    (∃ (req : Req) (page : Fin 39) (enable : Bool) (s : State), s.awake = true ∧ s.opens req (R.BLK_CTL page) = true ∧
      s.unlocks req page true = true ∧ s.enabled page = enable) ∧
    (∃ (req : Req) (page : Fin 39) (enable : Bool) (s : State), s.awake = true ∧ s.opens req (R.BLK_CTL page) = true ∧
      s.unlocks req page true = false ∧ s.enabled page = enable) ∧
    (∃ (req : Req) (page : Fin 39) (enable : Bool) (s : State), s.awake = true ∧ s.opens req (R.BLK_CTL page) = true ∧ s.enabled page = enable) :=
  ⟨⟨.ac0, 16, false, State.reset, by decide +kernel⟩,
   ⟨.ac1, 16, false, { State.reset with unlock := [(16, .ac1, 0)] }, by decide +kernel⟩,
   ⟨.ac1, 16, false, State.reset, by decide +kernel⟩,
   ⟨.anchor, 36, true, State.reset, by decide +kernel⟩⟩

theorem test_meets_PageHeaders :
    (∃ (req : Req) (page : Fin 39) (s : State), s.awake = true ∧ s.opens req (R.BLK_CTL page) = true ∧ pageAlwaysOn page = false ∧
      (page.val ≠ Pg.MAC4 ∨ s.mac4Ok = true)) ∧
    (∃ (req : Req) (page : Fin 39) (s : State), s.awake = true ∧ s.opens req (R.BLK_CTL page) = true ∧ pageAlwaysOn page = false) ∧
    (∃ (req : Req) (page : Fin 39) (s : State), s.awake = true ∧ s.opens req (R.INT_CLR page) = true) ∧
    (∃ (page : Fin 39) (s : State), s.awake = true ∧ pageOwnerFixed page = false) ∧
    (∃ (req : Req) (page : Fin 39) (s : State), s.awake = true ∧ s.opens req (R.BLK_OWNER page) = true ∧ req ≠ .anchor) :=
  ⟨⟨.ac0, 16, State.reset, by decide +kernel⟩,
   ⟨.anchor, 24, State.reset.fput (F.HDR_ENABLE 24) 1, by decide +kernel⟩,
   ⟨.ac0, 3, State.reset, by decide +kernel⟩,
   ⟨16, State.reset, by decide +kernel⟩,
   ⟨.ac0, 16, State.reset, by decide +kernel⟩⟩

theorem test_meets_InterruptController :
    (∃ (req : Req) (target : Fin 5) (n : Nat) (s : State), s.awake = true ∧ s.opens req (R.INTC_CLAIM target) = true ∧ s.bestSource target = some n) ∧
    (∃ (req : Req) (target : Fin 5) (s : State), s.awake = true ∧ s.opens req (R.INTC_CLAIM target) = true ∧ s.bestSource target = none) ∧
    (∃ (req : Req) (target : Fin 5) (source : Fin 256) (s : State), s.awake = true ∧ s.opens req (R.INTC_COMPLETE target) = true ∧
      tabFind s.claims source = some target.val) ∧
    (∃ (req : Req) (target : Fin 5) (source : Fin 256) (s : State), s.awake = true ∧ s.opens req (R.INTC_COMPLETE target) = true ∧
      tabFind s.claims source ≠ some target.val) ∧
    (∃ (req : Req) (source : Fin 256) (value : Word) (s : State), s.awake = true ∧ s.opens req (R.INTC_ROUTE source) = true ∧ req ≠ .anchor ∧
      s.fget (F.INTC_ROUTE_LOCK source) = 0 ∧ fieldOf (F.INTC_ROUTE_LOCK source) value = 0 ∧ fieldOf (F.INTC_ROUTE_TARGET source) value ≠ 7) ∧
    (∃ (s : State), s.awake = true) ∧
    (∃ (req : Req) (source : Fin 256) (value : Word) (s : State), s.awake = true ∧ s.opens req (R.INTC_ROUTE source) = true ∧ req ≠ .anchor ∧
      (s.fget (F.INTC_ROUTE_LOCK source) = 1 ∨ fieldOf (F.INTC_ROUTE_LOCK source) value ≠ s.fget (F.INTC_ROUTE_LOCK source) ∨ fieldOf (F.INTC_ROUTE_TARGET source) value = 7)) ∧
    (∃ (req : Req) (s : State), s.awake = true ∧ s.opens req R.INTC_SWI_SET = true) :=
  ⟨⟨.ac0, 0, 16, (((State.reset.wr (R.INT_RAW 3) 1).wr (R.INT_EN 3) 1).wr (R.INTC_ROUTE 16) 0x11), by decide +kernel⟩,
   ⟨.ac3, 3, State.reset, by decide +kernel⟩,
   ⟨.ac0, 2, 83, { State.reset with claims := [(83, 2)] }, by decide +kernel⟩,
   ⟨.ac0, 1, 83, { State.reset with claims := [(83, 2)] }, by decide +kernel⟩,
   ⟨.ac0, 100, 0x23, State.reset, by decide +kernel⟩,
   ⟨State.reset, by decide +kernel⟩,
   ⟨.ac0, 59, 0x71, State.reset, by decide +kernel⟩,
   ⟨.ac0, State.reset, by decide +kernel⟩⟩

theorem test_meets_RegisterStores :
    (∃ (req : Req) (page : Fin 39) (off : Nat) (row : RegRow) (i : Nat) (s : State), s.awake = true ∧
      (page.val = 0 ∨ page.val = 1 ∨ page.val = 5 ∨ page.val = 6 ∨ page.val = 21) ∧ 0x100 ≤ off ∧ off < 0x800 ∧ off % 4 = 0 ∧
      rowOf page off = some (row, i) ∧ s.pageGrant req page off = true ∧ req ≠ .anchor) ∧
    (∃ (req : Req) (page : Fin 39) (off : Nat) (s : State), s.awake = true ∧ 0x800 ≤ off ∧ off < 0x1000 ∧ off % 4 = 0 ∧
      ownLock req page off = false ∧ s.fset (F.HDR_EXPERT page) = false ∧ (rowOf page off).isSome = true ∧ s.pageGrant req page off = true) ∧
    (∃ (req : Req) (page : Fin 39) (off : Nat) (s : State), s.awake = true ∧ off % 4 = 0 ∧ off < 0x1000 ∧ s.pageGrant req page off = false) :=
  ⟨⟨.ac0, 5, 0x108, ((rowOf 5 0x108).get (by decide)).1, 0, State.reset, by decide +kernel⟩,
   ⟨.ac0, 16, 0x800, State.reset, by decide +kernel⟩,
   ⟨.ac2, 25, 0x100, State.reset, by decide +kernel⟩⟩

theorem test_meets_CoreMemory :
    (∃ (s : State), s.awake = true) ∧
    (∃ (addr : Nat) (width : Width) (s : State), s.awake = true ∧ addr % widthBytes width = 0 ∧ width ≠ .b8 ∧ 0xC000000 ≤ addr ∧ addr < 0x10000000 ∧
      s.flipsAt (0x100000000 + s.trust.dwin.toNat * 0x4000000 + (addr - 0xC000000)) = 0) ∧
    (∃ (addr : Nat) (width : Width) (a : Nat) (s : State), s.awake = true ∧ addr % widthBytes width = 0 ∧ width ≠ .b8 ∧ 0xC000000 ≤ addr ∧
      addr < 0x10000000 ∧ a = 0x100000000 + s.trust.dwin.toNat * 0x4000000 + (addr - 0xC000000) ∧ s.flipsAt a = 0 ∧ s.untested a = true) ∧
    (∃ (core : Fin 5) (fetch : Bool) (addr : Nat) (width : Width) (s : State), s.awake = true ∧ core.val < 4 ∧ addr % widthBytes width = 0 ∧
      inPages addr = false ∧ s.loadPath (Req.ofCore core) fetch addr = .plain ∧ s.flipsAt addr = 0) ∧
    (∃ (core : Fin 5) (fetch : Bool) (addr : Nat) (width : Width) (region : Nat) (index : Nat) (s : State), s.awake = true ∧ core.val < 4 ∧
      addr % widthBytes width = 0 ∧ inPages addr = false ∧ s.loadPath (Req.ofCore core) fetch addr = .deny region index) ∧
    (∃ (core : Fin 5) (addr : Nat) (width : Width) (s : State), s.awake = true ∧ core.val < 4 ∧ addr % widthBytes width ≠ 0 ∧
      faultsMisaligned addr = true) ∧
    (∃ (core : Fin 5) (addr : Nat) (width : Width) (s : State), s.awake = true ∧ core.val < 4 ∧ addr % widthBytes width = 0 ∧ inPages addr = false ∧
      s.storePath (Req.ofCore core) addr (widthBytes width) = .plain ∧ s.flipsAt addr = 0 ∧ s.untested addr = true) ∧
    (∃ (core : Fin 5) (addr : Nat) (width : Width) (region : Nat) (index : Nat) (s : State), s.awake = true ∧ core.val < 4 ∧
      addr % widthBytes width = 0 ∧ inPages addr = false ∧ s.storePath (Req.ofCore core) addr (widthBytes width) = .deny region index) ∧
    (∃ (core : Fin 5) (addr : Nat) (width : Width) (s : State), s.awake = true ∧ core.val < 4 ∧ addr % widthBytes width ≠ 0 ∧
      faultsMisaligned addr = true) ∧
    (∃ (s : State), s.live = true ∧ s.debugOpen = false) ∧
    (∃ (addr : Nat) (width : Width) (s : State), s.live = true ∧ s.debugOpen = true ∧ addr % widthBytes width = 0 ∧ inPages addr = false ∧
      s.loadPath .debug false addr = .plain ∧ s.flipsAt addr = 0 ∧ s.mramOk addr (widthBytes width) = true) ∧
    (∃ (addr : Nat) (width : Width) (s : State), s.live = true ∧ s.debugOpen = true ∧ addr % widthBytes width = 0 ∧ inPages addr = false ∧
      s.storePath .debug addr (widthBytes width) = .plain ∧ s.flipsAt addr = 0 ∧ s.untested addr = true) :=
  ⟨⟨State.reset, by decide +kernel⟩,
   ⟨0xC000010, .b4, { State.reset with trust := { State.reset.trust with dwin := 5 } }, by decide +kernel⟩,
   ⟨0xC000010, .b2, 0x100000010, State.reset, by decide +kernel⟩,
   ⟨0, false, 0x10840080, .b4, State.reset.setLe 0x10840080 4 0x12345678, by decide +kernel⟩,
   ⟨2, false, 0x10F00000, .b8, 8, 0, State.reset, by decide +kernel⟩,
   ⟨1, 0x40000102, .b4, State.reset, by decide +kernel⟩,
   ⟨0, 0x10400110, .b8, State.reset, by decide +kernel⟩,
   ⟨3, 0x10800000, .b8, 1, 0, State.reset, by decide +kernel⟩,
   ⟨1, 0x60000001, .b8, State.reset, by decide +kernel⟩,
   ⟨{ State.reset with trust := { otp := { prov := true } } }, by decide +kernel⟩,
   ⟨0x60500000, .b8, State.reset, by decide +kernel⟩,
   ⟨0x10400110, .b2, State.reset, by decide +kernel⟩⟩

theorem test_meets_EccAndScrubbing :
    (∃ (n : Fin 8) (s : State), s.live = true ∧ s.fget (F.ECC_BUCKET_CFG_LEAK_S n) ≠ 0) ∧
    (∃ (n : Fin 8) (s : State), s.awake = true ∧ s.eccAt (s.scrubAddr n) = .valid) ∧
    (∃ (n : Fin 8) (bit : Nat) (s : State), s.awake = true ∧ s.eccAt (s.scrubAddr n) = .single bit ∧ s.fset (F.ECC_TEST_CTL_ARM n) = false ∧
      n.val < 7) ∧
    (∃ (n : Fin 8) (s : State), s.awake = true ∧ s.eccAt (s.scrubAddr n) = .uncorrectable) ∧
    (∃ (s : State), s.awake = true) ∧
    (∃ (req : Req) (n : Fin 8) (s : State), s.awake = true ∧ s.opens req (R.ECC_BUCKET_CFG n) = true) :=
  ⟨⟨3, (State.reset.fput (F.ECC_BUCKET_CFG_LEAK_S 3) 1).fput (F.ECC_BUCKET_LEVEL 3) 2, by decide +kernel⟩,
   ⟨2, State.reset, by decide +kernel⟩,
   ⟨0, 5, { State.reset with ecc := [(0x10000000, 32)] }, by decide +kernel⟩,
   ⟨1, { State.reset with ecc := [(0x10400000, 3)] }, by decide +kernel⟩,
   ⟨State.reset, by decide +kernel⟩,
   ⟨.ac0, 4, State.reset, by decide +kernel⟩⟩

theorem test_meets_CanStates :
    (∃ (ch : Fin 4) (s : State), s.awake = true ∧ s.canState ch = canIntegrating ∧ s.canClock = true ∧ s.sup.waking = none ∧
      s.fget (F.CAN_MODE_REQ ch) ≠ 3) ∧
    (∃ (ch : Fin 4) (s : State), s.awake = true ∧ s.canState ch = canIntegrating ∧ s.canClock = true ∧ s.sup.waking = none ∧
      s.fget (F.CAN_MODE_REQ ch) = 3) ∧
    (∃ (ch : Fin 4) (s : State), s.awake = true ∧ s.canState ch = canSleepPending ∧ s.canClock = true ∧ (s.canx ch).tx.isNone = true ∧
      s.sup.waking = none) ∧
    (∃ (req : Req) (ch : Fin 4) (s : State), s.awake = true ∧ s.opens req (R.CAN_CMD ch) = true ∧ s.canState ch = canBusOff) ∧
    (∃ (req : Req) (ch : Fin 4) (s : State), s.awake = true ∧ s.opens req (R.CAN_CMD ch) = true ∧ s.canState ch ≠ canBusOff) ∧
    (∃ (ch : Fin 4) (s : State), s.awake = true ∧ s.canClock = true ∧ s.canState ch = canRecovering) ∧
    (∃ (ch : Fin 4) (cause : CanWakeCause) (s : State), s.live = true ∧ s.enabled (Pg.CAN ch) = true ∧ s.canState ch = canSleep ∧
      s.clockLost 9 = false ∧ s.wakeMatch ch cause = some true) ∧
    (∃ (ch : Fin 4) (cause : CanWakeCause) (s : State), s.live = true ∧ s.canState ch = canSleep ∧ s.clockLost 9 = false ∧
      s.wakeMatch ch cause = some false) :=
  ⟨⟨1, ((State.reset.fput (F.CAN_STATE_STATE 1) 1).fput (F.HDR_ENABLE 17) 1), by decide +kernel⟩,
   ⟨1, ((State.reset.fput (F.CAN_STATE_STATE 1) 1).fput (F.HDR_ENABLE 17) 1).fput (F.CAN_MODE_REQ 1) 3, by decide +kernel⟩,
   ⟨1, ((State.reset.fput (F.CAN_STATE_STATE 1) 6).fput (F.HDR_ENABLE 17) 1), by decide +kernel⟩,
   ⟨.ac0, 1, ((State.reset.fput (F.CAN_STATE_STATE 1) 4).fput (F.HDR_ENABLE 17) 1), by decide +kernel⟩,
   ⟨.ac0, 0, State.reset, by decide +kernel⟩,
   ⟨1, ((State.reset.fput (F.CAN_STATE_STATE 1) 5).fput (F.HDR_ENABLE 17) 1), by decide +kernel⟩,
   ⟨1, .dominant 5400, ((State.reset.fput (F.CAN_STATE_STATE 1) 7).fput (F.HDR_ENABLE 17) 1), by decide +kernel⟩,
   ⟨1, .dominant 4699, ((State.reset.fput (F.CAN_STATE_STATE 1) 7).fput (F.HDR_ENABLE 17) 1), by decide +kernel⟩⟩

theorem test_meets_CanModes :
    (∃ (req : Req) (ch : Fin 4) (s : State), s.awake = true ∧ s.opens req (R.CAN_MODE ch) = true) ∧
    (∃ (req : Req) (ch : Fin 4) (s : State), s.awake = true ∧ s.opens req (R.CAN_MODE ch) = true) ∧
    (∃ (req : Req) (ch : Fin 4) (s : State), s.awake = true ∧ s.opens req (R.CAN_MODE ch) = true) ∧
    (∃ (req : Req) (ch : Fin 4) (s : State), s.awake = true ∧ s.opens req (R.CAN_MODE ch) = true ∧ s.enabled (Pg.CAN ch) = true ∧
      s.canOpen ch = true ∧ s.fget (F.CAN_MODE_REQ ch) ≠ 3) ∧
    (∃ (req : Req) (ch : Fin 4) (s : State), s.awake = true ∧ s.opens req (R.CAN_MODE ch) = true ∧ s.enabled (Pg.CAN ch) = true ∧
      (s.canState ch = canBusOff ∨ s.canState ch = canRecovering)) :=
  ⟨⟨.ac0, 1, ((State.reset.fput (F.CAN_STATE_STATE 1) 2).fput (F.HDR_ENABLE 17) 1), by decide +kernel⟩,
   ⟨.ac0, 1, ((State.reset.fput (F.CAN_STATE_STATE 1) 2).fput (F.HDR_ENABLE 17) 1), by decide +kernel⟩,
   ⟨.ac0, 1, ((State.reset.fput (F.CAN_STATE_STATE 1) 2).fput (F.HDR_ENABLE 17) 1), by decide +kernel⟩,
   ⟨.ac1, 1, ((State.reset.fput (F.CAN_STATE_STATE 1) 3).fput (F.HDR_ENABLE 17) 1), by decide +kernel⟩,
   ⟨.ac1, 1, ((State.reset.fput (F.CAN_STATE_STATE 1) 5).fput (F.HDR_ENABLE 17) 1), by decide +kernel⟩⟩

theorem test_meets_CanReceive :
    (∃ (ch : Fin 4) (frame : CanFrame) (sof : Word64) (s : State), s.awake = true ∧ s.canReceives ch sof.toNat = true ∧ (s.canx ch).tx = none ∧
      s.ringFull ch = false ∧ isSyncFrame frame = false) ∧
    (∃ (ch : Fin 4) (sof : Word64) (att : TxAtt) (s : State), s.awake = true ∧ s.canReceives ch sof.toNat = true ∧ (s.canx ch).tx = some att ∧
      att.abortTo = none ∧ att.queue < 3) ∧
    (∃ (ch : Fin 4) (sof : Word64) (s : State), s.awake = true ∧ s.canReceives ch sof.toNat = true ∧ (s.canx ch).tx = none ∧ s.ringFull ch = true) ∧
    (∃ (ch : Fin 4) (s : State), s.awake = true ∧ s.fget (F.CAN_RX_WM_TIMEOUT_US ch) ≠ 0 ∧ s.unreadFw ch ≠ 0 ∧
      s.fset (F.CAN_RX_CFG_FW_CONSUMER ch) = true ∧ (s.canx ch).wmDone = false) ∧
    (∃ (req : Req) (ch : Fin 4) (s : State), s.awake = true ∧ s.opens req (R.CAN_CMD ch) = true ∧ s.fset (F.CAN_RX_RD_FW_WIN_VALID ch) = true) ∧
    (∃ (req : Req) (ch : Fin 4) (s : State), s.awake = true ∧ s.opens req (R.CAN_CMD ch) = true ∧ s.fset (F.CAN_RX_RD_FW_WIN_VALID ch) = false) ∧
    (∃ (req : Req) (ch : Fin 4) (index : BitVec 16) (s : State), s.awake = true ∧ s.opens req (R.CAN_RX_RD_FW ch) = true ∧
      s.fset (F.CAN_RX_CFG_FW_CONSUMER ch) = true ∧ (index.toNat + 65536 - s.fget (F.CAN_RX_RD_FW_INDEX ch)) % 65536 ≤ s.unreadFw ch) ∧
    (∃ (req : Req) (ch : Fin 4) (index : BitVec 16) (s : State), s.awake = true ∧ s.opens req (R.CAN_RX_RD_FW ch) = true ∧
      s.fset (F.CAN_RX_CFG_FW_CONSUMER ch) = true ∧ s.unreadFw ch < (index.toNat + 65536 - s.fget (F.CAN_RX_RD_FW_INDEX ch)) % 65536) ∧
    (∃ (req : Req) (ch : Fin 4) (s : State), s.awake = true ∧ s.opens req (R.CAN_RX_CFG ch) = true) :=
  ⟨⟨1, ⟨0x40E0000, true, false, 8, true, true, false, [1, 2, 3, 4, 5, 6, 7, 8]⟩, 1000, ((State.reset.fput (F.CAN_STATE_STATE 1) 2).fput (F.HDR_ENABLE 17) 1), by decide +kernel⟩,
   ⟨1, 1000, { queue := 1, sof := 5000 }, { ((State.reset.fput (F.CAN_STATE_STATE 1) 2).fput (F.HDR_ENABLE 17) 1) with can := State.reset.can.set 1 { tx := some { queue := 1, sof := 5000 } } }, by decide +kernel⟩,
   ⟨1, 1000, ((State.reset.fput (F.CAN_STATE_STATE 1) 2).fput (F.HDR_ENABLE 17) 1).fput (F.CAN_RX_WR_INDEX 1) 4096, by decide +kernel⟩,
   ⟨1, (((State.reset.fput (F.CAN_RX_WM_TIMEOUT_US 1) 10).fput (F.CAN_RX_CFG_FW_CONSUMER 1) 1).fput (F.CAN_RX_WR_INDEX 1) 1), by decide +kernel⟩,
   ⟨.ac0, 1, (((State.reset.fput (F.CAN_RX_RD_FW_WIN_VALID 1) 1).fput (F.CAN_RX_CFG_FW_CONSUMER 1) 1).fput (F.CAN_RX_WR_INDEX 1) 1), by decide +kernel⟩,
   ⟨.ac0, 1, State.reset, by decide +kernel⟩,
   ⟨.ac0, 1, 3, ((State.reset.fput (F.CAN_RX_CFG_FW_CONSUMER 1) 1).fput (F.CAN_RX_WR_INDEX 1) 3), by decide +kernel⟩,
   ⟨.ac0, 1, 4, ((State.reset.fput (F.CAN_RX_CFG_FW_CONSUMER 1) 1).fput (F.CAN_RX_WR_INDEX 1) 3), by decide +kernel⟩,
   ⟨.ac0, 2, State.reset, by decide +kernel⟩⟩

theorem test_meets_CanTransmit :
    (∃ (ch : Fin 4) (q : Nat) (d : Desc) (s : State), s.awake = true ∧ s.canSends ch = true ∧
      ((List.range 3).all (fun q => ((s.qHead ch q).map (fun a => !s.qOffered ch q || ((s.eccScan .can (wordsIn a 80)).1 && !s.descRefused ch (s.desc a)))).getD true)) = true ∧
      s.txChoice ch = some (q, d) ∧ s.wouldBlock ch d = false) ∧
    (∃ (ch : Fin 4) (measured : Nat) (att : TxAtt) (a : Nat) (s : State), s.awake = true ∧ s.canClock = true ∧ (s.canx ch).tx = some att ∧
      att.abortTo = none ∧ att.queue < 3 ∧ s.qHead ch att.queue = some a ∧
      (s.attemptDesc ch).all (fun d => !(d.brs && decide (100 < measured))) = true) ∧
    (∃ (ch : Fin 4) (queue : Fin 3) (lim : Nat) (d : Desc) (a : Nat) (s : State), s.awake = true ∧ s.dropLimit ch queue = some (lim, d) ∧
      s.qHead ch queue = some a) ∧
    (∃ (req : Req) (ch : Fin 4) (s : State), s.awake = true ∧ s.opens req (R.CAN_CMD ch) = true ∧ (s.canx ch).tx = none) ∧
    (∃ (req : Req) (ch : Fin 4) (s : State), s.awake = true ∧ s.opens req (R.CAN_CMD ch) = true ∧ (s.canx ch).tx = none) ∧
    (∃ (req : Req) (ch : Fin 4) (att : TxAtt) (s : State), s.awake = true ∧ s.opens req (R.CAN_CMD ch) = true ∧ (s.canx ch).tx = some att ∧
      att.queue = 1) ∧
    (∃ (req : Req) (ch : Fin 4) (second : Bool) (index : BitVec 16) (s : State), s.awake = true ∧
      s.opens req (qWr ch (if second then 2 else 1)) = true ∧ (index.toNat + 65536 - (s.rd (qRd ch (if second then 2 else 1))).toNat) % 65536 ≤ 64 ∧
      s.qCount ch (if second then 2 else 1) ≤ (index.toNat + 65536 - (s.rd (qRd ch (if second then 2 else 1))).toNat) % 65536) ∧
    (∃ (req : Req) (ch : Fin 4) (second : Bool) (index : BitVec 16) (s : State), s.awake = true ∧
      s.opens req (qWr ch (if second then 2 else 1)) = true ∧ 64 < (index.toNat + 65536 - (s.rd (qRd ch (if second then 2 else 1))).toNat) % 65536) :=
  ⟨⟨1, 1, ⟨0, 5, true, false, 0, false, false, false, 0⟩, ((((State.reset.fput (F.CAN_STATE_STATE 1) 2).fput (F.HDR_ENABLE 17) 1).wr (R.CAN_TXQ1_CFG 1) 1).wr (R.CAN_TXQ1_WR 1) 1).setLe (qBase 1 1 + 8) 4 0x20000005, by decide +kernel⟩,
   ⟨1, 20, { queue := 1, sof := 5000 }, qBase 1 1, { ((((State.reset.fput (F.CAN_STATE_STATE 1) 2).fput (F.HDR_ENABLE 17) 1).wr (R.CAN_TXQ1_CFG 1) 1).wr (R.CAN_TXQ1_WR 1) 1).setLe (qBase 1 1 + 8) 4 0x20000005 with can := State.reset.can.set 1 { tx := some { queue := 1, sof := 5000 } } }, by decide +kernel⟩,
   ⟨1, 1, 101000, ⟨100000, 5, true, false, 0, false, false, true, 0⟩, qBase 1 1, ((((((State.reset.fput (F.CAN_STATE_STATE 1) 2).fput (F.HDR_ENABLE 17) 1).wr (R.CAN_TXQ1_CFG 1) 1).wr (R.CAN_TXQ1_WR 1) 1).setLe (qBase 1 1 + 8) 4 0x20000005).setLe (qBase 1 1) 8 100000).setLe (qBase 1 1 + 12) 4 0x4000, by decide +kernel⟩,
   ⟨.ac0, 1, ((((State.reset.fput (F.CAN_STATE_STATE 1) 2).fput (F.HDR_ENABLE 17) 1).wr (R.CAN_TXQ1_CFG 1) 1).wr (R.CAN_TXQ1_WR 1) 1).setLe (qBase 1 1 + 8) 4 0x20000005, by decide +kernel⟩,
   ⟨.ac0, 1, ((((State.reset.fput (F.CAN_STATE_STATE 1) 2).fput (F.HDR_ENABLE 17) 1).wr (R.CAN_TXQ1_CFG 1) 1).wr (R.CAN_TXQ1_WR 1) 1).setLe (qBase 1 1 + 8) 4 0x20000005, by decide +kernel⟩,
   ⟨.ac0, 1, { queue := 1, sof := 5000 }, { ((((State.reset.fput (F.CAN_STATE_STATE 1) 2).fput (F.HDR_ENABLE 17) 1).wr (R.CAN_TXQ1_CFG 1) 1).wr (R.CAN_TXQ1_WR 1) 1).setLe (qBase 1 1 + 8) 4 0x20000005 with can := State.reset.can.set 1 { tx := some { queue := 1, sof := 5000 } } }, by decide +kernel⟩,
   ⟨.ac0, 3, true, 64, State.reset, by decide +kernel⟩,
   ⟨.ac0, 3, false, 65, State.reset, by decide +kernel⟩⟩

theorem test_meets_CanErrors :
    (∃ (ch : Fin 4) (s : State), s.awake = true ∧ s.canClock = true ∧ (s.canOpen ch = true ∨ s.canState ch = canSleepPending)) ∧
    (∃ (ch : Fin 4) (tecInc : Nat) (s : State), s.awake = true ∧ s.canClock = true ∧ s.canOpen ch = true ∧ (s.canx ch).tx = none ∧
      255 < s.fget (F.CAN_ERR_CNT_TEC ch) + tecInc) :=
  ⟨⟨1, ((State.reset.fput (F.CAN_STATE_STATE 1) 2).fput (F.HDR_ENABLE 17) 1), by decide +kernel⟩,
   ⟨1, 8, ((State.reset.fput (F.CAN_STATE_STATE 1) 3).fput (F.HDR_ENABLE 17) 1).fput (F.CAN_ERR_CNT_TEC 1) 250, by decide +kernel⟩⟩

theorem test_meets_SyncAndTime :
    (∃ (s : State), s.awake = true ∧ s.fnetRuns = true) ∧
    (∃ (c : Nat) (s : State), s.awake = true ∧ s.fnetRuns = true ∧ s.syncChannels = [c] ∧ s.q0Free c = true ∧ s.mfp.waiting = []) ∧
    (∃ (s : State), s.awake = true ∧ s.fnetRuns = true ∧ s.mfp.timeNext * 1000 + 1 < s.mfp.nextCycle) ∧
    (∃ (ch : Fin 4) (s : State), s.awake = true ∧ s.fnetRuns = true ∧ s.mfp.synced.toList.getD ch false = true ∧
      s.mfp.discAt.toList.getD ch none = none) ∧
    (∃ (ch : Fin 4) (f : Q0Frame) (s : State), s.awake = true ∧ s.mfp.waiting.find? (fun g => g.ch == ch.val) = some f ∧ s.q0Free ch = true ∧
      s.enabled (q0Page f) = true) :=
  ⟨⟨(((((State.reset.fput (F.CAN_STATE_STATE 1) 2).fput F.FNET_SYNC_CFG_CH_EN 2)).fput (F.HDR_ENABLE 17) 1).fput (F.HDR_ENABLE 20) 1).fput (F.HDR_ENABLE 21) 1, by decide +kernel⟩,
   ⟨1, (((((State.reset.fput (F.CAN_STATE_STATE 1) 2).fput F.FNET_SYNC_CFG_CH_EN 2)).fput (F.HDR_ENABLE 17) 1).fput (F.HDR_ENABLE 20) 1).fput (F.HDR_ENABLE 21) 1, by decide +kernel⟩,
   ⟨{ ((((((State.reset.fput (F.CAN_STATE_STATE 1) 2).fput F.FNET_SYNC_CFG_CH_EN 2)).fput (F.HDR_ENABLE 17) 1).fput (F.HDR_ENABLE 20) 1).fput (F.HDR_ENABLE 21) 1) with mfp := { nextCycle := 1002 } }, by decide +kernel⟩,
   ⟨1, { ((((((State.reset.fput (F.CAN_STATE_STATE 1) 2).fput F.FNET_SYNC_CFG_CH_EN 2)).fput (F.HDR_ENABLE 17) 1).fput (F.HDR_ENABLE 20) 1).fput (F.HDR_ENABLE 21) 1) with mfp := { synced := Vector.replicate 4 true } }, by decide +kernel⟩,
   ⟨2, ⟨2, 0, 5, 6, 7, []⟩, { ((((((State.reset.fput (F.CAN_STATE_STATE 1) 2).fput F.FNET_SYNC_CFG_CH_EN 2)).fput (F.HDR_ENABLE 17) 1).fput (F.HDR_ENABLE 20) 1).fput (F.HDR_ENABLE 21) 1) with mfp := { waiting := [⟨2, 0, 5, 6, 7, []⟩] } }, by decide +kernel⟩⟩

theorem test_meets_Discovery :
    (∃ (ch : Fin 4) (h : Heard) (k : Nat) (x : Stn) (s : State), s.awake = true ∧ s.iosRuns = true ∧ s.headFrame ch = some h ∧ h.kind = .announce ∧
      ((s.headTaken ch).announceNote ch h.data).stnBySerial (serialOf h.data) = some (k, x) ∧ k / 256 = ch ∧ x.isDuplicate = false ∧
      x.st ≠ .present ∧ (s.headTaken ch).iosSends = true) ∧
    (∃ (ch : Fin 4) (h : Heard) (s : State), s.awake = true ∧ s.iosRuns = true ∧ s.headFrame ch = some h ∧ h.kind = .announce ∧
      (s.headTaken ch).stnBySerial (serialOf h.data) = none ∧ (s.headTaken ch).iosSends = true) ∧
    (∃ (ch : Fin 4) (h : Heard) (x : Stn) (s : State), s.awake = true ∧ s.iosRuns = true ∧ s.headFrame ch = some h ∧ h.kind = .hello ∧
      (s.headTaken ch).stn (heardKey ch h) = some x ∧ (s.headTaken ch).standby = false ∧ serialOf h.data = x.serial ∧ x.st = .assigned) ∧
    (∃ (ch : Fin 4) (h : Heard) (x : Stn) (s : State), s.awake = true ∧ s.iosRuns = true ∧ s.headFrame ch = some h ∧ h.kind = .hello ∧
      (s.headTaken ch).stn (heardKey ch h) = some x ∧ (s.headTaken ch).standby = false ∧ serialOf h.data ≠ x.serial) ∧
    (∃ (ch : Fin 4) (addr : Nat) (x : Stn) (s : State), s.awake = true ∧ s.iosSends = true ∧ s.stn (stnKey ch addr) = some x ∧ x.st = .assigned ∧
      x.sent = true) :=
  ⟨⟨1, { ts := 1000000000, kind := .announce, addr := 255, group := 5, data := [10, 11, 12, 13, 14, 15, 0, 0, 0, 0, 0, 0, 0, 0, 0, 0] }, 259, { serial := 0x0A0B0C0D0E0F, image := (List.replicate 3 (0 : Byte) ++ [1] ++ List.replicate 60 0 ++ [0, 0, 0, 0, 0, 0, 0, 0]), pids := [7], st := .absent }, ({ ((((((State.reset.fput (F.CAN_STATE_STATE 1) 2).fput F.FNET_SYNC_CFG_CH_EN 2)).fput (F.HDR_ENABLE 17) 1).fput (F.HDR_ENABLE 20) 1).fput (F.HDR_ENABLE 21) 1) with mfp := { stations := [(259, { serial := 0x0A0B0C0D0E0F, image := (List.replicate 3 (0 : Byte) ++ [1] ++ List.replicate 60 0 ++ [0, 0, 0, 0, 0, 0, 0, 0]), pids := [7], st := .absent })], hasTable := true } }).ringStore 1 1000000000 ⟨469499909, true, false, 10, true, true, false, [10, 11, 12, 13, 14, 15, 0, 0, 0, 0, 0, 0, 0, 0, 0, 0]⟩ false 0, by decide +kernel⟩,
   ⟨1, { ts := 1000000000, kind := .announce, addr := 255, group := 5, data := [1, 2, 3, 4, 5, 6, 0, 0, 0, 0, 0, 0, 0, 0, 0, 0] }, ({ ((((((State.reset.fput (F.CAN_STATE_STATE 1) 2).fput F.FNET_SYNC_CFG_CH_EN 2)).fput (F.HDR_ENABLE 17) 1).fput (F.HDR_ENABLE 20) 1).fput (F.HDR_ENABLE 21) 1) with mfp := { stations := [(259, { serial := 0x0A0B0C0D0E0F, image := (List.replicate 3 (0 : Byte) ++ [1] ++ List.replicate 60 0 ++ [0, 0, 0, 0, 0, 0, 0, 0]), pids := [7], st := .absent })], hasTable := true } }).ringStore 1 1000000000 ⟨469499909, true, false, 10, true, true, false, [1, 2, 3, 4, 5, 6, 0, 0, 0, 0, 0, 0, 0, 0, 0, 0]⟩ false 0, by decide +kernel⟩,
   ⟨1, { ts := 1000000000, kind := .hello, addr := 3, group := 0, data := [10, 11, 12, 13, 14, 15, 1, 0] }, { serial := 0x0A0B0C0D0E0F, image := (List.replicate 3 (0 : Byte) ++ [1] ++ List.replicate 60 0 ++ [0, 0, 0, 0, 0, 0, 0, 0]), pids := [7], st := .assigned }, ({ ((((((State.reset.fput (F.CAN_STATE_STATE 1) 2).fput F.FNET_SYNC_CFG_CH_EN 2)).fput (F.HDR_ENABLE 17) 1).fput (F.HDR_ENABLE 20) 1).fput (F.HDR_ENABLE 21) 1) with mfp := { stations := [(259, { serial := 0x0A0B0C0D0E0F, image := (List.replicate 3 (0 : Byte) ++ [1] ++ List.replicate 60 0 ++ [0, 0, 0, 0, 0, 0, 0, 0]), pids := [7], st := .assigned })], hasTable := true } }).ringStore 1 1000000000 ⟨403578880, true, false, 8, true, true, false, [10, 11, 12, 13, 14, 15, 1, 0]⟩ false 0, by decide +kernel⟩,
   ⟨1, { ts := 1000000000, kind := .hello, addr := 3, group := 0, data := [1, 1, 1, 1, 1, 1, 1, 1] }, { serial := 0x0A0B0C0D0E0F, image := (List.replicate 3 (0 : Byte) ++ [1] ++ List.replicate 60 0 ++ [0, 0, 0, 0, 0, 0, 0, 0]), pids := [7], st := .assigned }, ({ ((((((State.reset.fput (F.CAN_STATE_STATE 1) 2).fput F.FNET_SYNC_CFG_CH_EN 2)).fput (F.HDR_ENABLE 17) 1).fput (F.HDR_ENABLE 20) 1).fput (F.HDR_ENABLE 21) 1) with mfp := { stations := [(259, { serial := 0x0A0B0C0D0E0F, image := (List.replicate 3 (0 : Byte) ++ [1] ++ List.replicate 60 0 ++ [0, 0, 0, 0, 0, 0, 0, 0]), pids := [7], st := .assigned })], hasTable := true } }).ringStore 1 1000000000 ⟨403578880, true, false, 8, true, true, false, [1, 1, 1, 1, 1, 1, 1, 1]⟩ false 0, by decide +kernel⟩,
   ⟨1, 3, { serial := 0x0A0B0C0D0E0F, image := (List.replicate 3 (0 : Byte) ++ [1] ++ List.replicate 60 0 ++ [0, 0, 0, 0, 0, 0, 0, 0]), pids := [7], st := .assigned, sent := true }, { ((((((State.reset.fput (F.CAN_STATE_STATE 1) 2).fput F.FNET_SYNC_CFG_CH_EN 2)).fput (F.HDR_ENABLE 17) 1).fput (F.HDR_ENABLE 20) 1).fput (F.HDR_ENABLE 21) 1) with mfp := { stations := [(259, { serial := 0x0A0B0C0D0E0F, image := (List.replicate 3 (0 : Byte) ++ [1] ++ List.replicate 60 0 ++ [0, 0, 0, 0, 0, 0, 0, 0]), pids := [7], st := .assigned, sent := true })], hasTable := true } }, by decide +kernel⟩⟩

theorem test_meets_ConfigurationExchange :
    (∃ (ch : Fin 4) (h : Heard) (x : Stn) (s : State), s.awake = true ∧ s.iosRuns = true ∧ s.headFrame ch = some h ∧ h.kind = .cfgAck ∧
      (s.headTaken ch).stn (heardKey ch h) = some x ∧ (s.headTaken ch).standby = false ∧ x.st = .configuring ∧ x.exch = .check) ∧
    (∃ (ch : Fin 4) (h : Heard) (x : Stn) (s : State), s.awake = true ∧ s.iosRuns = true ∧ s.headFrame ch = some h ∧ h.kind = .cfgAck ∧
      (s.headTaken ch).stn (heardKey ch h) = some x ∧ (s.headTaken ch).standby = false ∧ x.st = .configuring ∧ x.exch = .commit ∧ byteOf h.data 0 = 0) ∧
    (∃ (ch : Fin 4) (h : Heard) (x : Stn) (s : State), s.awake = true ∧ s.iosRuns = true ∧ s.headFrame ch = some h ∧ h.kind = .cfgAck ∧
      (s.headTaken ch).stn (heardKey ch h) = some x ∧ (s.headTaken ch).standby = false ∧ x.st = .configuring ∧ x.exch = .commit ∧
      byteOf h.data 0 ≠ 0 ∧ x.attempts < 2) ∧
    (∃ (ch : Fin 4) (h : Heard) (x : Stn) (s : State), s.awake = true ∧ s.iosRuns = true ∧ s.headFrame ch = some h ∧ h.kind = .cfgAck ∧
      (s.headTaken ch).stn (heardKey ch h) = some x ∧ (s.headTaken ch).standby = false ∧ x.st = .rejoining ∧ byteOf h.data 0 = 0) ∧
    (∃ (ch : Fin 4) (h : Heard) (x : Stn) (s : State), s.awake = true ∧ s.iosRuns = true ∧ s.headFrame ch = some h ∧ h.kind = .initReport ∧
      (s.headTaken ch).stn (heardKey ch h) = some x ∧ (s.headTaken ch).standby = false ∧ x.st = .configuring ∧ x.exch = .initWait ∧
      h.ts / 1000000 < fullCycle h.ts (leOf h.data 0 2) + 64 ∧ groupsOf (allIns x.image).length = 1 ∧ (s.headTaken ch).mfp.startCycle = none) ∧
    (∃ (ch : Fin 4) (addr : Nat) (x : Stn) (s : State), s.awake = true ∧ s.iosSends = true ∧ s.stn (stnKey ch addr) = some x ∧ x.st = .configuring ∧
      x.sent = true) ∧
    (∃ (ch : Fin 4) (addr : Nat) (x : Stn) (s : State), s.awake = true ∧ s.iosSends = true ∧ s.stn (stnKey ch addr) = some x ∧ x.st = .rejoining ∧
      x.sent = true) :=
  ⟨⟨1, { ts := 1000000000, kind := .cfgAck, addr := 3, group := 0, data := [0, 0, 0, 0, 0, 0, 0, 0] }, { serial := 0x0A0B0C0D0E0F, image := (List.replicate 3 (0 : Byte) ++ [1] ++ List.replicate 60 0 ++ [0, 0, 0, 0, 0, 0, 0, 0]), pids := [7], st := .configuring, exch := .check }, ({ ((((((State.reset.fput (F.CAN_STATE_STATE 1) 2).fput F.FNET_SYNC_CFG_CH_EN 2)).fput (F.HDR_ENABLE 17) 1).fput (F.HDR_ENABLE 20) 1).fput (F.HDR_ENABLE 21) 1) with mfp := { stations := [(259, { serial := 0x0A0B0C0D0E0F, image := (List.replicate 3 (0 : Byte) ++ [1] ++ List.replicate 60 0 ++ [0, 0, 0, 0, 0, 0, 0, 0]), pids := [7], st := .configuring, exch := .check })], hasTable := true } }).ringStore 1 1000000000 ⟨336465920, true, false, 8, true, true, false, [0, 0, 0, 0, 0, 0, 0, 0]⟩ false 0, by decide +kernel⟩,
   ⟨1, { ts := 1000000000, kind := .cfgAck, addr := 3, group := 0, data := [0, 0, 0, 0, 0, 0, 0, 0] }, { serial := 0x0A0B0C0D0E0F, image := (List.replicate 3 (0 : Byte) ++ [1] ++ List.replicate 60 0 ++ [0, 0, 0, 0, 0, 0, 0, 0]), pids := [7], st := .configuring, exch := .commit }, ({ ((((((State.reset.fput (F.CAN_STATE_STATE 1) 2).fput F.FNET_SYNC_CFG_CH_EN 2)).fput (F.HDR_ENABLE 17) 1).fput (F.HDR_ENABLE 20) 1).fput (F.HDR_ENABLE 21) 1) with mfp := { stations := [(259, { serial := 0x0A0B0C0D0E0F, image := (List.replicate 3 (0 : Byte) ++ [1] ++ List.replicate 60 0 ++ [0, 0, 0, 0, 0, 0, 0, 0]), pids := [7], st := .configuring, exch := .commit })], hasTable := true } }).ringStore 1 1000000000 ⟨336465920, true, false, 8, true, true, false, [0, 0, 0, 0, 0, 0, 0, 0]⟩ false 0, by decide +kernel⟩,
   ⟨1, { ts := 1000000000, kind := .cfgAck, addr := 3, group := 0, data := [2, 0, 0, 0, 0, 0, 0, 0] }, { serial := 0x0A0B0C0D0E0F, image := (List.replicate 3 (0 : Byte) ++ [1] ++ List.replicate 60 0 ++ [0, 0, 0, 0, 0, 0, 0, 0]), pids := [7], st := .configuring, exch := .commit, attempts := 1 }, ({ ((((((State.reset.fput (F.CAN_STATE_STATE 1) 2).fput F.FNET_SYNC_CFG_CH_EN 2)).fput (F.HDR_ENABLE 17) 1).fput (F.HDR_ENABLE 20) 1).fput (F.HDR_ENABLE 21) 1) with mfp := { stations := [(259, { serial := 0x0A0B0C0D0E0F, image := (List.replicate 3 (0 : Byte) ++ [1] ++ List.replicate 60 0 ++ [0, 0, 0, 0, 0, 0, 0, 0]), pids := [7], st := .configuring, exch := .commit, attempts := 1 })], hasTable := true } }).ringStore 1 1000000000 ⟨336465920, true, false, 8, true, true, false, [2, 0, 0, 0, 0, 0, 0, 0]⟩ false 0, by decide +kernel⟩,
   ⟨1, { ts := 1000000000, kind := .cfgAck, addr := 3, group := 0, data := [0, 0, 0, 0, 0, 0, 0, 0] }, { serial := 0x0A0B0C0D0E0F, image := (List.replicate 3 (0 : Byte) ++ [1] ++ List.replicate 60 0 ++ [0, 0, 0, 0, 0, 0, 0, 0]), pids := [7], st := .rejoining }, ({ ((((((State.reset.fput (F.CAN_STATE_STATE 1) 2).fput F.FNET_SYNC_CFG_CH_EN 2)).fput (F.HDR_ENABLE 17) 1).fput (F.HDR_ENABLE 20) 1).fput (F.HDR_ENABLE 21) 1) with mfp := { stations := [(259, { serial := 0x0A0B0C0D0E0F, image := (List.replicate 3 (0 : Byte) ++ [1] ++ List.replicate 60 0 ++ [0, 0, 0, 0, 0, 0, 0, 0]), pids := [7], st := .rejoining })], hasTable := true } }).ringStore 1 1000000000 ⟨336465920, true, false, 8, true, true, false, [0, 0, 0, 0, 0, 0, 0, 0]⟩ false 0, by decide +kernel⟩,
   ⟨1, { ts := 1000000000, kind := .initReport, addr := 3, group := 0, data := [232, 3, 128, 1, 0, 0, 0, 0, 0, 0, 5, 0] }, { serial := 0x0A0B0C0D0E0F, image := (List.replicate 3 (0 : Byte) ++ [1] ++ List.replicate 60 0 ++ [0, 0, 0, 0, 0, 0, 0, 0]), pids := [7], st := .configuring, exch := .initWait }, ({ ((((((State.reset.fput (F.CAN_STATE_STATE 1) 2).fput F.FNET_SYNC_CFG_CH_EN 2)).fput (F.HDR_ENABLE 17) 1).fput (F.HDR_ENABLE 20) 1).fput (F.HDR_ENABLE 21) 1) with mfp := { stations := [(259, { serial := 0x0A0B0C0D0E0F, image := (List.replicate 3 (0 : Byte) ++ [1] ++ List.replicate 60 0 ++ [0, 0, 0, 0, 0, 0, 0, 0]), pids := [7], st := .configuring, exch := .initWait })], hasTable := true } }).ringStore 1 1000000000 ⟨336478208, true, false, 9, true, true, false, [232, 3, 128, 1, 0, 0, 0, 0, 0, 0, 5, 0]⟩ false 0, by decide +kernel⟩,
   ⟨1, 3, { serial := 0x0A0B0C0D0E0F, image := (List.replicate 3 (0 : Byte) ++ [1] ++ List.replicate 60 0 ++ [0, 0, 0, 0, 0, 0, 0, 0]), pids := [7], st := .configuring, sent := true, attempts := 2 }, { ((((((State.reset.fput (F.CAN_STATE_STATE 1) 2).fput F.FNET_SYNC_CFG_CH_EN 2)).fput (F.HDR_ENABLE 17) 1).fput (F.HDR_ENABLE 20) 1).fput (F.HDR_ENABLE 21) 1) with mfp := { stations := [(259, { serial := 0x0A0B0C0D0E0F, image := (List.replicate 3 (0 : Byte) ++ [1] ++ List.replicate 60 0 ++ [0, 0, 0, 0, 0, 0, 0, 0]), pids := [7], st := .configuring, sent := true, attempts := 2 })], hasTable := true } }, by decide +kernel⟩,
   ⟨1, 3, { serial := 0x0A0B0C0D0E0F, image := (List.replicate 3 (0 : Byte) ++ [1] ++ List.replicate 60 0 ++ [0, 0, 0, 0, 0, 0, 0, 0]), pids := [7], st := .rejoining, sent := true, outTries := 2 }, { ((((((State.reset.fput (F.CAN_STATE_STATE 1) 2).fput F.FNET_SYNC_CFG_CH_EN 2)).fput (F.HDR_ENABLE 17) 1).fput (F.HDR_ENABLE 20) 1).fput (F.HDR_ENABLE 21) 1) with mfp := { stations := [(259, { serial := 0x0A0B0C0D0E0F, image := (List.replicate 3 (0 : Byte) ++ [1] ++ List.replicate 60 0 ++ [0, 0, 0, 0, 0, 0, 0, 0]), pids := [7], st := .rejoining, sent := true, outTries := 2 })], hasTable := true } }, by decide +kernel⟩⟩

theorem test_meets_ScanStart :
    (∃ (s : State), s.awake = true ∧ s.iosSends = true ∧ s.mfp.hasTable = true ∧ s.mfp.startCycle = none ∧
      s.mfp.stations.all (fun e => e.2.st == .ready) = true) ∧
    (∃ (ns : Nat) (s : State), s.awake = true ∧ s.iosSends = true ∧ s.mfp.startCycle = some ns) ∧
    (∃ (s : State), s.awake = true ∧ s.iosSends = true ∧ s.mfp.hasTable = true ∧ s.fset F.IOS_STAT_TIMEOUT = false ∧
      s.fset F.IOS_STAT_IMAGE_FULL = false ∧ s.mfp.startCycle = none) ∧
    (∃ (s : State), s.awake = true ∧ s.iosSends = true) ∧
    (∃ (k : Nat) (x : Stn) (s : State), s.awake = true ∧ s.iosSends = true ∧ s.mfp.stations = [(k, x)] ∧ x.st = .present ∧
      x.stdFrom ≤ max s.mfp.stdCycle ((s.now - 1000000) / 50000000) ∧ x.seenStd = [] ∧ x.missed = 2) :=
  ⟨⟨{ ((((((State.reset.fput (F.CAN_STATE_STATE 1) 2).fput F.FNET_SYNC_CFG_CH_EN 2)).fput (F.HDR_ENABLE 17) 1).fput (F.HDR_ENABLE 20) 1).fput (F.HDR_ENABLE 21) 1) with mfp := { stations := [(259, { serial := 0x0A0B0C0D0E0F, image := (List.replicate 3 (0 : Byte) ++ [1] ++ List.replicate 60 0 ++ [0, 0, 0, 0, 0, 0, 0, 0]), pids := [7], st := .ready })], hasTable := true } }, by decide +kernel⟩,
   ⟨5, { ((((((State.reset.fput (F.CAN_STATE_STATE 1) 2).fput F.FNET_SYNC_CFG_CH_EN 2)).fput (F.HDR_ENABLE 17) 1).fput (F.HDR_ENABLE 20) 1).fput (F.HDR_ENABLE 21) 1) with mfp := { stations := [(259, { serial := 0x0A0B0C0D0E0F, image := (List.replicate 3 (0 : Byte) ++ [1] ++ List.replicate 60 0 ++ [0, 0, 0, 0, 0, 0, 0, 0]), pids := [7], st := .ready })], hasTable := true, startCycle := some 5 } }, by decide +kernel⟩,
   ⟨{ ((((((State.reset.fput (F.CAN_STATE_STATE 1) 2).fput F.FNET_SYNC_CFG_CH_EN 2)).fput (F.HDR_ENABLE 17) 1).fput (F.HDR_ENABLE 20) 1).fput (F.HDR_ENABLE 21) 1) with mfp := { stations := [(259, { serial := 0x0A0B0C0D0E0F, image := (List.replicate 3 (0 : Byte) ++ [1] ++ List.replicate 60 0 ++ [0, 0, 0, 0, 0, 0, 0, 0]), pids := [7], st := .absent })], hasTable := true } }, by decide +kernel⟩,
   ⟨{ ((((((State.reset.fput (F.CAN_STATE_STATE 1) 2).fput F.FNET_SYNC_CFG_CH_EN 2)).fput (F.HDR_ENABLE 17) 1).fput (F.HDR_ENABLE 20) 1).fput (F.HDR_ENABLE 21) 1) with mfp := { stations := [(259, { serial := 0x0A0B0C0D0E0F, image := (List.replicate 3 (0 : Byte) ++ [1] ++ List.replicate 60 0 ++ [0, 0, 0, 0, 0, 0, 0, 0]), pids := [7], st := .present })], hasTable := true } }, by decide +kernel⟩,
   ⟨259, { serial := 0x0A0B0C0D0E0F, image := (List.replicate 3 (0 : Byte) ++ [1] ++ List.replicate 60 0 ++ [0, 0, 0, 0, 0, 0, 0, 0]), pids := [7], st := .present, missed := 2 }, { ((((((State.reset.fput (F.CAN_STATE_STATE 1) 2).fput F.FNET_SYNC_CFG_CH_EN 2)).fput (F.HDR_ENABLE 17) 1).fput (F.HDR_ENABLE 20) 1).fput (F.HDR_ENABLE 21) 1) with mfp := { stations := [(259, { serial := 0x0A0B0C0D0E0F, image := (List.replicate 3 (0 : Byte) ++ [1] ++ List.replicate 60 0 ++ [0, 0, 0, 0, 0, 0, 0, 0]), pids := [7], st := .present, missed := 2 })], hasTable := true } }, by decide +kernel⟩⟩

theorem test_meets_StationInputs :
    (∃ (ch : Fin 4) (h : Heard) (c : Nat) (x : Stn) (rc : Nat) (s : State), s.awake = true ∧ s.iosRuns = true ∧ s.headFrame ch = some h ∧
      h.kind = .input c ∧ (s.headTaken ch).stn (heardKey ch h) = some x ∧ x.st = .present ∧
      seqFresh c h.ts (fullCycle h.ts (leOf h.data 0 2)) = true ∧ byteOf h.data 3 = 1 ∧ (recsOf x.image c false)[24 * h.group]? = some rc ∧
      (s.point (x.pids.getD rc 0)).written = false) ∧
    (∃ (ch : Fin 4) (h : Heard) (c : Nat) (x : Stn) (s : State), s.awake = true ∧ s.iosRuns = true ∧ s.headFrame ch = some h ∧ h.kind = .input c ∧
      (s.headTaken ch).stn (heardKey ch h) = some x ∧ x.st = .present ∧ seqFresh c h.ts (fullCycle h.ts (leOf h.data 0 2)) = false) ∧
    (∃ (ch : Fin 4) (h : Heard) (x : Stn) (s : State), s.awake = true ∧ s.iosRuns = true ∧ s.headFrame ch = some h ∧ h.kind = .cos ∧
      (s.headTaken ch).stn (heardKey ch h) = some x ∧ x.st = .present ∧ byteOf h.data 0 = 1 ∧ byteOf h.data 4 < recCount x.image ∧
      recOut x.image (byteOf h.data 4) = false ∧ (s.point (x.pids.getD (byteOf h.data 4) 0)).written = false) ∧
    (∃ (ch : Fin 4) (h : Heard) (x : Stn) (s : State), s.awake = true ∧ s.iosRuns = true ∧ s.headFrame ch = some h ∧ h.kind = .alarm ∧
      (s.headTaken ch).stn (heardKey ch h) = some x ∧ x.st = .present) :=
  ⟨⟨1, { ts := 1000000000, kind := .input 0, addr := 3, group := 0, data := [232, 3, 0, 1, 0, 0, 0, 0, 0, 0, 57, 48] }, 0, { serial := 0x0A0B0C0D0E0F, image := (List.replicate 3 (0 : Byte) ++ [1] ++ List.replicate 60 0 ++ [0, 0, 0, 0, 0, 0, 0, 0]), pids := [7], st := .present }, 0, ({ ((((((State.reset.fput (F.CAN_STATE_STATE 1) 2).fput F.FNET_SYNC_CFG_CH_EN 2)).fput (F.HDR_ENABLE 17) 1).fput (F.HDR_ENABLE 20) 1).fput (F.HDR_ENABLE 21) 1) with mfp := { stations := [(259, { serial := 0x0A0B0C0D0E0F, image := (List.replicate 3 (0 : Byte) ++ [1] ++ List.replicate 60 0 ++ [0, 0, 0, 0, 0, 0, 0, 0]), pids := [7], st := .present })], hasTable := true } }).ringStore 1 1000000000 ⟨68026368, true, false, 9, true, true, false, [232, 3, 0, 1, 0, 0, 0, 0, 0, 0, 57, 48]⟩ false 0, by decide +kernel⟩,
   ⟨1, { ts := 1000000000, kind := .input 0, addr := 3, group := 0, data := [227, 3, 0, 1, 0, 0, 0, 0, 0, 0, 57, 48] }, 0, { serial := 0x0A0B0C0D0E0F, image := (List.replicate 3 (0 : Byte) ++ [1] ++ List.replicate 60 0 ++ [0, 0, 0, 0, 0, 0, 0, 0]), pids := [7], st := .present }, ({ ((((((State.reset.fput (F.CAN_STATE_STATE 1) 2).fput F.FNET_SYNC_CFG_CH_EN 2)).fput (F.HDR_ENABLE 17) 1).fput (F.HDR_ENABLE 20) 1).fput (F.HDR_ENABLE 21) 1) with mfp := { stations := [(259, { serial := 0x0A0B0C0D0E0F, image := (List.replicate 3 (0 : Byte) ++ [1] ++ List.replicate 60 0 ++ [0, 0, 0, 0, 0, 0, 0, 0]), pids := [7], st := .present })], hasTable := true } }).ringStore 1 1000000000 ⟨68026368, true, false, 9, true, true, false, [227, 3, 0, 1, 0, 0, 0, 0, 0, 0, 57, 48]⟩ false 0, by decide +kernel⟩,
   ⟨1, { ts := 1000000000, kind := .cos, addr := 3, group := 0, data := [1, 0, 0, 0, 0, 0, 57, 48, 232, 3, 100, 0] }, { serial := 0x0A0B0C0D0E0F, image := (List.replicate 3 (0 : Byte) ++ [1] ++ List.replicate 60 0 ++ [0, 0, 0, 0, 0, 0, 0, 0]), pids := [7], st := .present }, ({ ((((((State.reset.fput (F.CAN_STATE_STATE 1) 2).fput F.FNET_SYNC_CFG_CH_EN 2)).fput (F.HDR_ENABLE 17) 1).fput (F.HDR_ENABLE 20) 1).fput (F.HDR_ENABLE 21) 1) with mfp := { stations := [(259, { serial := 0x0A0B0C0D0E0F, image := (List.replicate 3 (0 : Byte) ++ [1] ++ List.replicate 60 0 ++ [0, 0, 0, 0, 0, 0, 0, 0]), pids := [7], st := .present })], hasTable := true } }).ringStore 1 1000000000 ⟨135135232, true, false, 9, true, true, false, [1, 0, 0, 0, 0, 0, 57, 48, 232, 3, 100, 0]⟩ false 0, by decide +kernel⟩,
   ⟨1, { ts := 1000000000, kind := .alarm, addr := 3, group := 0, data := [1, 0, 255, 1, 232, 3, 0, 0] }, { serial := 0x0A0B0C0D0E0F, image := (List.replicate 3 (0 : Byte) ++ [1] ++ List.replicate 60 0 ++ [0, 0, 0, 0, 0, 0, 0, 0]), pids := [7], st := .present }, ({ ((((((State.reset.fput (F.CAN_STATE_STATE 1) 2).fput F.FNET_SYNC_CFG_CH_EN 2)).fput (F.HDR_ENABLE 17) 1).fput (F.HDR_ENABLE 20) 1).fput (F.HDR_ENABLE 21) 1) with mfp := { stations := [(259, { serial := 0x0A0B0C0D0E0F, image := (List.replicate 3 (0 : Byte) ++ [1] ++ List.replicate 60 0 ++ [0, 0, 0, 0, 0, 0, 0, 0]), pids := [7], st := .present })], hasTable := true } }).ringStore 1 1000000000 ⟨135139328, true, false, 8, true, true, false, [1, 0, 255, 1, 232, 3, 0, 0]⟩ false 0, by decide +kernel⟩⟩

theorem test_meets_ScanOutputs :
    (∃ (ch : Fin 4) (frame : Nat) (ns : Nat) (f : OutSlot) (s : State), s.awake = true ∧ s.iosSends = true ∧ s.mfp.startCycle = some ns ∧
      (s.mfp.outs.toList.getD ch [])[frame]? = some f) ∧
    (∃ (req : Req) (e : Word) (l : List Word) (s : State), s.awake = true ∧ s.opens req R.IOS_EVT = true ∧ s.mfp.events = e :: l) ∧
    (∃ (req : Req) (s : State), s.awake = true ∧ s.opens req R.IOS_EVT = true ∧ s.mfp.events = []) ∧
    (∃ (ch : Fin 4) (g : Staging) (x : Stn) (s : State), s.awake = true ∧ s.staging = true ∧ s.stageOn ch = some g ∧ g.phase = .waiting ∧
      s.stn (stnKey g.ch g.addr) = some x ∧ x.st = .present) ∧
    (∃ (ch : Fin 4) (h : Heard) (x : Stn) (g : Staging) (s : State), s.awake = true ∧ s.iosRuns = true ∧ s.headFrame ch = some h ∧ h.kind = .fwAck ∧
      (s.headTaken ch).stn (heardKey ch h) = some x ∧ x.st = .present ∧ (s.headTaken ch).staging = true ∧ (s.headTaken ch).stageOn ch = some g ∧
      g.addr = h.addr ∧ g.phase = .data ∧ (s.headTaken ch).stageLost g = false ∧ leOf h.data 0 4 < g.length) ∧
    (∃ (ch : Fin 4) (h : Heard) (x : Stn) (g : Staging) (s : State), s.awake = true ∧ s.iosRuns = true ∧ s.headFrame ch = some h ∧
      h.kind = .fwStat ∧ (s.headTaken ch).stn (heardKey ch h) = some x ∧ x.st = .present ∧ (s.headTaken ch).staging = true ∧
      (s.headTaken ch).stageOn ch = some g ∧ g.addr = h.addr ∧ g.phase = .begun ∧ (s.headTaken ch).stageLost g = false ∧ byteOf h.data 0 = 1) :=
  ⟨⟨1, 0, 3, { cls := 1, addr := 0, group := 0, slotUs := 400 }, { ((((((State.reset.fput (F.CAN_STATE_STATE 1) 2).fput F.FNET_SYNC_CFG_CH_EN 2)).fput (F.HDR_ENABLE 17) 1).fput (F.HDR_ENABLE 20) 1).fput (F.HDR_ENABLE 21) 1) with mfp := { startCycle := some 3, outs := (Vector.replicate 4 ([] : List OutSlot)).set 1 [{ cls := 1, addr := 0, group := 0, slotUs := 400 }] } }, by decide +kernel⟩,
   ⟨.ac0, 0x80000103, [], { State.reset with mfp := { events := [0x80000103] } }, by decide +kernel⟩,
   ⟨.ac1, State.reset, by decide +kernel⟩,
   ⟨1, { ch := 1, addr := 3, stype := 5, version := 9, part := 0, length := 120, phase := .waiting }, { serial := 0x0A0B0C0D0E0F, image := (List.replicate 3 (0 : Byte) ++ [1] ++ List.replicate 60 0 ++ [0, 0, 0, 0, 0, 0, 0, 0]), pids := [7], st := .present }, { ({ ((((((State.reset.fput (F.CAN_STATE_STATE 1) 2).fput F.FNET_SYNC_CFG_CH_EN 2)).fput (F.HDR_ENABLE 17) 1).fput (F.HDR_ENABLE 20) 1).fput (F.HDR_ENABLE 21) 1) with mfp := { stations := [(259, { serial := 0x0A0B0C0D0E0F, image := (List.replicate 3 (0 : Byte) ++ [1] ++ List.replicate 60 0 ++ [0, 0, 0, 0, 0, 0, 0, 0]), pids := [7], st := .present })], hasTable := true } }).fput F.UPD_STAT_STATE 2 with upd := { stations := [{ ch := 1, addr := 3, stype := 5, version := 9, part := 0, length := 120, phase := .waiting }] } }, by decide +kernel⟩,
   ⟨1, { ts := 1000000000, kind := .fwAck, addr := 3, group := 0, data := [60, 0, 0, 0, 0, 0, 0, 0] }, { serial := 0x0A0B0C0D0E0F, image := (List.replicate 3 (0 : Byte) ++ [1] ++ List.replicate 60 0 ++ [0, 0, 0, 0, 0, 0, 0, 0]), pids := [7], st := .present }, { ch := 1, addr := 3, stype := 5, version := 9, part := 0, length := 120, phase := .data }, ({ ({ ((((((State.reset.fput (F.CAN_STATE_STATE 1) 2).fput F.FNET_SYNC_CFG_CH_EN 2)).fput (F.HDR_ENABLE 17) 1).fput (F.HDR_ENABLE 20) 1).fput (F.HDR_ENABLE 21) 1) with mfp := { stations := [(259, { serial := 0x0A0B0C0D0E0F, image := (List.replicate 3 (0 : Byte) ++ [1] ++ List.replicate 60 0 ++ [0, 0, 0, 0, 0, 0, 0, 0]), pids := [7], st := .present })], hasTable := true } }).fput F.UPD_STAT_STATE 2 with upd := { stations := [{ ch := 1, addr := 3, stype := 5, version := 9, part := 0, length := 120, phase := .data }] } }).ringStore 1 1000000000 ⟨470683648, true, false, 8, true, true, false, [60, 0, 0, 0, 0, 0, 0, 0]⟩ false 0, by decide +kernel⟩,
   ⟨1, { ts := 1000000000, kind := .fwStat, addr := 3, group := 0, data := [1, 0, 0, 0, 0, 0, 0, 0] }, { serial := 0x0A0B0C0D0E0F, image := (List.replicate 3 (0 : Byte) ++ [1] ++ List.replicate 60 0 ++ [0, 0, 0, 0, 0, 0, 0, 0]), pids := [7], st := .present }, { ch := 1, addr := 3, stype := 5, version := 9, part := 0, length := 120, phase := .begun }, ({ ({ ((((((State.reset.fput (F.CAN_STATE_STATE 1) 2).fput F.FNET_SYNC_CFG_CH_EN 2)).fput (F.HDR_ENABLE 17) 1).fput (F.HDR_ENABLE 20) 1).fput (F.HDR_ENABLE 21) 1) with mfp := { stations := [(259, { serial := 0x0A0B0C0D0E0F, image := (List.replicate 3 (0 : Byte) ++ [1] ++ List.replicate 60 0 ++ [0, 0, 0, 0, 0, 0, 0, 0]), pids := [7], st := .present })], hasTable := true } }).fput F.UPD_STAT_STATE 2 with upd := { stations := [{ ch := 1, addr := 3, stype := 5, version := 9, part := 0, length := 120, phase := .begun }] } }).ringStore 1 1000000000 ⟨470691840, true, false, 8, true, true, false, [1, 0, 0, 0, 0, 0, 0, 0]⟩ false 0, by decide +kernel⟩⟩

theorem test_meets_TaskReleases :
    (∃ (n : Fin 16) (s : State), s.live = true ∧ s.fset (F.TASK_TCFG_EN n) = true ∧ (s.reach (s.nextInstant n)).stepDue = false ∧
      (s.task n).clearAtPub = false ∧ (s.reach (s.nextInstant n)).dueOf n = .release ∧ (s.task n).holdUntil ≤ (s.reach (s.nextInstant n)).monoNow ∧
      s.untested (taskArea n) = true) ∧
    (∃ (n : Fin 16) (s : State), s.live = true ∧ s.fset (F.TASK_TCFG_EN n) = true ∧ (s.reach (s.nextInstant n)).stepDue = false ∧
      (s.task n).clearAtPub = false ∧ (s.reach (s.nextInstant n)).dueOf n = .overrun) ∧
    (∃ (n : Fin 16) (s : State), s.live = true ∧ s.fset (F.TASK_TCFG_EN n) = true ∧ (s.reach (s.nextInstant n)).stepDue = false ∧
      (s.task n).clearAtPub = false ∧ ((s.reach (s.nextInstant n)).dueOf n = .skip ∨ (s.reach (s.nextInstant n)).dueOf n = .held)) ∧
    (∃ (g : Trig) (l : List Trig) (n : Nat) (s : State), s.awake = true ∧ s.trigs = g :: l ∧ g.tasks = [n] ∧ (s.task n).st = .latching ∧ n < 48 ∧
      s.untested (taskArea n) = true) ∧
    (∃ (n : Fin 48) (s : State), s.awake = true ∧ s.latchEngineAt n = true ∧ s.untested (taskArea n + 0x100) = true ∧ (s.task n).snap.length ≤ 1024) ∧
    (∃ (n : Fin 48) (s : State), s.awake = true ∧ (s.task n).st.busy = true ∧ (s.task n).budget ≠ 0 ∧ (s.task n).budgetHit = false) ∧
    (∃ (req : Req) (k : Fin 32) (s : State), s.awake = true ∧ s.opens req R.TASK_SW_TRIG = true ∧ s.fset (F.TASK_TCFG_EN (k.val + 16)) = true ∧
      s.fget (F.TASK_TRIG_KIND (k.val + 16)) = 6 ∧ (s.task (k.val + 16)).enAt ≠ some s.cyc ∧ s.dueOf (k.val + 16) = .release) :=
  ⟨⟨3, { ((((((State.reset.fput (F.HDR_ENABLE 22) 1).fput F.TASK_STAT_RELEASE_OK 1).fput F.BEL_ROLE_ROLE 0).fput (F.TASK_TCFG_EN 3) 1).fput (F.TASK_PERIOD_MS 3) 10).fput (F.TASK_OFFSET_US 3) 500) with tasks := [(3, { st := .waiting, first := true })] }, by decide +kernel⟩,
   ⟨3, { ((((((State.reset.fput (F.HDR_ENABLE 22) 1).fput F.TASK_STAT_RELEASE_OK 1).fput F.BEL_ROLE_ROLE 0).fput (F.TASK_TCFG_EN 3) 1).fput (F.TASK_PERIOD_MS 3) 10).fput (F.TASK_OFFSET_US 3) 500) with tasks := [(3, { st := .running })] }, by decide +kernel⟩,
   ⟨3, { { ((((((State.reset.fput (F.HDR_ENABLE 22) 1).fput F.TASK_STAT_RELEASE_OK 1).fput F.BEL_ROLE_ROLE 0).fput (F.TASK_TCFG_EN 3) 1).fput (F.TASK_PERIOD_MS 3) 10).fput (F.TASK_OFFSET_US 3) 500) with tasks := [(3, { st := .waiting })] } with ochg := { held := true } }, by decide +kernel⟩,
   ⟨⟨6, 4, 0, false, 77, 70, [20]⟩, [], 20, { { (((((State.reset.fput (F.HDR_ENABLE 22) 1).fput F.TASK_STAT_RELEASE_OK 1).fput F.BEL_ROLE_ROLE 0).fput (F.TASK_TCFG_EN 20) 1).fput (F.TASK_TRIG_KIND 20) 6) with tasks := [(20, { st := .latching })] } with trigs := [⟨6, 4, 0, false, 77, 70, [20]⟩] }, by decide +kernel⟩,
   ⟨3, { ((((State.reset.fput (F.HDR_ENABLE 22) 1).fput F.TASK_STAT_RELEASE_OK 1).fput F.BEL_ROLE_ROLE 0).fput (F.TASK_TCFG_EN 3) 1) with tasks := [(3, { st := .latching, relTime := 123456, cycle := 5, first := true, snap := [7] })] }, by decide +kernel⟩,
   ⟨3, { ((((State.reset.fput (F.HDR_ENABLE 22) 1).fput F.TASK_STAT_RELEASE_OK 1).fput F.BEL_ROLE_ROLE 0).fput (F.TASK_TCFG_EN 3) 1) with tasks := [(3, { st := .running, budget := 10 })] }, by decide +kernel⟩,
   ⟨.ac0, 4, { (((((State.reset.fput (F.HDR_ENABLE 22) 1).fput F.TASK_STAT_RELEASE_OK 1).fput F.BEL_ROLE_ROLE 0).fput (F.TASK_TCFG_EN 20) 1).fput (F.TASK_TRIG_KIND 20) 6) with tasks := [(20, { st := .waiting })] }, by decide +kernel⟩⟩

theorem test_meets_TaskService :
    (∃ (req : Req) (c : Fin 2) (n : Nat) (s : State), s.awake = true ∧ s.opens req (dispatchKey c) = true ∧ s.dispatchable c = some n) ∧
    (∃ (req : Req) (c : Fin 2) (s : State), s.awake = true ∧ s.opens req (dispatchKey c) = true ∧ s.dispatchable c = none) ∧
    (∃ (req : Req) (c : Fin 2) (n : BitVec 6) (s : State), s.awake = true ∧ s.opens req (commitKey c) = true ∧ s.runningTask c = some n.toNat) ∧
    (∃ (req : Req) (c : Fin 2) (n : BitVec 6) (s : State), s.awake = true ∧ s.opens req (commitKey c) = true ∧ s.runningTask c ≠ some n.toNat) ∧
    (∃ (n : Fin 48) (p : Nat) (q : Nat) (v : Word) (s : State), s.awake = true ∧ (s.task n).st = .committing ∧ s.publishEntries n = [(p, v, q)] ∧
      s.forceOn p = none ∧ s.pointBad p = false ∧ s.untested (pointAddr p) = true) ∧
    (∃ (req : Req) (n : Fin 48) (s : State), s.awake = true ∧ s.opens req (R.TASK_TCFG n) = true ∧ s.fset (F.TASK_TCFG_EN n) = false ∧
      s.taskValid n = true ∧ (s.task n).st = .disabled) ∧
    (∃ (req : Req) (n : Fin 48) (s : State), s.awake = true ∧ s.opens req (R.TASK_TCFG n) = true ∧ s.fset (F.TASK_TCFG_EN n) = false ∧
      s.taskValid n = false) ∧
    (∃ (req : Req) (n : Fin 48) (s : State), s.awake = true ∧ s.opens req (R.TASK_TCFG n) = true) :=
  ⟨⟨.ac0, 0, 3, { ((((State.reset.fput (F.HDR_ENABLE 22) 1).fput F.TASK_STAT_RELEASE_OK 1).fput F.BEL_ROLE_ROLE 0).fput (F.TASK_TCFG_EN 3) 1) with tasks := [(3, { st := .released })] }, by decide +kernel⟩,
   ⟨.ac1, 1, State.reset, by decide +kernel⟩,
   ⟨.ac0, 0, 3, { { ((((State.reset.fput (F.HDR_ENABLE 22) 1).fput F.TASK_STAT_RELEASE_OK 1).fput F.BEL_ROLE_ROLE 0).fput (F.TASK_TCFG_EN 3) 1) with tasks := [(3, { st := .running })] } with running := #v[[3], []] }, by decide +kernel⟩,
   ⟨.ac0, 1, 3, State.reset, by decide +kernel⟩,
   ⟨3, 4100, 0, 0x63, { (({ ((((State.reset.fput (F.HDR_ENABLE 22) 1).fput F.TASK_STAT_RELEASE_OK 1).fput F.BEL_ROLE_ROLE 0).fput (F.TASK_TCFG_EN 3) 1) with tasks := [(3, { st := .committing, written := [0] })] }).fput (F.TASK_LISTS_N_OUT 3) 1).setLe 0x1085C900 2 4100 |>.setLe 0x1085A100 8 0x63 with running := #v[[3], []], points := [(4100, { src := .task 3, isOut := true })] }, by decide +kernel⟩,
   ⟨.ac0, 4, (State.reset.fput (F.TASK_PERIOD_MS 4) 10), by decide +kernel⟩,
   ⟨.ac0, 20, State.reset, by decide +kernel⟩,
   ⟨.ac1, 3, { ((((State.reset.fput (F.HDR_ENABLE 22) 1).fput F.TASK_STAT_RELEASE_OK 1).fput F.BEL_ROLE_ROLE 0).fput (F.TASK_TCFG_EN 3) 1) with tasks := [(3, { st := .released })] }, by decide +kernel⟩⟩

theorem test_meets_ImageAndForces :
    (∃ (pid : Nat) (s : State), s.awake = true ∧ pid < pointCount) ∧
    (∃ (req : Req) (entry : Fin 512) (w : Word64) (s : State), s.awake = true ∧ s.forceGrant req = true ∧ s.ochg.st = .idle ∧ forceEn w = true ∧
      forcePid w < pointCount ∧ (s.point (forcePid w)).src ≠ .none ∧ s.forceOn (forcePid w) = none ∧ (s.force entry).status ≠ .active) ∧
    (∃ (req : Req) (entry : Fin 512) (w : Word64) (s : State), s.awake = true ∧ s.forceGrant req = true ∧ s.ochg.st = .idle ∧ forceEn w = true ∧
      forcePid w < pointCount ∧ (s.point (forcePid w)).src ≠ .none ∧ s.forceOn (forcePid w) ≠ none ∧ (s.force entry).status ≠ .active) ∧
    (∃ (req : Req) (entry : Fin 512) (w : Word64) (s : State), s.awake = true ∧ s.forceGrant req = true ∧ s.ochg.st = .idle ∧ forceEn w = false ∧
      (s.force entry).status = .active) ∧
    (∃ (req : Req) (s : State), s.awake = true ∧ s.forceGrant req = true ∧ (s.ochg.st = .switching ∨ s.ochg.st = .copied)) ∧
    (∃ (req : Req) (s : State), s.awake = true ∧ s.forceGrant req = false) :=
  ⟨⟨4100, { State.reset with mono := 0x1000000000000000000, points := [(4100, { src := .task 3, isOut := true, value := 5, q := 0, written := true })] }, by decide +kernel⟩,
   ⟨.ac0, 4, 0x6300011004, { (((State.reset.fput (F.HDR_ENABLE 0) 1).fput (F.HDR_ENABLE 22) 1)) with points := [(4100, { src := .task 3, isOut := true, value := 5, q := 0, written := true })] }, by decide +kernel⟩,
   ⟨.ac1, 5, 0x6300011004, { (((State.reset.fput (F.HDR_ENABLE 0) 1).fput (F.HDR_ENABLE 22) 1)) with forces := [(4, { word0 := 0x630000000000011004, status := .active, pid := 4100, value := 99, q := 0 })], points := [(4100, { src := .task 3, isOut := true, value := 5, q := 0, written := true })] }, by decide +kernel⟩,
   ⟨.ac1, 4, 0x6300001004, { (((State.reset.fput (F.HDR_ENABLE 0) 1).fput (F.HDR_ENABLE 22) 1)) with forces := [(4, { word0 := 0x630000000000011004, status := .active, pid := 4100, value := 99, q := 0 })], points := [(4100, { src := .task 3, isOut := true, value := 5, q := 0, written := true })] }, by decide +kernel⟩,
   ⟨.ac0, { State.reset with ochg := { st := .switching } }, by decide +kernel⟩,
   ⟨.ac2, State.reset, by decide +kernel⟩⟩

theorem test_meets_OnlineChange :
    (∃ (core : Fin 4) (sigOk : Bool) (digestOk : Bool) (partnerOk : Bool) (s : State), s.awake = true ∧ s.upd.hold = false ∧
      s.fset (F.ANC_RSP_BUSY core) = false ∧ s.trust.otp.decom = false ∧ s.coreComp0 core = true ∧ s.ochg.st = .idle ∧ s.updBusy = false ∧
      blockOk (s.bytesAt (mboxBuf core + 64) 16) s.programKey sigOk = true ∧ s.progHeaderOk (s.bytesAt (mboxBuf core) 64) digestOk = true ∧
      s.pkgFail s.spareBase = none ∧ (s.paired = true → s.fget F.BEL_ROLE_PAIR = 3 ∧ partnerOk = true) ∧
      s.ecc.all (fun e => eccInst e.1 != some 5) = true) ∧
    (∃ (core : Fin 4) (s : State), s.awake = true ∧ s.upd.hold = false ∧ s.fset (F.ANC_RSP_BUSY core) = false ∧ s.trust.otp.decom = false ∧
      s.coreComp0 core = true ∧ (s.ochg.st ≠ .idle ∨ s.updBusy = true) ∧ s.ecc.all (fun e => eccInst e.1 != some 5) = true) ∧
    (∃ (core : Fin 4) (s : State), s.awake = true ∧ s.upd.hold = false ∧ s.fset (F.ANC_RSP_BUSY core) = false ∧ s.trust.otp.decom = false ∧
      s.coreComp0 core = true ∧ s.ochg.st = .armed ∧ s.gapHere = false ∧ s.ecc.all (fun e => eccInst e.1 != some 5) = true) ∧
    (∃ (s : State), s.awake = true ∧ s.ochg.st = .armed ∧ s.ochg.core < 4 ∧ (s.reachMono s.ochg.limit).gapHere = false) ∧
    (∃ (s : State), s.awake = true ∧ s.ochg.st = .armed ∧ s.gapHere = true ∧ s.bel.swap = none ∧ s.fget F.UPD_STAT_STATE = 0) ∧
    (∃ (src : Nat) (dst : Nat) (len : Nat) (s : State), s.awake = true ∧ s.ochg.st = .switching ∧ s.pkgMaps s.spareBase = 1 ∧
      s.pkgMap s.spareBase 0 = (src, dst, len) ∧ s.pkgMapOk s.spareBase 0 = true ∧ s.pkgPchgs s.spareBase = 0 ∧ s.pkgTasks s.spareBase = false ∧
      s.ecc = [] ∧ s.untested (s.spareBase + dst) = true) ∧
    (∃ (s : State), s.awake = true ∧ s.ochg.st = .copied ∧ s.ochg.core < 4 ∧ s.ochg.heldStores = [] ∧ s.fset (F.ANC_RSP_BUSY s.ochg.core) = true) ∧
    (∃ (s : State), s.awake = true ∧ s.ochg.recordDue = true) :=
  ⟨⟨0, true, true, false, { ((((State.reset.setLe 0x10780000 2 1).setLe 0x10ED0000 2 1).setLe 0x10ED0040 4 0x02010001).setLe 0x10ED0044 4 29872) with trust := { otp := { slots := #v[0, 0, 5, 0, 0, 0] } } }, by decide +kernel⟩,
   ⟨0, { State.reset with ochg := { st := .armed } }, by decide +kernel⟩,
   ⟨1, { State.reset with ochg := { st := .armed, core := 0, changeId := 9 } }, by decide +kernel⟩,
   ⟨{ State.reset with ochg := { st := .armed, core := 0, changeId := 9 } }, by decide +kernel⟩,
   ⟨{ (State.reset.fput F.TASK_STAT_IDLE 1) with ochg := { st := .armed, testAt := some 0 } }, by decide +kernel⟩,
   ⟨0, 16, 8, { (((((State.reset.setLe 0x10780000 2 1).setLe 0x10780002 2 1).setLe 0x10780104 4 16).setLe 0x10780108 4 8).setLe 0x10000000 8 0x1122334455667788) with ochg := { st := .switching } }, by decide +kernel⟩,
   ⟨{ (((((State.reset.setLe 0x10780000 2 1).setLe 0x10ED0000 2 1).setLe 0x10ED0040 4 0x02010001).setLe 0x10ED0044 4 29872).fput (F.ANC_RSP_BUSY 0) 1) with ochg := { st := .copied, held := true, changeId := 9 } }, by decide +kernel⟩,
   ⟨{ State.reset with ochg := { recordDue := true, header := [1], block := [(2, 9)], bank := [(3, 4)] } }, by decide +kernel⟩⟩

theorem test_meets_RecorderIntake :
    (∃ (s : State), s.awake = true ∧ s.cairn.queue.length < 1024) ∧
    (∃ (s : State), s.awake = true ∧ 1024 ≤ s.cairn.queue.length) ∧
    (∃ (r : Rec) (q : List Rec) (k : Nat) (s : State), s.awake = true ∧ s.cairn.queue = r :: q ∧ s.cairn.clearMark < r.num ∧ s.freeSlot = some k) ∧
    (∃ (n : Nat) (a : Nat) (b : Nat) (sev : Nat) (s : State), s.awake = true ∧ s.cairn.queue = [] ∧ s.cairn.lost = some (n, a, b, sev)) ∧
    (∃ (s : State), s.awake = true ∧ s.fset F.CAIRN_STAT_INDEX_READY = false ∧ s.cairn.queue.length < 1024) :=
  ⟨⟨State.reset, by decide +kernel⟩,
   ⟨{ State.reset with cairn := { queue := List.replicate 1024 {} } }, by decide +kernel⟩,
   ⟨{ num := 3, cls := 0x40 }, [], 2, { State.reset with cairn := { queue := [{ num := 3, cls := 0x40 }], slots := [(1, { num := 2 })] } }, by decide +kernel⟩,
   ⟨5, 6, 7, 2, { State.reset with cairn := { lost := some (5, 6, 7, 2) } }, by decide +kernel⟩,
   ⟨State.reset, by decide +kernel⟩⟩

theorem test_meets_RecorderModes :
    (∃ (req : Req) (s : State), s.awake = true ∧ s.opens req R.CAIRN_CMD = true ∧ s.cairn.queue.length < 1024) ∧
    (∃ (req : Req) (s : State), s.awake = true ∧ s.opens req R.CAIRN_CMD = true ∧ s.fget F.CAIRN_STAT_MODE = 1 ∧
      (s.fget F.RST_LC_STAT_STATE = 0 ∨ s.fget F.RST_LC_STAT_STATE = 3)) ∧
    (∃ (req : Req) (s : State), s.awake = true ∧ s.opens req R.CAIRN_CMD = true ∧
      (s.fget F.CAIRN_STAT_MODE ≠ 1 ∨ (s.fget F.RST_LC_STAT_STATE ≠ 0 ∧ s.fget F.RST_LC_STAT_STATE ≠ 3))) ∧
    (∃ (req : Req) (s : State), s.awake = true ∧ s.opens req R.CAIRN_CMD = true ∧ s.fget F.CAIRN_STAT_MODE = 2) ∧
    (∃ (p : Nat) (x : Summary) (s : State), s.awake = true ∧ s.fset F.CAIRN_STAT_SUMMIT = true ∧ s.isActive = true ∧ s.cairn.sums = [(p, x)] ∧
      x.nEvt ≠ 0 ∧ s.cairn.queue.length < 1024 ∧ (s.reach s.cairn.sumEnd).stepDue = false) :=
  ⟨⟨.ac0, { (State.reset.wr R.CAIRN_CLEAR_TO_LO 5) with cairn := { slots := [(1, { num := 2 }), (2, { num := 9 })], nextNum := 10 } }, by decide +kernel⟩,
   ⟨.ac0, State.reset.fput F.CAIRN_STAT_MODE 1, by decide +kernel⟩,
   ⟨.ac0, State.reset, by decide +kernel⟩,
   ⟨.ac0, State.reset.fput F.CAIRN_STAT_MODE 2, by decide +kernel⟩,
   ⟨4100, { nEvt := 3 }, { (State.reset.fput F.CAIRN_STAT_SUMMIT 1) with cairn := { sums := [(4100, { nEvt := 3 })], sumEnd := 3600000000000 } }, by decide +kernel⟩⟩

theorem test_meets_ReaderContexts :
    (∃ (k : Fin 5) (s : State), s.awake = true ∧ s.ctxOpen k = true ∧ (s.ctx k).busy = none) ∧
    (∃ (k : Fin 5) (s : State), s.awake = true ∧ s.ctxOpen k = true ∧ (s.ctx k).busy = none) ∧
    (∃ (k : Fin 5) (s : State), s.awake = true ∧ s.ctxOpen k = true ∧ (s.ctx k).busy = none) ∧
    (∃ (k : Fin 5) (s : State), s.awake = true ∧ s.ctxOpen k = true ∧ (s.ctx k).busy ≠ none) ∧
    (∃ (k : Fin 5) (op : Nat) (last : Nat) (comp : Option Nat) (r : Rec) (s : State), s.awake = true ∧ (s.ctx k).busy = some (op, comp, last) ∧
      cairnSearch s.cairn.slots op (s.ctx k).cursor last (s.ctx k).filter comp = some r) ∧
    (∃ (k : Fin 5) (op : Nat) (last : Nat) (comp : Option Nat) (s : State), s.awake = true ∧ (s.ctx k).busy = some (op, comp, last) ∧
      cairnSearch s.cairn.slots op (s.ctx k).cursor last (s.ctx k).filter comp = none) ∧
    (∃ (k : Fin 5) (h : Word64) (s : State), s.awake = true ∧ k.val < 4 ∧ s.session (ctxReq k) = some 0 ∧ (s.ctx k).busy = none ∧
      leNat ((s.ctx k).subBytes 0 8) = h.toNat ∧ 0x300 ≤ bits64 h 17 8 ∧ bits64 h 7 0 ≤ 240 ∧ s.cairn.queue.length < 1024) ∧
    (∃ (k : Fin 5) (h : Word64) (s : State), s.awake = true ∧ k.val < 4 ∧ s.ctxOpen k = true ∧ (s.ctx k).busy = none ∧
      leNat ((s.ctx k).subBytes 0 8) = h.toNat ∧ bits64 h 17 8 < 0x300) :=
  ⟨⟨0, State.reset, by decide +kernel⟩,
   ⟨0, State.reset, by decide +kernel⟩,
   ⟨0, State.reset, by decide +kernel⟩,
   ⟨1, { State.reset with cairn := { ctx := (Vector.replicate 5 {}).set 1 { busy := some (1, some 0, 5) } } }, by decide +kernel⟩,
   ⟨1, 1, 5, some 0, { num := 2 }, { State.reset with cairn := { ctx := (Vector.replicate 5 {}).set 1 { busy := some (1, some 0, 5) }, slots := [(1, { num := 2 })] } }, by decide +kernel⟩,
   ⟨1, 1, 5, some 0, { State.reset with cairn := { ctx := (Vector.replicate 5 {}).set 1 { busy := some (1, some 0, 5) } } }, by decide +kernel⟩,
   ⟨0, 0x30000, { State.reset with cairn := { ctx := (Vector.replicate 5 {}).set 0 { sub := [(2, 3)] } } }, by decide +kernel⟩,
   ⟨1, 0, State.reset, by decide +kernel⟩⟩

theorem test_meets_LoopInstants :
    (∃ (slot : Fin 512) (s : State), s.awake = true ∧ s.laneRuns (slot.val % 4) = true ∧ s.slotOn slot = true ∧ (s.loopx slot).due = none) ∧
    (∃ (slot : Fin 512) (s : State), s.awake = true ∧ s.laneRuns (slot.val % 4) = true ∧ isFixed slot = false ∧ (s.loopx slot).due.isSome = true) ∧
    (∃ (lane : Fin 4) (s : State), s.awake = true ∧ s.laneRuns lane = true ∧ [0, 1, 2, 3].all (fun i => !s.injRuns i && !s.capRuns i) = true) ∧
    (∃ (lane : Fin 4) (s : State), s.awake = true ∧ s.laneRuns lane = true ∧ s.laneBad lane = false) :=
  ⟨⟨20, (((((((((State.reset.fput (F.HDR_ENABLE 23) 1).setBit (R.LOOP_EN 0) 20 true).setLe 278669312 8 4).setLe 278669320 8 0).setLe 278669328 8 25).setLe 278669336 8 0x20000).setLe 278669344 8 299084342624256).setLe 278669360 8 9223372032559808512).setLe 278669584 8 77), by decide +kernel⟩,
   ⟨20, { (State.reset.fput (F.HDR_ENABLE 23) 1) with loops := [(20, { due := some 5, dueMono := 5 })] }, by decide +kernel⟩,
   ⟨0, ((State.reset.fput (F.HDR_ENABLE 23) 1).setBit (R.LOOP_EN 0) 20 true), by decide +kernel⟩,
   ⟨0, ((State.reset.fput (F.HDR_ENABLE 23) 1).setBit (R.LOOP_EN 0) 20 true), by decide +kernel⟩⟩

theorem test_meets_LoopEvaluations :
    (∃ (lane : Fin 4) (k : Nat) (s : State), s.awake = true ∧ s.laneRuns lane = true ∧ s.dueSlots lane true = [k] ∧ (s.lw k 1).getLsbD 0 = true ∧
      s.ecc = [] ∧ [0, 1, 2, 3].all (fun i => !s.injRuns i && !s.capRuns i) = true ∧ (s.loopx k).first = false) ∧
    (∃ (lane : Fin 4) (k : Nat) (s : State), s.awake = true ∧ s.laneRuns lane = true ∧ s.dueSlots lane true = [k] ∧ (s.lw k 1).toNat % 4 = 0 ∧
      loI (s.lw k 6) ≤ hiI (s.lw k 6) ∧ s.holdOnStale k = false ∧ (s.outPoint? k).isSome = true ∧ s.ecc = [] ∧
      [0, 1, 2, 3].all (fun i => !s.injRuns i && !s.capRuns i) = true ∧ (s.loopx k).first = false) ∧
    (∃ (slot : Fin 16) (c : Nat) (q : Nat) (p : Nat) (v : Int) (s : State), s.awake = true ∧ (s.loopx slot).out = some (c, v, q) ∧
      s.outPoint? slot = some p ∧ s.forceOn p = none ∧ s.untested (pointAddr p) = true) ∧
    (∃ (lane : Fin 4) (k : Nat) (p : Nat) (s : State), s.awake = true ∧ s.laneRuns lane = true ∧ s.dueSlots lane false = [k] ∧ k < 512 ∧
      (s.reachCyc (s.windowFrom lane s.cyc + 63)).monoNow ≤ s.deadlineMono k ∧ (s.lw k 1).getLsbD 0 = true ∧ s.outPoint? k = some p ∧
      s.forceOn p = none ∧ s.untested (pointAddr p) = true ∧ s.ecc = [] ∧ [0, 1, 2, 3].all (fun i => !s.injRuns i && !s.capRuns i) = true ∧
      (s.loopx k).first = false) ∧
    (∃ (lane : Fin 4) (s : State), s.awake = true ∧ s.laneRuns lane = true ∧ s.dueSlots lane false = []) :=
  ⟨⟨1, 5, { (((((((((State.reset.fput (F.HDR_ENABLE 23) 1).setBit (R.LOOP_EN 0) 5 true).setLe 278661632 8 4).setLe 278661640 8 1).setLe 278661648 8 25).setLe 278661656 8 0x20000).setLe 278661664 8 299084342624256).setLe 278661680 8 9223372032559808512).setLe 278661904 8 77) with loops := [(5, { due := some 9 })], points := [(4100, { src := .loop 5, ptype := 1, isOut := true })] }, by decide +kernel⟩,
   ⟨1, 5, { (((((((((State.reset.fput (F.HDR_ENABLE 23) 1).setBit (R.LOOP_EN 0) 5 true).setLe 278661632 8 4).setLe 278661640 8 0).setLe 278661648 8 25).setLe 278661656 8 0x20000).setLe 278661664 8 299084342624256).setLe 278661680 8 9223372032559808512).setLe 278661904 8 77) with loops := [(5, { due := some 9 })], points := [(4100, { src := .loop 5, ptype := 1, isOut := true })] }, by decide +kernel⟩,
   ⟨5, 100, 0, 4100, -3, { (((((((((State.reset.fput (F.HDR_ENABLE 23) 1).setBit (R.LOOP_EN 0) 5 true).setLe 278661632 8 4).setLe 278661640 8 0).setLe 278661648 8 25).setLe 278661656 8 0x20000).setLe 278661664 8 299084342624256).setLe 278661680 8 9223372032559808512).setLe 278661904 8 77) with loops := [(5, { out := some (100, -3, 0) })], points := [(4100, { src := .loop 5, ptype := 1, isOut := true })] }, by decide +kernel⟩,
   ⟨0, 20, 4100, { (((((((((State.reset.fput (F.HDR_ENABLE 23) 1).setBit (R.LOOP_EN 0) 20 true).setLe 278669312 8 4).setLe 278669320 8 1).setLe 278669328 8 25).setLe 278669336 8 0x20000).setLe 278669344 8 299084342624256).setLe 278669360 8 9223372032559808512).setLe 278669584 8 77).setLe 278669328 8 281474976710656025 with loops := [(20, { due := some 9, dueMono := 9 })], points := [(4100, { src := .loop 20, ptype := 1, isOut := true })] }, by decide +kernel⟩,
   ⟨0, ((State.reset.fput (F.HDR_ENABLE 23) 1).setBit (R.LOOP_EN 0) 20 true), by decide +kernel⟩⟩

theorem test_meets_LoopSlots :
    (∃ (req : Req) (slot : Fin 512) (s : State), s.awake = true ∧ s.opens req (R.LOOP_EN (slot.val / 32)) = true ∧ s.slotOn slot = false ∧
      s.enableReason slot = 0) ∧
    (∃ (req : Req) (slot : Fin 512) (s : State), s.awake = true ∧ s.opens req (R.LOOP_EN (slot.val / 32)) = true ∧ s.slotOn slot = false ∧
      s.enableReason slot ≠ 0) ∧
    (∃ (req : Req) (slot : Fin 512) (s : State), s.awake = true ∧ s.opens req (R.LOOP_EN (slot.val / 32)) = true ∧ s.slotOn slot = true) ∧
    (∃ (req : Req) (slot : Fin 512) (s : State), s.awake = true ∧ s.opens req R.LOOP_STAT_CLR = true ∧ s.untested (slotBase slot) = true) ∧
    (∃ (req : Req) (s : State), s.awake = true ∧ s.opens req R.LOOP_STAT_CLR = true ∧ s.untested (slotBase 0) = true) :=
  ⟨⟨.ac0, 20, { ((((((((State.reset.fput (F.HDR_ENABLE 23) 1).setLe 278669312 8 4).setLe 278669320 8 0).setLe 278669328 8 25).setLe 278669336 8 0x20000).setLe 278669344 8 299084342624256).setLe 278669360 8 9223372032559808512).setLe 278669584 8 77) with points := [(4100, { src := .loop 20, ptype := 1, isOut := true })] }, by decide +kernel⟩,
   ⟨.ac1, 20, (State.reset.fput (F.HDR_ENABLE 23) 1), by decide +kernel⟩,
   ⟨.ac0, 20, ((State.reset.fput (F.HDR_ENABLE 23) 1).setBit (R.LOOP_EN 0) 20 true), by decide +kernel⟩,
   ⟨.ac0, 20, ((((((((State.reset.fput (F.HDR_ENABLE 23) 1).setLe 278669312 8 4).setLe 278669320 8 0).setLe 278669328 8 25).setLe 278669336 8 0x20000).setLe 278669344 8 299084342624256).setLe 278669360 8 9223372032559808512).setLe 278669584 8 77), by decide +kernel⟩,
   ⟨.ac0, ((((((((State.reset.fput (F.HDR_ENABLE 23) 1).setLe 278669312 8 4).setLe 278669320 8 0).setLe 278669328 8 25).setLe 278669336 8 0x20000).setLe 278669344 8 299084342624256).setLe 278669360 8 9223372032559808512).setLe 278669584 8 77), by decide +kernel⟩⟩

theorem test_meets_LocalInputsOutputs :
    (∃ (s : State), s.awake = true ∧ s.enabled Pg.LIO = true) ∧
    (∃ (s : State), s.awake = true ∧ s.enabled Pg.LIO = false) ∧
    (∃ (c : Nat) (s : State), s.awake = true ∧ s.enabled Pg.LIO = true ∧ s.lio.readyAt = some c) ∧
    (∃ (s : State), s.awake = true) ∧
    (∃ (s : State), s.awake = true) :=
  ⟨⟨(State.reset.fput (F.HDR_ENABLE 25) 1), by decide +kernel⟩,
   ⟨{ State.reset with lio := { readyAt := some 1024 } }, by decide +kernel⟩,
   ⟨1024, { (State.reset.fput (F.HDR_ENABLE 25) 1) with lio := { readyAt := some 1024, heldAt := 20000 } }, by decide +kernel⟩,
   ⟨(State.reset.fput (F.HDR_ENABLE 25) 1), by decide +kernel⟩,
   ⟨(State.reset.fput (F.HDR_ENABLE 25) 1), by decide +kernel⟩⟩

theorem test_meets_TuneUnits :
    (∃ (req : Req) (i : Fin 4) (s : State), s.awake = true ∧ s.opens req (R.TUNE_INJ_CMD i) = true ∧ s.injRuns i = false ∧ s.injRefused i = false) ∧
    (∃ (req : Req) (i : Fin 4) (s : State), s.awake = true ∧ s.opens req (R.TUNE_INJ_CMD i) = true ∧ s.injRuns i = false ∧ s.injRefused i = true) ∧
    (∃ (req : Req) (i : Fin 4) (s : State), s.awake = true ∧ s.opens req (R.TUNE_INJ_CMD i) = true ∧ s.injRuns i = true) ∧
    (∃ (req : Req) (i : Fin 4) (s : State), s.awake = true ∧ s.opens req (R.TUNE_INJ_CMD i) = true ∧ s.injRuns i = true) ∧
    (∃ (req : Req) (j : Fin 4) (s : State), s.awake = true ∧ s.opens req (R.TUNE_CAP_CMD j) = true ∧ s.capRuns j = false ∧
      s.slotOn (s.fget (F.TUNE_CAP_CFG_SLOT j)) = true ∧ s.fget (F.TUNE_CAP_CFG_TRIG j) < 5 ∧
      s.laneFailed (s.fget (F.TUNE_CAP_CFG_SLOT j) % 4) = false ∧ s.isActive = true) ∧
    (∃ (req : Req) (j : Fin 4) (s : State), s.awake = true ∧ s.opens req (R.TUNE_CAP_CMD j) = true ∧ s.capRuns j = false ∧
      s.slotOn (s.fget (F.TUNE_CAP_CFG_SLOT j)) = false) ∧
    (∃ (req : Req) (j : Fin 4) (s : State), s.awake = true ∧ s.opens req (R.TUNE_CAP_CMD j) = true ∧ s.capRuns j = true) :=
  ⟨⟨.ac0, 1, ((((State.reset.fput (F.HDR_ENABLE 24) 1).setBit (R.LOOP_EN 0) 20 true).fput (F.TUNE_INJ_CFG_SLOT 1) 20).setLe 278669312 8 1), by decide +kernel⟩,
   ⟨.ac0, 0, (State.reset.fput (F.HDR_ENABLE 24) 1), by decide +kernel⟩,
   ⟨.ac0, 0, ((State.reset.fput (F.HDR_ENABLE 24) 1).fput (F.TUNE_INJ_STAT_STATE 0) 2), by decide +kernel⟩,
   ⟨.ac0, 0, ((State.reset.fput (F.HDR_ENABLE 24) 1).fput (F.TUNE_INJ_STAT_STATE 0) 2), by decide +kernel⟩,
   ⟨.ac0, 3, (((State.reset.fput (F.HDR_ENABLE 24) 1).setBit (R.LOOP_EN 0) 20 true).fput (F.TUNE_CAP_CFG_SLOT 3) 20), by decide +kernel⟩,
   ⟨.ac0, 3, (State.reset.fput (F.HDR_ENABLE 24) 1), by decide +kernel⟩,
   ⟨.ac0, 3, ((State.reset.fput (F.HDR_ENABLE 24) 1).fput (F.TUNE_CAP_STAT_STATE 3) 1), by decide +kernel⟩⟩

theorem test_meets_ModulatorsAndCalibration :
    (∃ (c : Fin 24) (s : State), s.awake = true ∧ s.mtrRuns = true ∧ (s.usersOf c).isEmpty = false ∧ s.modBad c = false) ∧
    (∃ (c : Fin 24) (s : State), s.awake = true ∧ s.modBad c = true) ∧
    (∃ (s : State), s.awake = true ∧ s.enabled Pg.MTR = true ∧ [0, 1, 2, 3].all (fun k => !s.fset (F.MTR_TSRC_EN k)) = true) ∧
    (∃ (req : Req) (s : State), s.awake = true ∧ s.opens req R.MTR_CAL_CMD = true ∧ s.calOpen req = true) ∧
    (∃ (req : Req) (s : State), s.awake = true ∧ s.opens req R.MTR_CAL_CMD = true ∧ s.calOpen req = false) ∧
    (∃ (req : Req) (s : State), s.awake = true ∧ s.opens req R.MTR_CAL_CMD = true ∧ s.calOpen req = true ∧
      (List.range 24).all (fun c => calCheck (s.staged c) == 0) = true) ∧
    (∃ (req : Req) (c : Nat) (s : State), s.awake = true ∧ s.opens req R.MTR_CAL_CMD = true ∧ s.calOpen req = true ∧
      (List.range 24).find? (fun c => calCheck (s.staged c) != 0) = some c) :=
  ⟨⟨6, ((((((State.reset.fput (F.HDR_ENABLE 26) 1).fput (F.MTR_CIRC_CFG_KIND 2) 1).fput (F.MTR_CIRC_CFG_I0 2) 0).fput (F.MTR_CIRC_PID_BASE 2) 100).fput (F.MTR_CIRC_CFG_EN 2) 1).fput (F.MTR_CIRC_STAT_VALID 2) 1), by decide +kernel⟩,
   ⟨6, ((((((State.reset.fput (F.HDR_ENABLE 26) 1).fput (F.MTR_CIRC_CFG_KIND 2) 1).fput (F.MTR_CIRC_CFG_I0 2) 0).fput (F.MTR_CIRC_PID_BASE 2) 100).fput (F.MTR_CIRC_CFG_EN 2) 1).setBit R.MTR_MOD_STAT 6 true), by decide +kernel⟩,
   ⟨((State.reset.fput (F.HDR_ENABLE 26) 1).fput F.TSENS_TEMP_DEG 400), by decide +kernel⟩,
   ⟨.anchor, ((State.reset.fput (F.HDR_ENABLE 26) 1).setLe 0x10A00103 1 7), by decide +kernel⟩,
   ⟨.ac0, (State.reset.fput (F.HDR_ENABLE 26) 1), by decide +kernel⟩,
   ⟨.anchor, { (State.reset.fput (F.HDR_ENABLE 26) 1) with mtr := { stage := [(2, 64), (8, 1), (258, 64), (264, 1), (514, 64), (520, 1), (770, 64), (776, 1), (1026, 64), (1032, 1), (1282, 64), (1288, 1), (1538, 64), (1544, 1), (1794, 64), (1800, 1), (2050, 64), (2056, 1), (2306, 64), (2312, 1), (2562, 64), (2568, 1), (2818, 64), (2824, 1), (3074, 64), (3080, 1), (3330, 64), (3336, 1), (3586, 64), (3592, 1), (3842, 64), (3848, 1), (4098, 64), (4104, 1), (4354, 64), (4360, 1), (4610, 64), (4616, 1), (4866, 64), (4872, 1), (5122, 64), (5128, 1), (5378, 64), (5384, 1), (5634, 64), (5640, 1), (5890, 64), (5896, 1)] } }, by decide +kernel⟩,
   ⟨.anchor, 0, (State.reset.fput (F.HDR_ENABLE 26) 1), by decide +kernel⟩⟩

theorem test_meets_MeterCircuits :
    (∃ (req : Req) (m : Fin 18) (s : State), s.awake = true ∧ s.opens req (R.MTR_CIRC_CFG m) = true ∧ s.circOn m = false ∧ s.circRefuse m = 0) ∧
    (∃ (req : Req) (m : Fin 18) (s : State), s.awake = true ∧ s.opens req (R.MTR_CIRC_CFG m) = true ∧ s.circOn m = false ∧ s.circRefuse m ≠ 0) ∧
    (∃ (req : Req) (m : Fin 18) (s : State), s.awake = true ∧ s.opens req (R.MTR_CIRC_CFG m) = true ∧ s.circOn m = true) :=
  ⟨⟨.ac0, 2, { ((((State.reset.fput (F.HDR_ENABLE 26) 1).fput (F.MTR_CIRC_CFG_KIND 2) 1).fput (F.MTR_CIRC_CFG_I0 2) 0).fput (F.MTR_CIRC_PID_BASE 2) 100) with points := (List.range 9).map (fun i => (100 + i, { src := .metering, ptype := 3 })) }, by decide +kernel⟩,
   ⟨.ac0, 2, (State.reset.fput (F.HDR_ENABLE 26) 1), by decide +kernel⟩,
   ⟨.ac0, 2, ((((((State.reset.fput (F.HDR_ENABLE 26) 1).fput (F.MTR_CIRC_CFG_KIND 2) 1).fput (F.MTR_CIRC_CFG_I0 2) 0).fput (F.MTR_CIRC_PID_BASE 2) 100).fput (F.MTR_CIRC_CFG_EN 2) 1).fput (F.MTR_CIRC_STAT_VALID 2) 1), by decide +kernel⟩⟩

theorem test_meets_LineCycles :
    (∃ (ch : Fin 6) (inp : ChanIn) (m : Nat) (d : Nat) (y : Int) (mono : Nat) (s : State), s.awake = true ∧ s.mtrRuns = true ∧ s.modBad ch = false ∧
      s.usersOf ch = [m] ∧ s.isFeeder m = false ∧ s.fset (F.MTR_CIRC_STAT_MOD_FAULT m) = false ∧ (s.mtrc m).phase = ch.val % 3 ∧
      (s.vchan ch).early mono = false ∧ (s.samples ch inp).map (fun x => (x.date, x.y)) = [(d, y)] ∧ (s.vchan ch).crosses d y = some mono ∧
      s.circValid m = false ∧ (s.mtrc m).crossed = false) ∧
    (∃ (ch : Fin 6) (inp : ChanIn) (m : Nat) (d : Nat) (y : Int) (mono : Nat) (s : State), s.awake = true ∧ s.mtrRuns = true ∧ s.modBad ch = false ∧
      s.usersOf ch = [m] ∧ s.isFeeder m = false ∧ s.fset (F.MTR_CIRC_STAT_MOD_FAULT m) = false ∧ (s.mtrc m).phase = ch.val % 3 ∧
      (s.vchan ch).early mono = false ∧ (s.samples ch inp).map (fun x => (x.date, x.y)) = [(d, y)] ∧ (s.vchan ch).crosses d y = some mono ∧
      s.circValid m = true ∧ s.timedOn m = false) ∧
    (∃ (ch : Fin 6) (inp : ChanIn) (m : Nat) (d : Nat) (y : Int) (mono : Nat) (s : State), s.awake = true ∧ s.mtrRuns = true ∧ s.modBad ch = false ∧
      s.usersOf ch = [m] ∧ s.isFeeder m = false ∧ s.fset (F.MTR_CIRC_STAT_MOD_FAULT m) = false ∧ (s.mtrc m).phase = ch.val % 3 ∧
      (s.samples ch inp).map (fun x => (x.date, x.y)) = [(d, y)] ∧ (s.vchan ch).crosses d y = some mono ∧ (s.vchan ch).early mono = true) ∧
    (∃ (ch : Fin 6) (inp : ChanIn) (d : Nat) (y : Int) (s : State), s.awake = true ∧ s.mtrRuns = true ∧ s.modBad ch = false ∧
      (s.usersOf ch).isEmpty = false ∧ (s.samples ch inp).map (fun x => (x.date, x.y)) = [(d, y)] ∧ (s.vchan ch).crosses d y = none) ∧
    (∃ (ch : Fin 6) (l : Nat) (s : State), s.awake = true ∧ (s.vchan ch).last = some l ∧ s.mtrRuns = true ∧ (s.vchan ch).lost = false ∧
      (s.usersOf ch).isEmpty = false) ∧
    (∃ (m : Fin 18) (s : State), s.awake = true ∧ s.mtrRuns = true ∧ s.timedOn m = true) ∧
    (∃ (m : Fin 18) (x : Closed) (l : List Closed) (s : State), s.awake = true ∧ (s.mtrc m).closed = x :: l ∧ s.ecc = []) ∧
    (∃ (m : Fin 18) (p : Nat) (v : Int) (s : State), s.awake = true ∧ s.circValid m = true ∧ 10 ≤ (s.mtrc m).win.length ∧ s.isActive = true ∧
      (s.circPoints m)[0]? = some p ∧ (s.winValues m ((s.mtrc m).win.take 10))[0]? = some (some v) ∧ s.forceOn p = none) ∧
    (∃ (m : Fin 18) (s : State), s.awake = true ∧ s.circValid m = true ∧ 10 ≤ (s.mtrc m).win.length ∧ s.isActive = false) :=
  ⟨⟨0, ⟨[], 0, [3243677]⟩, 2, 2000000, 0, 2000000, { (((((State.reset.fput (F.HDR_ENABLE 26) 1).fput (F.MTR_CIRC_CFG_KIND 2) 1).fput (F.MTR_CIRC_CFG_I0 2) 0).fput (F.MTR_CIRC_PID_BASE 2) 100).fput (F.MTR_CIRC_CFG_EN 2) 1) with mtr := { circs := [(2, { phase := 0 })], vch := (Vector.replicate 6 {}).set 0 { armed := true, prev := some (1000000, -5) } } }, by decide +kernel, by decide +kernel, by decide +kernel, by decide +kernel, by decide +kernel, by decide +kernel, by decide +kernel, by decide +kernel, Sys2Proof.Laws.samples_noCal _ _ _ rfl, by decide +kernel, by decide +kernel, by decide +kernel⟩,
   ⟨0, ⟨[], 0, [3243677]⟩, 2, 2000000, 0, 2000000, { ((((((State.reset.fput (F.HDR_ENABLE 26) 1).fput (F.MTR_CIRC_CFG_KIND 2) 1).fput (F.MTR_CIRC_CFG_I0 2) 0).fput (F.MTR_CIRC_PID_BASE 2) 100).fput (F.MTR_CIRC_CFG_EN 2) 1).fput (F.MTR_CIRC_STAT_VALID 2) 1) with mtr := { circs := [(2, { crossed := true, openMono := 1000 })], vch := (Vector.replicate 6 {}).set 0 { armed := true, prev := some (1000000, -5) } } }, by decide +kernel, by decide +kernel, by decide +kernel, by decide +kernel, by decide +kernel, by decide +kernel, by decide +kernel, by decide +kernel, Sys2Proof.Laws.samples_noCal _ _ _ rfl, by decide +kernel, by decide +kernel, by decide +kernel⟩,
   ⟨0, ⟨[], 0, [3243677]⟩, 2, 2000000, 0, 2000000, { ((((((State.reset.fput (F.HDR_ENABLE 26) 1).fput (F.MTR_CIRC_CFG_KIND 2) 1).fput (F.MTR_CIRC_CFG_I0 2) 0).fput (F.MTR_CIRC_PID_BASE 2) 100).fput (F.MTR_CIRC_CFG_EN 2) 1).fput (F.MTR_CIRC_STAT_VALID 2) 1) with mtr := { circs := [(2, { crossed := true })], vch := (Vector.replicate 6 {}).set 0 { last := some 1000000, armed := true, prev := some (1000000, -5) } } }, by decide +kernel, by decide +kernel, by decide +kernel, by decide +kernel, by decide +kernel, by decide +kernel, by decide +kernel, Sys2Proof.Laws.samples_noCal _ _ _ rfl, by decide +kernel, by decide +kernel⟩,
   ⟨0, ⟨[], 0, [3243677]⟩, 2000000, 0, ((((((State.reset.fput (F.HDR_ENABLE 26) 1).fput (F.MTR_CIRC_CFG_KIND 2) 1).fput (F.MTR_CIRC_CFG_I0 2) 0).fput (F.MTR_CIRC_PID_BASE 2) 100).fput (F.MTR_CIRC_CFG_EN 2) 1).fput (F.MTR_CIRC_STAT_VALID 2) 1), by decide +kernel, by decide +kernel, by decide +kernel, by decide +kernel, Sys2Proof.Laws.samples_noCal _ _ _ rfl, by decide +kernel⟩,
   ⟨0, 5, { ((((((State.reset.fput (F.HDR_ENABLE 26) 1).fput (F.MTR_CIRC_CFG_KIND 2) 1).fput (F.MTR_CIRC_CFG_I0 2) 0).fput (F.MTR_CIRC_PID_BASE 2) 100).fput (F.MTR_CIRC_CFG_EN 2) 1).fput (F.MTR_CIRC_STAT_VALID 2) 1) with mtr := { circs := [(2, { crossed := true })], vch := (Vector.replicate 6 {}).set 0 { last := some 5 } } }, by decide +kernel⟩,
   ⟨2, (((((((State.reset.fput (F.HDR_ENABLE 26) 1).fput (F.MTR_CIRC_CFG_KIND 2) 1).fput (F.MTR_CIRC_CFG_I0 2) 0).fput (F.MTR_CIRC_PID_BASE 2) 100).fput (F.MTR_CIRC_CFG_EN 2) 1).fput (F.MTR_CIRC_STAT_VALID 2) 1).fput (F.MTR_CIRC_STAT_TIMED 2) 1), by decide +kernel⟩,
   ⟨2, ⟨7, 20000007, 20000007, 20000000, true, false, true, false, false, false⟩, [], { ((((((State.reset.fput (F.HDR_ENABLE 26) 1).fput (F.MTR_CIRC_CFG_KIND 2) 1).fput (F.MTR_CIRC_CFG_I0 2) 0).fput (F.MTR_CIRC_PID_BASE 2) 100).fput (F.MTR_CIRC_CFG_EN 2) 1).fput (F.MTR_CIRC_STAT_VALID 2) 1) with mtr := { circs := [(2, { closed := [⟨7, 20000007, 20000007, 20000000, true, false, true, false, false, false⟩] })] } }, by decide +kernel⟩,
   ⟨2, 100, 230000, { { ((((((State.reset.fput (F.HDR_ENABLE 26) 1).fput (F.MTR_CIRC_CFG_KIND 2) 1).fput (F.MTR_CIRC_CFG_I0 2) 0).fput (F.MTR_CIRC_PID_BASE 2) 100).fput (F.MTR_CIRC_CFG_EN 2) 1).fput (F.MTR_CIRC_STAT_VALID 2) 1) with mtr := { circs := [(2, { win := List.replicate 10 ⟨78125, 20000000, 5, true, 0, (1, 2, 3), [230000], [5], [1], [2], [3], []⟩ })] } } with points := (List.range 9).map (fun i => (100 + i, { src := .metering, ptype := 3 })) }, by decide +kernel⟩,
   ⟨2, { (((((((State.reset.fput (F.HDR_ENABLE 26) 1).fput (F.MTR_CIRC_CFG_KIND 2) 1).fput (F.MTR_CIRC_CFG_I0 2) 0).fput (F.MTR_CIRC_PID_BASE 2) 100).fput (F.MTR_CIRC_CFG_EN 2) 1).fput (F.MTR_CIRC_STAT_VALID 2) 1).fput F.BEL_ROLE_ROLE 2) with mtr := { circs := [(2, { win := List.replicate 10 ⟨78125, 20000000, 5, true, 0, (1, 2, 3), [230000], [5], [1], [2], [3], []⟩ })] } }, by decide +kernel⟩⟩

theorem test_meets_EnergyTotals :
    (∃ (r : CycRec) (l : List CycRec) (s : State), s.awake = true ∧ s.mtr.handed = r :: l ∧ s.nrgAdds = true ∧ 0 < r.p ∧ r.q = 0 ∧
      s.fset F.PFW_STAT_ASSERTED = false ∧ s.nrg.saving.all (fun v => v.cyc != s.cyc) = true) ∧
    (∃ (r : CycRec) (l : List CycRec) (v : Save) (s : State), s.awake = true ∧ s.mtr.handed = r :: l ∧ s.nrgAdds = true ∧
      s.fset F.PFW_STAT_ASSERTED = false ∧ s.nrg.saving = some v ∧ v.cyc = s.cyc) ∧
    (∃ (r : CycRec) (l : List CycRec) (s : State), s.awake = true ∧ s.mtr.handed = r :: l ∧ s.nrgAdds = false) ∧
    (∃ (m : Fin 18) (s : State), s.awake = true ∧ (s.nrgc m).running = true ∧ s.nrg.loaded = true ∧ s.circOn m = true ∧
      (s.reach ((s.nrgc m).nomEnd + 2000000)).stepDue = false) ∧
    (∃ (req : Req) (m : Nat) (a : Nat) (s : State), s.awake = true ∧ s.opens req R.NRG_TOT_LO = true ∧ s.totSel = some (m, a) ∧
      s.nrgSeen m = s.nrgc m) ∧
    (∃ (req : Req) (m : Nat) (a : Nat) (c : NrgC) (s : State), s.awake = true ∧ s.opens req R.NRG_TOT_LO = true ∧ s.totSel = some (m, a) ∧
      s.nrg.addAt = s.cyc ∧ tabFind s.nrg.before m = some c) ∧
    (∃ (req : Req) (m : Nat) (a : Nat) (s : State), s.awake = true ∧ s.opens req R.NRG_TALLY = true ∧ s.totSel = some (m, a) ∧ s.nrgSeen m = s.nrgc m) ∧
    (∃ (req : Req) (m : Fin 18) (u : BitVec 3) (s : State), s.awake = true ∧ s.opens req (R.NRG_CIRC_TCFG m) = true ∧ u ≠ 7 ∧ u.toNat ≠ s.tallyUnit m) ∧
    (∃ (req : Req) (m : Fin 18) (s : State), s.awake = true ∧ s.opens req (R.NRG_CIRC_TCFG m) = true) ∧
    (∃ (s : State), s.live = true ∧ s.nrg.loaded = false ∧ s.fget F.RST_BOOT_STAT_STAGE < 9 ∧ s.bestSlot = none ∧ s.trust.energyWritten = false ∧
      s.mramBad = []) :=
  ⟨⟨⟨2, 9, 20000000, 0, 5000000, 0⟩, [], { { (State.reset.fput (F.HDR_ENABLE 27) 1) with nrg := { loaded := true } } with mtr := { handed := [⟨2, 9, 20000000, 0, 5000000, 0⟩] } }, by decide +kernel⟩,
   ⟨⟨2, 9, 20000000, 0, 5000000, 0⟩, [], { reason := 0, slot := 1, bytes := [], retried := false, cyc := 0 }, { { (State.reset.fput (F.HDR_ENABLE 27) 1) with nrg := { loaded := true, saving := some { reason := 0, slot := 1, bytes := [], retried := false, cyc := 0 } } } with mtr := { handed := [⟨2, 9, 20000000, 0, 5000000, 0⟩] } }, by decide +kernel⟩,
   ⟨⟨2, 9, 20000000, 0, 5000000, 0⟩, [], { State.reset with mtr := { handed := [⟨2, 9, 20000000, 0, 5000000, 0⟩] } }, by decide +kernel⟩,
   ⟨2, { ((State.reset.fput (F.HDR_ENABLE 27) 1).fput (F.MTR_CIRC_CFG_EN 2) 1) with nrg := { loaded := true, circs := [(2, { running := true, nomEnd := 60000000000 })] } }, by decide +kernel⟩,
   ⟨.ac0, 0, 0, { (State.reset.fput (F.HDR_ENABLE 27) 1) with nrg := { circs := [(0, { total := Vector.replicate 6 0x100000005 })] } }, by decide +kernel⟩,
   ⟨.ac0, 0, 0, { total := Vector.replicate 6 0x100000005 }, { (State.reset.fput (F.HDR_ENABLE 27) 1) with nrg := { before := [(0, { total := Vector.replicate 6 0x100000005 })] } }, by decide +kernel⟩,
   ⟨.ac0, 0, 0, { (State.reset.fput (F.HDR_ENABLE 27) 1) with nrg := { circs := [(0, { total := Vector.replicate 6 0x100000005 })] } }, by decide +kernel⟩,
   ⟨.ac0, 3, 2, (State.reset.fput (F.HDR_ENABLE 27) 1), by decide +kernel⟩,
   ⟨.ac0, 3, (State.reset.fput (F.HDR_ENABLE 27) 1), by decide +kernel⟩,
   ⟨State.reset, by decide +kernel⟩⟩

theorem test_meets_EnergySaves :
    (∃ (s : State), s.awake = true ∧ s.enabled Pg.NRG = true ∧ s.nrg.loaded = true ∧ s.nrg.saving = none) ∧
    (∃ (v : Save) (s : State), s.awake = true ∧ s.enabled Pg.NRG = true ∧ s.nrg.loaded = true ∧ s.nrg.saving = some v) ∧
    (∃ (v : Save) (s : State), s.awake = true ∧ s.nrg.saving = some v ∧ s.nrg.pending = none ∧ s.nrg.stopping = false) ∧
    (∃ (v : Save) (s : State), s.awake = true ∧ s.nrg.saving = some v ∧ v.retried = false) ∧
    (∃ (req : Req) (s : State), s.awake = true ∧ s.opens req R.NRG_EXP_CMD = true ∧ s.enabled Pg.NRG = true ∧
      (List.range circCount).any s.circOn = false ∧ s.nrg.loaded = false) ∧
    (∃ (req : Req) (s : State), s.awake = true ∧ s.opens req R.NRG_EXP_CMD = true ∧ s.enabled Pg.NRG = true ∧
      (List.range circCount).any s.circOn = false ∧ s.nrg.loaded = true ∧ s.nrg.saving = none) ∧
    (∃ (req : Req) (s : State), s.awake = true ∧ s.opens req R.NRG_EXP_CMD = true ∧
      (s.enabled Pg.NRG = false ∨ (List.range circCount).any s.circOn = true)) ∧
    (∃ (s : State), s.awake = true ∧ s.trust.otp.decom = true) ∧
    (∃ (s : State), s.awake = true ∧ s.fget F.NRG_EXP_STAT_STATE = 1 ∧ s.trust.otp.decom = false) :=
  ⟨⟨{ (State.reset.fput (F.HDR_ENABLE 27) 1) with nrg := { loaded := true } }, by decide +kernel⟩,
   ⟨⟨0, 0, [], false, 0⟩, { (State.reset.fput (F.HDR_ENABLE 27) 1) with nrg := { loaded := true, saving := some ⟨0, 0, [], false, 0⟩ } }, by decide +kernel⟩,
   ⟨⟨0, 0, [5, 6], false, 0⟩, { (State.reset.fput (F.HDR_ENABLE 27) 1) with nrg := { loaded := true, saving := some ⟨0, 0, [5, 6], false, 0⟩ } }, by decide +kernel⟩,
   ⟨⟨0, 0, [], false, 0⟩, { (State.reset.fput (F.HDR_ENABLE 27) 1) with nrg := { loaded := true, saving := some ⟨0, 0, [], false, 0⟩ } }, by decide +kernel⟩,
   ⟨.ac0, (State.reset.fput (F.HDR_ENABLE 27) 1), by decide +kernel⟩,
   ⟨.ac1, { (State.reset.fput (F.HDR_ENABLE 27) 1) with nrg := { loaded := true } }, by decide +kernel⟩,
   ⟨.ac0, State.reset, by decide +kernel⟩,
   ⟨{ ((State.reset.fput (F.HDR_ENABLE 27) 1).fput F.NRG_EXP_STAT_STATE 1) with trust := { otp := { decom := true } } }, by decide +kernel⟩,
   ⟨((State.reset.fput (F.HDR_ENABLE 27) 1).fput F.NRG_EXP_STAT_STATE 1), by decide +kernel⟩⟩

theorem test_meets_RealTimeClock :
    (∃ (s : State), s.live = true ∧ s.aonRuns = true ∧ s.calendar.mon ≤ 12 ∧ s.calendar.day ≤ 31 ∧ s.calendar.hour ≤ 23 ∧ s.calendar.min ≤ 59 ∧
      s.calendar.year ≤ 2399) ∧
    (∃ (req : Req) (s : State), s.awake = true ∧ s.opens req R.RTC_SEC = true ∧ s.rtc.before.all (fun e => e.1 != s.cyc) = true) ∧
    (∃ (req : Req) (s : State), s.awake = true ∧ s.opens req R.RTC_YEAR_HI = true) ∧
    (∃ (s : State), s.live = true ∧ s.fset F.RTC_STAT_FROZEN = true) ∧
    (∃ (req : Req) (s : State), s.awake = true ∧ s.opens req R.RTC_CMD = true ∧ stagedOk s.stagedFields = true) ∧
    (∃ (req : Req) (s : State), s.awake = true ∧ s.opens req R.RTC_CMD = true ∧ stagedOk s.stagedFields = false) ∧
    (∃ (req : Req) (s : State), s.awake = true ∧ s.opens req R.RTC_CMD = true ∧ s.timeInvalid = false ∧ stagedOk s.stagedFields = true) ∧
    (∃ (req : Req) (s : State), s.awake = true ∧ s.opens req R.RTC_CMD = true ∧ s.timeInvalid = true) ∧
    (∃ (e : Nat) (f : List Nat) (s : State), s.live = true ∧ s.aonRuns = true ∧ s.rtc.load = some (e, f) ∧ stagedOk f = true ∧ s.timeInvalid = false) ∧
    (∃ (s : State), s.sup.vin = .low ∧ s.sup.aonFromVin = false) ∧
    (∃ (s : State), (s.sup.vin ≠ .low ∨ s.sup.aonFromVin = true)) ∧
    (∃ (x : Nat) (f : List Nat) (s : State), s.live = true ∧ s.aonRuns = true ∧ s.rtc.load = none ∧ s.rtc.loadSec = some (x, f) ∧ stagedOk f = true) :=
  ⟨⟨(State.reset.fput (F.HDR_ENABLE 7) 1), by decide +kernel⟩,
   ⟨.ac0, State.reset, by decide +kernel⟩,
   ⟨.ac0, State.reset.fput F.RTC_STAT_FROZEN 1, by decide +kernel⟩,
   ⟨State.reset.fput F.RTC_STAT_FROZEN 1, by decide +kernel⟩,
   ⟨.ac0, ((((((((State.reset.fput (F.HDR_ENABLE 7) 1).wr R.RTC_STG_SEC 0x30).wr R.RTC_STG_MIN 0x59).wr R.RTC_STG_HOUR 0x23).wr R.RTC_STG_DAY 0x29).wr R.RTC_STG_MON 2).wr R.RTC_STG_YEAR_LO 0x24).wr R.RTC_STG_YEAR_HI 0x20), by decide +kernel⟩,
   ⟨.ac0, State.reset.wr R.RTC_STG_SEC 0x60, by decide +kernel⟩,
   ⟨.ac0, (((((((((State.reset.fput (F.HDR_ENABLE 7) 1).wr R.RTC_STG_SEC 0x30).wr R.RTC_STG_MIN 0x59).wr R.RTC_STG_HOUR 0x23).wr R.RTC_STG_DAY 0x29).wr R.RTC_STG_MON 2).wr R.RTC_STG_YEAR_LO 0x24).wr R.RTC_STG_YEAR_HI 0x20).fput F.SYS_STAT_TIME_INVALID 0), by decide +kernel⟩,
   ⟨.ac0, State.reset, by decide +kernel⟩,
   ⟨5000, [48, 89, 35, 41, 2, 36, 32], { (State.reset.fput F.SYS_STAT_TIME_INVALID 0) with rtc := { load := some (5000, [48, 89, 35, 41, 2, 36, 32]) } }, by decide +kernel⟩,
   ⟨{ State.reset with sup := { vin := .low, aonFromVin := false } }, by decide +kernel⟩,
   ⟨State.reset, by decide +kernel⟩,
   ⟨1000000000, [48, 89, 35, 41, 2, 36, 32], { State.reset with rtc := { loadSec := some (1000000000, [48, 89, 35, 41, 2, 36, 32]) } }, by decide +kernel⟩⟩

theorem test_meets_TimersAndSchedule :
    (∃ (req : Req) (s : State), s.awake = true ∧ s.opens req R.RTC_CD_CTL = true) ∧
    (∃ (req : Req) (s : State), s.awake = true ∧ s.opens req R.RTC_CD_CTL = true ∧ s.fset F.RTC_CD_CTL_EN = true) ∧
    (∃ (s : State), s.live = true ∧ s.fset F.RTC_CD_CTL_EN = true ∧ s.aonRuns = true ∧ s.fset F.RTC_CD_CTL_RELOAD = false ∧
      s.fset F.RTC_CD_CTL_WAKE = false) ∧
    (∃ (s : State), s.live = true ∧ s.fset F.RTC_CD_CTL_EN = true ∧ s.aonRuns = true ∧ s.fset F.RTC_CD_CTL_RELOAD = true ∧
      s.fset F.RTC_CD_CTL_WAKE = false) ∧
    (∃ (s : State), s.live = true ∧ s.sup.ppsInMono.all (fun x => decide (x + 100000 ≤ s.monoNow)) = true) ∧
    (∃ (x : Nat) (s : State), s.live = true ∧ s.sup.ppsInMono = some x ∧ s.monoNow < x + 100000) ∧
    (∃ (s : State), s.live = true) ∧
    (∃ (req : Req) (v : List Nat) (s : State), s.awake = true ∧ s.opens req R.RTC_SEC = true ∧ s.rtc.before = some (s.cyc, v)) ∧
    (∃ (entry : Fin 256) (s : State), s.live = true ∧ s.schedOn entry = true ∧ s.schedWord entry 1 = 0 ∧
      (s.reach (s.schedWord entry 0).toNat).stepDue = false) ∧
    (∃ (entry : Fin 256) (s : State), s.live = true ∧ s.schedOn entry = true ∧ s.schedWord entry 1 ≠ 0 ∧
      (s.reach (s.schedWord entry 0).toNat).stepDue = false) ∧
    (∃ (req : Req) (entry : Fin 256) (s : State), s.awake = true ∧ s.schedGrant req entry = true ∧ s.isActive = true ∧ s.schedOn entry = false) ∧
    (∃ (req : Req) (entry : Fin 256) (s : State), s.awake = true ∧ s.schedGrant req entry = true ∧ s.isActive = true ∧ s.schedOn entry = true) ∧
    (∃ (req : Req) (entry : Fin 256) (s : State), s.awake = true ∧ s.schedGrant req entry = false) :=
  ⟨⟨.ac0, State.reset, by decide +kernel⟩,
   ⟨.ac0, State.reset.fput F.RTC_CD_CTL_EN 1, by decide +kernel⟩,
   ⟨State.reset.fput F.RTC_CD_CTL_EN 1, by decide +kernel⟩,
   ⟨(State.reset.fput F.RTC_CD_CTL_EN 1).fput F.RTC_CD_CTL_RELOAD 1, by decide +kernel⟩,
   ⟨(State.reset.fput (F.HDR_ENABLE 28) 1), by decide +kernel⟩,
   ⟨0, { State.reset with sup := { ppsInMono := some 0 } }, by decide +kernel⟩,
   ⟨State.reset.fput F.SYS_STAT_TIME_INVALID 0, by decide +kernel⟩,
   ⟨.ac0, [0x59, 0x59, 0x23, 0, 1, 1, 0, 0x20, 32767], { State.reset with rtc := { before := some (0, [0x59, 0x59, 0x23, 0, 1, 1, 0, 0x20, 32767]) } }, by decide +kernel⟩,
   ⟨2, (((State.reset.fput (F.HDR_ENABLE 28) 1).setLe 0x10C60040 8 5000000).setLe 0x10C60050 8 1), by decide +kernel⟩,
   ⟨2, ((((State.reset.fput (F.HDR_ENABLE 28) 1).setLe 0x10C60040 8 5000000).setLe 0x10C60050 8 1).setLe 0x10C60048 8 1000000), by decide +kernel⟩,
   ⟨.ac0, 7, State.reset, by decide +kernel⟩,
   ⟨.ac0, 2, (((State.reset.fput (F.HDR_ENABLE 28) 1).setLe 0x10C60040 8 5000000).setLe 0x10C60050 8 1), by decide +kernel⟩,
   ⟨.ac2, 2, State.reset, by decide +kernel⟩⟩

theorem test_meets_TimeUnit :
    (∃ (req : Req) (d : Fin 2) (s : State), s.awake = true ∧ s.opens req (R.PTP_DCFG d) = true ∧ s.fset (F.PTP_DCFG_EN d) = false) ∧
    (∃ (req : Req) (d : Fin 2) (s : State), s.awake = true ∧ s.opens req (R.PTP_DCFG d) = true ∧ s.fset (F.PTP_DCFG_EN d) = true) ∧
    (∃ (req : Req) (d : Fin 2) (s : State), s.awake = true ∧ s.opens req (R.PTP_MO_HI d) = true ∧ s.stepDue = false ∧
      s.badSample d (s.pair (R.PTP_MT_LO d) (R.PTP_MT_HI d)) = false ∧ (s.dom d).first = true) ∧
    (∃ (req : Req) (d : Fin 2) (s : State), s.awake = true ∧ s.opens req (R.PTP_MO_HI d) = true ∧ s.stepDue = false ∧
      s.badSample d (s.pair (R.PTP_MT_LO d) (R.PTP_MT_HI d)) = true) ∧
    (∃ (d : Fin 2) (s : State), s.live = true ∧ (s.domState d = 1 ∨ s.domState d = 2) ∧ s.fset F.PTP_ACT_AUTO = false) ∧
    (∃ (req : Req) (s : State), s.awake = true ∧ s.opens req R.PTP_ACT = true ∧ s.actDom = none) ∧
    (∃ (req : Req) (s : State), s.awake = true ∧ s.opens req R.PTP_ACT = true) ∧
    (∃ (req : Req) (d : Fin 2) (n : Fin 2) (s : State), s.awake = true ∧ s.opens req R.PTP_ACT = true ∧ s.actDom = some d.val ∧ n ≠ d ∧
      s.ptp.steps = [] ∧ s.switchable n = false) ∧
    (∃ (d : Nat) (s : State), s.live = true ∧ s.actDom = some d ∧ s.ptp.slewing = true ∧ mag (s.dom d).off ≤ s.lockNs d * offUnit) ∧
    (∃ (req : Req) (s : State), s.awake = true ∧ s.opens req R.PTP_STEP_CMD_HI = true ∧ s.fget F.PTP_ACT_SEL = 0) ∧
    (∃ (req : Req) (s : State), s.awake = true ∧ s.opens req R.PTP_STEP_CMD_HI = true ∧ s.fget F.PTP_ACT_SEL ≠ 0) ∧
    (∃ (p : PStep) (l : List PStep) (s : State), s.live = true ∧ s.ptp.steps = p :: l ∧ p.align = false ∧ s.ptp.selWait = none) :=
  ⟨⟨.ac0, 1, (State.reset.fput (F.HDR_ENABLE 28) 1), by decide +kernel⟩,
   ⟨.ac0, 1, (((State.reset.fput (F.HDR_ENABLE 28) 1).fput (F.PTP_DCFG_EN 1) 1).fput (F.PTP_DSTAT_STATE 1) 1), by decide +kernel⟩,
   ⟨.ac0, 0, ((((State.reset.fput (F.HDR_ENABLE 28) 1).fput (F.PTP_DCFG_EN 0) 1).fput (F.PTP_DSTAT_STATE 0) 1).wr (R.PTP_MO_LO 0) 500), by decide +kernel⟩,
   ⟨.ac0, 0, (State.reset.fput (F.HDR_ENABLE 28) 1), by decide +kernel⟩,
   ⟨0, ((State.reset.fput (F.HDR_ENABLE 28) 1).fput (F.PTP_DSTAT_STATE 0) 2), by decide +kernel⟩,
   ⟨.ac0, (State.reset.fput (F.HDR_ENABLE 28) 1), by decide +kernel⟩,
   ⟨.ac0, (State.reset.fput (F.HDR_ENABLE 28) 1), by decide +kernel⟩,
   ⟨.ac0, 0, 1, ((State.reset.fput (F.HDR_ENABLE 28) 1).fput F.PTP_ACT_CUR 1), by decide +kernel⟩,
   ⟨0, { ((State.reset.fput (F.HDR_ENABLE 28) 1).fput F.PTP_ACT_CUR 1) with ptp := { slewing := true } }, by decide +kernel⟩,
   ⟨.ac0, (State.reset.fput (F.HDR_ENABLE 28) 1), by decide +kernel⟩,
   ⟨.ac0, ((State.reset.fput (F.HDR_ENABLE 28) 1).fput F.PTP_ACT_SEL 1), by decide +kernel⟩,
   ⟨⟨10000, 5000000000, true, false⟩, [], { (State.reset.fput (F.HDR_ENABLE 28) 1) with ptp := { steps := [⟨10000, 5000000000, true, false⟩] } }, by decide +kernel⟩⟩

theorem test_meets_SwitchAndPorts :
    (∃ (port : Fin 4) (s : State), s.awake = true ∧ s.portLink port = false) ∧
    (∃ (port : Fin 4) (frame : EthFrame) (s : State), s.awake = true ∧ s.portLink port = true ∧ rxBad frame = true ∧
      s.net.eg.toList.all (·.isEmpty) = true) ∧
    (∃ (port : Fin 4) (frame : EthFrame) (s : State), s.awake = true ∧ s.portLink port = true ∧ rxBad frame = false ∧
      (s.enabled Pg.SW = false ∨ isPause frame = true) ∧ s.net.eg.toList.all (·.isEmpty) = true) ∧
    (∃ (port : Fin 4) (frame : EthFrame) (q : Nat) (s : State), s.awake = true ∧ s.portLink port = true ∧ rxBad frame = false ∧
      s.enabled Pg.SW = true ∧ s.hsrOn = false ∧ isPause frame = false ∧ isReserved frame.dst = false ∧ isGroup frame.dst = false ∧
      frame.src ≠ frame.dst ∧ s.vlanMember (s.vidOf port frame) port = true ∧ s.fset F.SW_MODE_TC_EN = false ∧ s.learns port = true ∧
      s.forwards port = true ∧ s.targets port (s.vidOf port frame) frame = [q] ∧ q < 4 ∧ s.portLink q = true ∧
      s.net.eg.toList.all (·.isEmpty) = true ∧ s.lqOf q = [] ∧ s.busyTo q ≤ s.monoNow) ∧
    (∃ (port : Fin 4) (frame : EthFrame) (q : Nat) (s : State), s.awake = true ∧ s.portLink port = true ∧ rxBad frame = false ∧
      s.enabled Pg.SW = true ∧ s.hsrOn = false ∧ isPause frame = false ∧ isReserved frame.dst = false ∧ isGroup frame.dst = false ∧
      frame.src ≠ frame.dst ∧ s.vlanMember (s.vidOf port frame) port = true ∧ s.learns port = true ∧ s.forwards port = true ∧
      s.targets port (s.vidOf port frame) frame = [q] ∧ q < 4 ∧ s.portLink q = true ∧ s.net.eg.toList.all (·.isEmpty) = true ∧ s.monoNow < s.busyTo q) ∧
    (∃ (port : Fin 4) (frame : EthFrame) (transit : Nat) (q : Nat) (s : State), s.awake = true ∧ s.portLink port = true ∧ rxBad frame = false ∧
      s.enabled Pg.SW = true ∧ s.hsrOn = false ∧ isPause frame = false ∧ isReserved frame.dst = false ∧ isGroup frame.dst = false ∧
      frame.src ≠ frame.dst ∧ s.vlanMember (s.vidOf port frame) port = true ∧ s.learns port = true ∧ s.forwards port = true ∧
      s.targets port (s.vidOf port frame) frame = [q] ∧ q < 4 ∧ s.portLink q = true ∧ s.netRun.net.eg = s.net.eg ∧
      s.egRoom q (frameLength (s.dress q (s.ingressOf port transit frame).1 none frame)) = false) ∧
    (∃ (port : Fin 4) (s : State), s.awake = true ∧ s.linkable port = true ∧ s.portLink port = false ∧ s.net.eg.toList.all (·.isEmpty) = true) ∧
    (∃ (port : Fin 4) (s : State), s.awake = true ∧ s.portLink port = true ∧ s.lqOf port = [] ∧ s.net.eg.toList.all (·.isEmpty) = true) ∧
    (∃ (cage : Fin 2) (present : Bool) (los : Bool) (txFault : Bool) (s : State), s.live = true ∧
      (s.fset (F.MAC_STAT_SFP_PRES cage) ≠ present ∨ s.fset (F.MAC_STAT_SFP_LOS cage) ≠ los ∨ s.fset (F.MAC_STAT_SFP_TXFLT cage) ≠ txFault) ∧
      s.lqOf cage = [] ∧ s.egOf cage = []) ∧
    (∃ (k : Nat) (p : Nat) (x : Nat) (s : State), s.awake = true ∧ oldestEntry s.net.fdb = some (k, p, x)) ∧
    (∃ (req : Req) (s : State), s.awake = true ∧ s.opens req R.SW_FDB_FLUSH = true) ∧
    (∃ (req : Req) (s : State), s.awake = true ∧ s.opens req R.SW_FDB_FLUSH = true) ∧
    (∃ (e : HsrEnt) (s : State), s.awake = true ∧ s.net.hsr.find? (fun x => !x.matched) = some e) :=
  ⟨⟨1, State.reset, by decide +kernel⟩,
   ⟨2, { dst := 5, src := 6, tag := none, hsr := none, etype := 0x88B5, data := [], fcsOk := true }, ((((State.reset.fput (F.HDR_ENABLE 29) 1).fput (F.MAC_STAT_LINK 2) 1).fput (F.MAC_STAT_LINK 3) 1).wr R.SW_PORT_STATE 0x3FF), by decide +kernel⟩,
   ⟨2, { dst := 5, src := 6, tag := none, hsr := none, etype := 0x88B5, data := List.replicate 46 0, fcsOk := true }, (State.reset.fput (F.MAC_STAT_LINK 2) 1), by decide +kernel⟩,
   ⟨2, { dst := 5, src := 6, tag := none, hsr := none, etype := 0x88B5, data := List.replicate 46 0, fcsOk := true }, 3, { (((((State.reset.fput (F.HDR_ENABLE 29) 1).fput (F.MAC_STAT_LINK 2) 1).fput (F.MAC_STAT_LINK 3) 1).wr R.SW_PORT_STATE 0x3FF).wr (R.SW_PVID 2) 1) with net := { fdb := [(2 ^ 48 + 5, (3, 0))] } }, by decide +kernel⟩,
   ⟨2, { dst := 5, src := 6, tag := none, hsr := none, etype := 0x88B5, data := List.replicate 46 0, fcsOk := true }, 3, { (((((State.reset.fput (F.HDR_ENABLE 29) 1).fput (F.MAC_STAT_LINK 2) 1).fput (F.MAC_STAT_LINK 3) 1).wr R.SW_PORT_STATE 0x3FF).wr (R.SW_PVID 2) 1) with net := { fdb := [(2 ^ 48 + 5, (3, 0))], busy := #v[0, 0, 0, 5000] } }, by decide +kernel⟩,
   ⟨2, { dst := 5, src := 6, tag := none, hsr := none, etype := 0x88B5, data := List.replicate 46 0, fcsOk := true }, 0, 3, { (((((State.reset.fput (F.HDR_ENABLE 29) 1).fput (F.MAC_STAT_LINK 2) 1).fput (F.MAC_STAT_LINK 3) 1).wr R.SW_PORT_STATE 0x3FF).wr (R.SW_PVID 2) 1) with net := { fdb := [(2 ^ 48 + 5, (3, 0))], busy := #v[0, 0, 0, 5000], eg := (Vector.replicate 4 []).set 3 [{ queue := 0, at_ := 0, transit := 0, frame := { dst := 5, src := 6, tag := none, hsr := none, etype := 5, data := List.replicate 2100000 0, fcsOk := true } }] } }, by decide +kernel, by decide +kernel, by decide +kernel, by decide +kernel, by decide +kernel, by decide +kernel, by decide +kernel, by decide +kernel, by decide +kernel, by decide +kernel, by decide +kernel, by decide +kernel, by decide +kernel, by decide +kernel, by decide +kernel, congrArg (fun x => x.net.eg) (Sys2Proof.Laws.netRun_waits _ (by decide +kernel)), Sys2Proof.Laws.egRoom_full _ _ _ (by decide +kernel) (Nat.lt_of_lt_of_le (by rw [List.length_replicate]; decide) (Sys2Proof.Laws.egBytes_one _ 3 _ rfl))⟩,
   ⟨2, (State.reset.fput (F.HDR_ENABLE 32) 1), by decide +kernel⟩,
   ⟨2, ((((State.reset.fput (F.HDR_ENABLE 29) 1).fput (F.MAC_STAT_LINK 2) 1).fput (F.MAC_STAT_LINK 3) 1).wr R.SW_PORT_STATE 0x3FF), by decide +kernel⟩,
   ⟨1, true, false, false, State.reset, by decide +kernel⟩,
   ⟨281474976710661, 3, 0, { (State.reset.fput (F.HDR_ENABLE 29) 1) with net := { fdb := [(2 ^ 48 + 5, (3, 0))] } }, by decide +kernel⟩,
   ⟨.ac2, { { (State.reset.fput (F.HDR_ENABLE 29) 1) with pins := {} } with net := { fdb := [(2 ^ 48 + 5, (3, 0))] } }, by decide +kernel⟩,
   ⟨.ac0, { (State.reset.fput (F.HDR_ENABLE 29) 1) with net := { fdb := [(2 ^ 48 + 5, (3, 0))] } }, by decide +kernel⟩,
   ⟨⟨6, 1, 0, 0, false⟩, { (State.reset.fput (F.HDR_ENABLE 29) 1) with net := { hsr := [⟨6, 1, 0, 0, false⟩] } }, by decide +kernel⟩⟩

theorem test_meets_RingsAndServices :
    (∃ (req : Req) (v : BitVec 17) (s : State), s.awake = true ∧ s.opens req R.MAC4_TX_WR = true ∧
      idxDiff (s.fget F.MAC4_TX_WR_INDEX) (s.fget F.MAC4_TX_RD_INDEX) ≤ idxDiff v.toNat (s.fget F.MAC4_TX_RD_INDEX) ∧
      idxDiff v.toNat (s.fget F.MAC4_TX_RD_INDEX) ≤ s.fget F.MAC4_TX_SIZE_ENTRIES) ∧
    (∃ (req : Req) (v : BitVec 17) (s : State), s.awake = true ∧ s.opens req R.MAC4_TX_WR = true ∧
      s.fget F.MAC4_TX_SIZE_ENTRIES < idxDiff v.toNat (s.fget F.MAC4_TX_RD_INDEX)) ∧
    (∃ (req : Req) (v : BitVec 17) (s : State), s.awake = true ∧ s.opens req R.MAC4_RX_RD = true ∧
      idxDiff v.toNat (s.fget F.MAC4_RX_RD_INDEX) ≤ idxDiff (s.fget F.MAC4_RX_WR_INDEX) (s.fget F.MAC4_RX_RD_INDEX)) ∧
    (∃ (req : Req) (v : BitVec 17) (s : State), s.awake = true ∧ s.opens req R.MAC4_RX_RD = true ∧
      idxDiff (s.fget F.MAC4_RX_WR_INDEX) (s.fget F.MAC4_RX_RD_INDEX) < idxDiff v.toNat (s.fget F.MAC4_RX_RD_INDEX)) ∧
    (∃ (s : State), s.awake = true ∧ s.enabled Pg.MAC4 = true ∧ s.net.txNext ≠ s.fget F.MAC4_TX_WR_INDEX ∧
      s.le ((s.txDesc s.net.txNext) + 8) 2 < 60 ∧ s.net.eg.toList.all (·.isEmpty) = true) ∧
    (∃ (p : Nat) (s : State), s.awake = true ∧ s.enabled Pg.MAC4 = true ∧ s.net.txNext ≠ s.fget F.MAC4_TX_WR_INDEX ∧
      60 ≤ s.le ((s.txDesc s.net.txNext) + 8) 2 ∧ s.le ((s.txDesc s.net.txNext) + 8) 2 ≤ 1514 ∧
      inP4Memory (s.le (s.txDesc s.net.txNext) 8) (s.le ((s.txDesc s.net.txNext) + 8) 2) = true ∧
      (List.range 4).filter (fun p => (s.byte ((s.txDesc s.net.txNext) + 10)).getLsbD p) = [p] ∧ s.le ((s.txDesc s.net.txNext) + 16) 8 = 0 ∧
      (s.byte ((s.txDesc s.net.txNext) + 11)).getLsbD 0 = false ∧ s.hsrOn = false ∧ s.portLink p = true ∧ s.net.eg.toList.all (·.isEmpty) = true ∧
      s.busyTo p ≤ s.monoNow ∧ s.lqOf p = []) ∧
    (∃ (port : Fin 4) (e : LqEnt) (l : List LqEnt) (s : State), s.awake = true ∧ s.lqOf port = e :: l ∧ e.dropLate = false ∧ s.hsrOn = false ∧
      s.portLink port = true ∧ s.net.eg.toList.all (·.isEmpty) = true) ∧
    (∃ (port : Fin 4) (e : LqEnt) (s : State), s.awake = true ∧ (s.lqOf port).find? (·.dropLate) = some e) ∧
    (∃ (req : Req) (slot : Fin 8192) (w : Word64) (s : State), s.awake = true ∧ s.cmdGrant req slot (bits64 w 15 0) = true) ∧
    (∃ (req : Req) (slot : Fin 8192) (w : Word64) (s : State), s.awake = true ∧ s.cmdGrant req slot (bits64 w 15 0) = false) ∧
    (∃ (s : State), s.awake = true ∧ s.isActive = true) ∧
    (∃ (s : State), s.awake = true ∧ s.isActive = true ∧ s.fset F.SYS_STAT_DRAM_READY = true) :=
  ⟨⟨.ac0, 5, (((((State.reset.fput (F.HDR_ENABLE 34) 1).wr R.MAC4_TX_BASE_LO 0x10000000).wr R.MAC4_TX_BASE_HI 2).fput F.MAC4_TX_SIZE_ENTRIES 64).fput F.MAC4_TX_WR_INDEX 3), by decide +kernel⟩,
   ⟨.ac0, 65, (((((State.reset.fput (F.HDR_ENABLE 34) 1).wr R.MAC4_TX_BASE_LO 0x10000000).wr R.MAC4_TX_BASE_HI 2).fput F.MAC4_TX_SIZE_ENTRIES 64).fput F.MAC4_TX_WR_INDEX 3), by decide +kernel⟩,
   ⟨.ac0, 0, (((((State.reset.fput (F.HDR_ENABLE 34) 1).wr R.MAC4_TX_BASE_LO 0x10000000).wr R.MAC4_TX_BASE_HI 2).fput F.MAC4_TX_SIZE_ENTRIES 64).fput F.MAC4_TX_WR_INDEX 3), by decide +kernel⟩,
   ⟨.ac0, 1, (((((State.reset.fput (F.HDR_ENABLE 34) 1).wr R.MAC4_TX_BASE_LO 0x10000000).wr R.MAC4_TX_BASE_HI 2).fput F.MAC4_TX_SIZE_ENTRIES 64).fput F.MAC4_TX_WR_INDEX 3), by decide +kernel⟩,
   ⟨(((((State.reset.fput (F.HDR_ENABLE 34) 1).wr R.MAC4_TX_BASE_LO 0x10000000).wr R.MAC4_TX_BASE_HI 2).fput F.MAC4_TX_SIZE_ENTRIES 64).fput F.MAC4_TX_WR_INDEX 3), by decide +kernel⟩,
   ⟨2, (((((((((State.reset.fput (F.HDR_ENABLE 34) 1).wr R.MAC4_TX_BASE_LO 0x10000000).wr R.MAC4_TX_BASE_HI 2).fput F.MAC4_TX_SIZE_ENTRIES 64).fput F.MAC4_TX_WR_INDEX 3).fput (F.MAC_STAT_LINK 2) 1).setLe 0x210000000 8 0x210001000).setLe 0x210000008 2 60).setLe 0x21000000A 1 4), by decide +kernel⟩,
   ⟨2, { launch := 50000, idx := 0, dropLate := false, both := false, pcp := 0, frame := { dst := 5, src := 6, tag := none, hsr := none, etype := 0x88B5, data := List.replicate 46 0, fcsOk := true } }, [], { ((((((State.reset.fput (F.HDR_ENABLE 34) 1).wr R.MAC4_TX_BASE_LO 0x10000000).wr R.MAC4_TX_BASE_HI 2).fput F.MAC4_TX_SIZE_ENTRIES 64).fput F.MAC4_TX_WR_INDEX 3).fput (F.MAC_STAT_LINK 2) 1) with net := { lq := (Vector.replicate 4 []).set 2 [{ launch := 50000, idx := 0, dropLate := false, both := false, pcp := 0, frame := { dst := 5, src := 6, tag := none, hsr := none, etype := 0x88B5, data := List.replicate 46 0, fcsOk := true } }] } }, by decide +kernel⟩,
   ⟨2, { launch := 50000, idx := 0, dropLate := true, both := false, pcp := 0, frame := { dst := 5, src := 6, tag := none, hsr := none, etype := 0x88B5, data := List.replicate 46 0, fcsOk := true } }, { ((((((State.reset.fput (F.HDR_ENABLE 34) 1).wr R.MAC4_TX_BASE_LO 0x10000000).wr R.MAC4_TX_BASE_HI 2).fput F.MAC4_TX_SIZE_ENTRIES 64).fput F.MAC4_TX_WR_INDEX 3).fput (F.MAC_STAT_LINK 2) 1) with net := { lq := (Vector.replicate 4 []).set 2 [{ launch := 50000, idx := 0, dropLate := true, both := false, pcp := 0, frame := { dst := 5, src := 6, tag := none, hsr := none, etype := 0x88B5, data := List.replicate 46 0, fcsOk := true } }] } }, by decide +kernel⟩,
   ⟨.ac2, 9, 0x500001004, ((State.reset.fput F.CMPT_CUR2_SESSION 1).fput F.CMPT_CUR2_COMP 0), by decide +kernel⟩,
   ⟨.ac0, 9, 5, State.reset, by decide +kernel⟩,
   ⟨State.reset, by decide +kernel⟩,
   ⟨(State.reset.fput F.SYS_STAT_DRAM_READY 1), by decide +kernel⟩⟩

theorem test_meets_Handshakes :
    (∃ (core : Fin 4) (src : Word64) (len : Word) (out : Word) (reply : List Byte) (s : State), s.awake = true ∧ s.upd.hold = false ∧
      s.fset (F.ANC_RSP_BUSY core) = false ∧ s.trust.otp.decom = false ∧
      (s.session (Req.ofCore core) = none ∨ s.session (Req.ofCore core) = some 0) ∧ mboxRange core src.toNat len.toNat = true ∧
      mboxRange core (src.toNat / 2 ^ 32 * 2 ^ 32 + out.toNat) reply.length = true ∧ s.ecc.all (fun e => eccInst e.1 != some 5) = true) ∧
    (∃ (core : Fin 4) (src : Word64) (len : Word) (out : Word) (reply : List Byte) (s : State), s.awake = true ∧ s.upd.hold = false ∧
      s.fset (F.ANC_RSP_BUSY core) = false ∧ s.trust.otp.decom = false ∧
      (s.session (Req.ofCore core) = none ∨ s.session (Req.ofCore core) = some 0) ∧ mboxRange core src.toNat len.toNat = true ∧
      mboxRange core (src.toNat / 2 ^ 32 * 2 ^ 32 + out.toNat) reply.length = true ∧ s.cmpt.sessions.length < 256 ∧
      s.ecc.all (fun e => eccInst e.1 != some 5) = true) ∧
    (∃ (core : Fin 4) (src : Word64) (len : Word) (s : State), s.awake = true ∧ s.upd.hold = false ∧ s.fset (F.ANC_RSP_BUSY core) = false ∧
      s.trust.otp.decom = false ∧ (s.session (Req.ofCore core) = none ∨ s.session (Req.ofCore core) = some 0) ∧
      mboxRange core src.toNat len.toNat = false ∧ s.ecc.all (fun e => eccInst e.1 != some 5) = true) ∧
    (∃ (core : Fin 4) (handle : Word) (x : Session) (s : State), s.awake = true ∧ s.upd.hold = false ∧ s.fset (F.ANC_RSP_BUSY core) = false ∧
      s.trust.otp.decom = false ∧ 2 ≤ core.val ∧ tabFind s.cmpt.sessions handle.toNat = some x ∧ handle.toNat < 65536 ∧ x.comp < 64 ∧
      s.isActive = true ∧ (x.comp = 0 ∨ (s.fset F.SYS_STAT_DRAM_READY = true ∧ s.cmpt.wiping.contains x.comp = false)) ∧
      s.ecc.all (fun e => eccInst e.1 != some 5) = true) ∧
    (∃ (core : Fin 4) (handle : Word) (s : State), s.awake = true ∧ s.upd.hold = false ∧ s.fset (F.ANC_RSP_BUSY core) = false ∧
      s.trust.otp.decom = false ∧ 2 ≤ core.val ∧ tabFind s.cmpt.sessions handle.toNat = none ∧ s.ecc.all (fun e => eccInst e.1 != some 5) = true) ∧
    (∃ (core : Fin 4) (s : State), s.awake = true ∧ s.upd.hold = false ∧ s.fset (F.ANC_RSP_BUSY core) = false ∧ s.trust.otp.decom = false ∧
      2 ≤ core.val ∧ s.ecc.all (fun e => eccInst e.1 != some 5) = true) ∧
    (∃ (core : Fin 4) (s : State), s.awake = true ∧ s.upd.hold = false ∧ s.fset (F.ANC_RSP_BUSY core) = false ∧ s.trust.otp.decom = false ∧
      core.val < 2 ∧ s.ecc.all (fun e => eccInst e.1 != some 5) = true) ∧
    (∃ (s : State), s.awake = true) :=
  ⟨⟨0, 0x10ED0000, 16, 0x10ED0100, [1, 2, 3], State.reset, by decide +kernel⟩,
   ⟨2, 0x10EE0000, 16, 0x10EE0100, [1, 2, 3], State.reset, by decide +kernel⟩,
   ⟨0, 0x10000000, 16, State.reset, by decide +kernel⟩,
   ⟨2, 7, { comp := 3, idle := 300, lastUse := 0 }, { (State.reset.fput F.SYS_STAT_DRAM_READY 1) with cmpt := { sessions := [(7, { comp := 3, idle := 300, lastUse := 0 })] } }, by decide +kernel⟩,
   ⟨2, 8, { State.reset with cmpt := { sessions := [(7, { comp := 3, idle := 300, lastUse := 0 })] } }, by decide +kernel⟩,
   ⟨2, { ((State.reset.wr R.CMPT_CUR2 0x70103).fput F.SYS_STAT_DRAM_READY 1) with cmpt := { sessions := [(7, { comp := 3, idle := 300, lastUse := 0 })] } }, by decide +kernel⟩,
   ⟨1, State.reset, by decide +kernel⟩,
   ⟨State.reset, by decide +kernel⟩⟩

theorem test_meets_SessionRecords :
    (∃ (core : Fin 4) (src : Word64) (len : Word) (dst : Word) (b : List Byte) (h : Nat) (n : Nat) (s : State), s.awake = true ∧
      s.upd.hold = false ∧ s.fset (F.ANC_RSP_BUSY core) = false ∧ s.trust.otp.decom = false ∧ 2 ≤ core.val ∧ s.coreHandle (core.val - 2) = some h ∧
      s.session (Req.ofCore core) = some n ∧ inService src.toNat len.toNat = true ∧ inPlain n (plainBase n + dst.toNat) b.length = true ∧
      s.ecc.all (fun e => eccInst e.1 != some 5) = true) ∧
    (∃ (core : Fin 4) (src : Word64) (len : Word) (h : Nat) (n : Nat) (s : State), s.awake = true ∧ s.upd.hold = false ∧
      s.fset (F.ANC_RSP_BUSY core) = false ∧ s.trust.otp.decom = false ∧ 2 ≤ core.val ∧ s.coreHandle (core.val - 2) = some h ∧
      s.session (Req.ofCore core) = some n ∧ inService src.toNat len.toNat = true ∧ (tabFind s.cmpt.sessions h).isSome = true ∧
      s.ecc.all (fun e => eccInst e.1 != some 5) = true) ∧
    (∃ (core : Fin 4) (src : Word64) (len : Word) (dst : Word) (b : List Byte) (h : Nat) (n : Nat) (s : State), s.awake = true ∧
      s.upd.hold = false ∧ s.fset (F.ANC_RSP_BUSY core) = false ∧ s.trust.otp.decom = false ∧ 2 ≤ core.val ∧ s.coreHandle (core.val - 2) = some h ∧
      s.session (Req.ofCore core) = some n ∧ inPlain n src.toNat len.toNat = true ∧ len.toNat ≤ 16384 ∧
      inService (0x210000000 + dst.toNat) b.length = true ∧ s.ecc.all (fun e => eccInst e.1 != some 5) = true) ∧
    (∃ (core : Fin 4) (src : Word64) (len : Word) (h : Nat) (n : Nat) (s : State), s.awake = true ∧ s.upd.hold = false ∧
      s.fset (F.ANC_RSP_BUSY core) = false ∧ s.trust.otp.decom = false ∧ 2 ≤ core.val ∧ s.coreHandle (core.val - 2) = some h ∧
      s.session (Req.ofCore core) = some n ∧ inPlain n src.toNat len.toNat = true ∧ len.toNat ≤ 16384 ∧ (tabFind s.cmpt.sessions h).isSome = true ∧
      s.ecc.all (fun e => eccInst e.1 != some 5) = true) ∧
    (∃ (core : Fin 4) (handle : Word) (s : State), s.awake = true ∧ s.upd.hold = false ∧ s.fset (F.ANC_RSP_BUSY core) = false ∧
      s.trust.otp.decom = false ∧ s.mayClose core handle.toNat = true ∧ (tabFind s.cmpt.sessions handle.toNat).isSome = true ∧
      s.ecc.all (fun e => eccInst e.1 != some 5) = true) ∧
    (∃ (core : Fin 4) (handle : Word) (s : State), s.awake = true ∧ s.upd.hold = false ∧ s.fset (F.ANC_RSP_BUSY core) = false ∧
      s.trust.otp.decom = false ∧ s.mayClose core handle.toNat = true ∧ (tabFind s.cmpt.sessions handle.toNat).isSome = false ∧
      s.ecc.all (fun e => eccInst e.1 != some 5) = true) ∧
    (∃ (handle : BitVec 16) (s : State), s.awake = true ∧ (tabFind s.cmpt.sessions handle.toNat).isSome = true) ∧
    (∃ (n : Fin 64) (s : State), s.awake = true ∧ s.cmpt.wiping.contains n.val = true) :=
  ⟨⟨2, 0x210000000, 32, 0, [5, 6], 7, 3, { ((State.reset.wr R.CMPT_CUR2 0x70103).fput F.SYS_STAT_DRAM_READY 1) with cmpt := { sessions := [(7, { comp := 3, idle := 300, lastUse := 0 })] } }, by decide +kernel⟩,
   ⟨2, 0x210000000, 32, 7, 3, { ((State.reset.wr R.CMPT_CUR2 0x70103).fput F.SYS_STAT_DRAM_READY 1) with cmpt := { sessions := [(7, { comp := 3, idle := 300, lastUse := 0 })] } }, by decide +kernel⟩,
   ⟨2, 0x2F0C00000, 16, 0x100, [5, 6], 7, 3, { ((State.reset.wr R.CMPT_CUR2 0x70103).fput F.SYS_STAT_DRAM_READY 1) with cmpt := { sessions := [(7, { comp := 3, idle := 300, lastUse := 0 })] } }, by decide +kernel⟩,
   ⟨2, 0x2F0C00000, 16, 7, 3, { ((State.reset.wr R.CMPT_CUR2 0x70103).fput F.SYS_STAT_DRAM_READY 1) with cmpt := { sessions := [(7, { comp := 3, idle := 300, lastUse := 0 })] } }, by decide +kernel⟩,
   ⟨2, 7, { ((State.reset.wr R.CMPT_CUR2 0x70103).fput F.SYS_STAT_DRAM_READY 1) with cmpt := { sessions := [(7, { comp := 3, idle := 300, lastUse := 0 })] } }, by decide +kernel⟩,
   ⟨0, 9, { State.reset with cmpt := { sessions := [(7, { comp := 3, idle := 300, lastUse := 0 })] } }, by decide +kernel⟩,
   ⟨7, { ((State.reset.wr R.CMPT_CUR2 0x70103).fput F.SYS_STAT_DRAM_READY 1) with cmpt := { sessions := [(7, { comp := 3, idle := 300, lastUse := 0 })] } }, by decide +kernel⟩,
   ⟨3, { (State.reset.setLe 0x2F0C00010 8 5) with cmpt := { wiping := [3] } }, by decide +kernel⟩⟩

theorem test_meets_LanesAndHeartbeats :
    (∃ (lane : Fin 2) (s : State), s.awake = true ∧ s.enabled Pg.BEL = true ∧ s.fset (laneLockFld lane) = false ∧ s.bit R.CLK_LOST 8 = false) ∧
    (∃ (lane : Fin 2) (s : State), s.awake = true ∧ s.enabled Pg.BEL = true ∧ s.fset (laneLockFld lane) = true ∧ s.fset (laneUpFld lane) = false) ∧
    (∃ (lane : Fin 2) (s : State), s.awake = true ∧ s.enabled Pg.BEL = true ∧ s.fset (laneUpFld lane) = true ∧
      s.fset (laneUpFld (1 - lane.val)) = true) ∧
    (∃ (lane : Fin 2) (s : State), s.awake = true ∧ s.enabled Pg.BEL = true ∧ s.fset (laneUpFld lane) = true ∧
      s.fset (laneUpFld (1 - lane.val)) = false ∧ s.role = 1 ∧ s.pairState ≠ 0) ∧
    (∃ (lane : Fin 2) (s : State), s.awake = true ∧ s.enabled Pg.BEL = true ∧ s.fset (laneUpFld lane) = true ∧
      s.fset (laneUpFld (1 - lane.val)) = false ∧ s.role = 2 ∧ (s.pairState = 1 ∨ s.pairState = 2)) ∧
    (∃ (n : Nat) (s : State), s.awake = true ∧ s.enabled Pg.BEL = true ∧ n < 16) ∧
    (∃ (s : State), s.awake = true ∧ s.enabled Pg.BEL = true) ∧
    (∃ (s : State), s.awake = true ∧ s.enabled Pg.BEL = true ∧ s.anyLock = true ∧ s.steered = false) ∧
    (∃ (s : State), s.awake = true ∧ s.enabled Pg.BEL = true ∧ s.anyLock = true ∧ s.steered = true) ∧
    (∃ (s : State), s.awake = true ∧ s.enabled Pg.BEL = true ∧ s.bel.hbIn.isSome = true ∧ s.bel.miss < 3) ∧
    (∃ (s : State), s.awake = true ∧ s.enabled Pg.BEL = true ∧ s.bel.hbIn.isSome = true ∧ 3 ≤ s.bel.miss ∧ s.anyLock = true ∧ s.role = 2 ∧
      s.pairState = 3 ∧ s.bel.promote = none ∧ s.bel.handing = false) ∧
    (∃ (s : State), s.awake = true ∧ s.enabled Pg.BEL = true ∧ s.role = 2 ∧ s.pairState = 3 ∧ s.bel.promote = none ∧ s.bel.handing = false) ∧
    (∃ (s : State), s.awake = true ∧ s.enabled Pg.BEL = true ∧ (s.role ≠ 2 ∨ s.pairState ≠ 3)) ∧
    (∃ (s : State), s.awake = true ∧ s.enabled Pg.BEL = true ∧ s.role = 2 ∧ s.pairState = 3 ∧ 4 ≤ s.bel.miss ∧ s.anyLock = false ∧
      s.bel.promote = none ∧ s.bel.handing = false ∧ s.bel.foreign.all (fun x => decide (x.2 < s.bel.lossAt)) = true) ∧
    (∃ (f : Nat × Nat) (s : State), s.awake = true ∧ s.enabled Pg.BEL = true ∧ s.role = 2 ∧ s.pairState = 3 ∧ 4 ≤ s.bel.miss ∧ s.anyLock = false ∧
      s.bel.promote = none ∧ s.bel.foreign = some f ∧ s.bel.lossAt ≤ f.2) :=
  ⟨⟨1, (State.reset.fput (F.HDR_ENABLE 35) 1), by decide +kernel⟩,
   ⟨1, ((State.reset.fput (F.HDR_ENABLE 35) 1).fput F.BEL_LANE_LOCK1 1), by decide +kernel⟩,
   ⟨0, (((((State.reset.fput (F.HDR_ENABLE 35) 1).fput F.BEL_LANE_LOCK0 1).fput F.BEL_LANE_UP0 1).fput F.BEL_LANE_LOCK1 1).fput F.BEL_LANE_UP1 1), by decide +kernel⟩,
   ⟨0, (((((State.reset.fput (F.HDR_ENABLE 35) 1).fput F.BEL_LANE_LOCK0 1).fput F.BEL_LANE_UP0 1).fput F.BEL_ROLE_ROLE 1).fput F.BEL_ROLE_PAIR 3), by decide +kernel⟩,
   ⟨1, (((((State.reset.fput (F.HDR_ENABLE 35) 1).fput F.BEL_LANE_LOCK1 1).fput F.BEL_LANE_UP1 1).fput F.BEL_ROLE_ROLE 2).fput F.BEL_ROLE_PAIR 2), by decide +kernel⟩,
   ⟨3, (State.reset.fput (F.HDR_ENABLE 35) 1), by decide +kernel⟩,
   ⟨(State.reset.fput (F.HDR_ENABLE 35) 1), by decide +kernel⟩,
   ⟨((State.reset.fput (F.HDR_ENABLE 35) 1).fput F.BEL_LANE_LOCK0 1), by decide +kernel⟩,
   ⟨((((State.reset.fput (F.HDR_ENABLE 35) 1).fput F.BEL_LANE_LOCK0 1).fput F.BEL_ROLE_ROLE 2).fput F.BEL_ROLE_PAIR 3), by decide +kernel⟩,
   ⟨{ (State.reset.fput (F.HDR_ENABLE 35) 1) with bel := { hbIn := some ⟨0, 0, 0, false⟩ } }, by decide +kernel⟩,
   ⟨{ ((((State.reset.fput (F.HDR_ENABLE 35) 1).fput F.BEL_LANE_LOCK0 1).fput F.BEL_ROLE_ROLE 2).fput F.BEL_ROLE_PAIR 3) with bel := { hbIn := some ⟨0, 0, 0, false⟩, miss := 3 } }, by decide +kernel⟩,
   ⟨(((State.reset.fput (F.HDR_ENABLE 35) 1).fput F.BEL_ROLE_ROLE 2).fput F.BEL_ROLE_PAIR 3), by decide +kernel⟩,
   ⟨(State.reset.fput (F.HDR_ENABLE 35) 1), by decide +kernel⟩,
   ⟨{ (((State.reset.fput (F.HDR_ENABLE 35) 1).fput F.BEL_ROLE_ROLE 2).fput F.BEL_ROLE_PAIR 3) with bel := { miss := 4 } }, by decide +kernel⟩,
   ⟨(5, 6), { (((State.reset.fput (F.HDR_ENABLE 35) 1).fput F.BEL_ROLE_ROLE 2).fput F.BEL_ROLE_PAIR 3) with bel := { miss := 4, foreign := some (5, 6) } }, by decide +kernel⟩⟩

theorem test_meets_IdentityRolesAndImages :
    (∃ (s : State), s.awake = true ∧ s.enabled Pg.BEL = true ∧ s.anyLock = true) ∧
    (∃ (m : IdMsg) (s : State), s.awake = true ∧ s.enabled Pg.BEL = true ∧ s.anyLock = true ∧ s.pairState = 0 ∧ s.bel.decided = true ∧ s.role = 0 ∧
      m.starting = false ∧ m.sideB ≠ s.pins.sideB ∧ 2 ≤ m.role.val ∧ m.image ≠ s.bel.imgDigest ∧ m.build = s.trust.build) ∧
    (∃ (m : IdMsg) (s : State), s.awake = true ∧ s.enabled Pg.BEL = true ∧ s.anyLock = true ∧ s.pairState = 0 ∧ s.bel.decided = true ∧ s.role = 0 ∧
      m.starting = false ∧ m.sideB ≠ s.pins.sideB ∧ 2 ≤ m.role.val ∧ m.image = s.bel.imgDigest ∧ m.program = s.bel.progDigest ∧
      m.build = s.trust.build) ∧
    (∃ (m : IdMsg) (s : State), s.awake = true ∧ s.enabled Pg.BEL = true ∧ s.anyLock = true ∧ s.pairState = 0 ∧ s.bel.decided = true ∧ s.role = 0 ∧
      m.starting = false ∧ m.sideB ≠ s.pins.sideB ∧ 2 ≤ m.role.val ∧ m.build ≠ s.trust.build ∧
      s.flash.boot.valid.toList.getD (1 - boolNat s.flash.boot.activeB) false = false) ∧
    (∃ (m : IdMsg) (s : State), s.awake = true ∧ s.enabled Pg.BEL = true ∧ s.anyLock = true ∧ 2 ≤ s.pairState ∧ s.role = 1 ∧
      m.sideB ≠ s.pins.sideB ∧ m.role.val = 2 ∧ m.pair.val = 1 ∧ m.build ≠ s.trust.build ∧
      s.flash.boot.valid.toList.getD (1 - boolNat s.flash.boot.activeB) false = false) ∧
    (∃ (m : IdMsg) (s : State), s.awake = true ∧ s.enabled Pg.BEL = true ∧ s.anyLock = true ∧ m.sideB = s.pins.sideB ∧ s.pairState = 0 ∧
      m.role.val ≠ 1 ∧ s.bel.conflict = false) ∧
    (∃ (m : IdMsg) (s : State), s.awake = true ∧ s.enabled Pg.BEL = true ∧ s.anyLock = true ∧ m.sideB = s.pins.sideB ∧ s.pairState = 0 ∧
      m.role.val ≠ 1 ∧ s.bel.conflict = true) ∧
    (∃ (s : State), s.awake = true ∧ s.enabled Pg.BEL = true ∧ s.bel.decided = false ∧ s.bel.partner = none ∧ s.bel.foreign = none) ∧
    (∃ (f : Nat × Nat) (s : State), s.awake = true ∧ s.enabled Pg.BEL = true ∧ s.bel.decided = false ∧ s.bel.partner = none ∧ s.bel.foreign = some f) ∧
    (∃ (m : IdMsg) (s : State), s.awake = true ∧ s.enabled Pg.BEL = true ∧ s.bel.decided = false ∧ s.bel.partner = some m ∧ m.sideB ≠ s.pins.sideB ∧
      m.starting = true ∧ m.image ≠ s.bel.imgDigest ∧ m.build = s.trust.build) ∧
    (∃ (m : IdMsg) (s : State), s.awake = true ∧ s.enabled Pg.BEL = true ∧ s.bel.decided = false ∧ s.bel.partner = some m ∧ m.sideB ≠ s.pins.sideB ∧
      m.starting = false ∧ m.role.val < 2 ∧ m.image ≠ s.bel.imgDigest ∧ m.build = s.trust.build) ∧
    (∃ (s : State), s.awake = true ∧ s.enabled Pg.BEL = true ∧ s.standby = true ∧ s.pairState ≠ 3 ∧ s.bel.promote = none ∧ s.ckptBest = none) ∧
    (∃ (s : State), s.awake = true ∧ s.enabled Pg.BEL = true ∧ s.pairState = 2 ∧ s.role = 1 ∧ s.upd.pairStep ≠ 1) ∧
    (∃ (s : State), s.awake = true ∧ s.pins.ready = false ∧ s.boot.rtRun = true ∧ s.boot.recovery = false ∧ s.stageBefore 7 = false) ∧
    (∃ (c : ConfigImage) (s : State), s.awake = true ∧ s.pins.ready = true ∧ (cfgExceeds c).isSome = true ∧ s.boot.rtRun = true ∧
      s.boot.recovery = false ∧ s.stageBefore 7 = false) ∧
    (∃ (c : ConfigImage) (s : State), s.awake = true ∧ s.enabled Pg.BEL = false ∧ s.pins.ready = false ∧ cfgExceeds c = none ∧ s.boot.rtRun = true ∧
      s.boot.recovery = false ∧ s.stageBefore 7 = false) ∧
    (∃ (o : Nat) (m : IdMsg) (s : State), s.awake = true ∧ s.enabled Pg.BEL = true ∧ s.role = 2 ∧ s.pairState = 1 ∧ s.bel.partner = some m ∧
      m.image = s.bel.imgDigest ∧ m.build = s.trust.build ∧ s.bel.hbIn = none ∧ o < 0x400000) ∧
    (∃ (m : IdMsg) (s : State), s.awake = true ∧ s.enabled Pg.BEL = true ∧ s.bel.partner = some m ∧ m.build ≠ s.trust.build) ∧
    (∃ (c : ConfigImage) (m : IdMsg) (s : State), s.awake = true ∧ s.enabled Pg.BEL = true ∧ s.role = 2 ∧ s.pairState = 1 ∧ s.bel.decided = true ∧
      s.bel.partner = some m ∧ m.image = c.digest ∧ m.program = s.bel.progDigest ∧ m.build = s.trust.build ∧ s.bel.hbIn = none ∧ cfgExceeds c = none) :=
  ⟨⟨((State.reset.fput (F.HDR_ENABLE 35) 1).fput F.BEL_LANE_LOCK0 1), by decide +kernel⟩,
   ⟨{ sideB := true, role := 2, starting := false, pair := 0, serial := 2, image := 7, program := 0, build := 0, pfw := false, lanes := 0, busOff := 0, eccBad := 0 }, { ((State.reset.fput (F.HDR_ENABLE 35) 1).fput F.BEL_LANE_LOCK0 1) with bel := { decided := true } }, by decide +kernel⟩,
   ⟨{ sideB := true, role := 2, starting := false, pair := 0, serial := 2, image := 0, program := 0, build := 0, pfw := false, lanes := 0, busOff := 0, eccBad := 0 }, { ((State.reset.fput (F.HDR_ENABLE 35) 1).fput F.BEL_LANE_LOCK0 1) with bel := { decided := true } }, by decide +kernel⟩,
   ⟨{ sideB := true, role := 2, starting := false, pair := 0, serial := 2, image := 0, program := 0, build := 7, pfw := false, lanes := 0, busOff := 0, eccBad := 0 }, { ((State.reset.fput (F.HDR_ENABLE 35) 1).fput F.BEL_LANE_LOCK0 1) with bel := { decided := true } }, by decide +kernel⟩,
   ⟨{ sideB := true, role := 2, starting := false, pair := 1, serial := 2, image := 0, program := 0, build := 7, pfw := false, lanes := 0, busOff := 0, eccBad := 0 }, { ((((State.reset.fput (F.HDR_ENABLE 35) 1).fput F.BEL_ROLE_ROLE 1).fput F.BEL_ROLE_PAIR 3).fput F.BEL_LANE_LOCK0 1) with bel := { decided := true } }, by decide +kernel⟩,
   ⟨{ sideB := false, role := 2, starting := false, pair := 0, serial := 2, image := 0, program := 0, build := 0, pfw := false, lanes := 0, busOff := 0, eccBad := 0 }, ((State.reset.fput (F.HDR_ENABLE 35) 1).fput F.BEL_LANE_LOCK0 1), by decide +kernel⟩,
   ⟨{ sideB := false, role := 2, starting := false, pair := 0, serial := 2, image := 0, program := 0, build := 0, pfw := false, lanes := 0, busOff := 0, eccBad := 0 }, { ((State.reset.fput (F.HDR_ENABLE 35) 1).fput F.BEL_LANE_LOCK0 1) with bel := { conflict := true } }, by decide +kernel⟩,
   ⟨(State.reset.fput (F.HDR_ENABLE 35) 1), by decide +kernel⟩,
   ⟨(5, 6), { (State.reset.fput (F.HDR_ENABLE 35) 1) with bel := { foreign := some (5, 6) } }, by decide +kernel⟩,
   ⟨{ sideB := true, role := 0, starting := true, pair := 0, serial := 2, image := 7, program := 0, build := 0, pfw := false, lanes := 0, busOff := 0, eccBad := 0 }, { (State.reset.fput (F.HDR_ENABLE 35) 1) with bel := { partner := some { sideB := true, role := 0, starting := true, pair := 0, serial := 2, image := 7, program := 0, build := 0, pfw := false, lanes := 0, busOff := 0, eccBad := 0 } } }, by decide +kernel⟩,
   ⟨{ sideB := true, role := 1, starting := false, pair := 0, serial := 2, image := 7, program := 0, build := 0, pfw := false, lanes := 0, busOff := 0, eccBad := 0 }, { (State.reset.fput (F.HDR_ENABLE 35) 1) with bel := { partner := some { sideB := true, role := 1, starting := false, pair := 0, serial := 2, image := 7, program := 0, build := 0, pfw := false, lanes := 0, busOff := 0, eccBad := 0 } } }, by decide +kernel⟩,
   ⟨(((State.reset.fput (F.HDR_ENABLE 35) 1).fput F.BEL_ROLE_ROLE 2).fput F.BEL_ROLE_PAIR 1), by decide +kernel⟩,
   ⟨(((State.reset.fput (F.HDR_ENABLE 35) 1).fput F.BEL_ROLE_ROLE 1).fput F.BEL_ROLE_PAIR 2), by decide +kernel⟩,
   ⟨{ (State.reset.wr R.RST_BOOT_STAT 8) with boot := { rtRun := true } }, by decide +kernel⟩,
   ⟨{ tier := 7, points := [], stations := [], outFrames := [], channels := [], syncCfg := 0, discCfg := 0, startTmo := 0, q0Cfg := 0, dioDir := 0, ainPids := [], aoutPids := [], dioPids := [], loops := 0, ownPoints := [], ownSlots := [], ownCommands := [], ownClasses := [], ownPages := [], digest := 9 }, { (State.reset.wr R.RST_BOOT_STAT 8) with boot := { rtRun := true }, pins := { ready := true } }, by decide +kernel⟩,
   ⟨{ tier := 1, points := [], stations := [], outFrames := [], channels := [], syncCfg := 0, discCfg := 0, startTmo := 0, q0Cfg := 0, dioDir := 0, ainPids := [], aoutPids := [], dioPids := [], loops := 0, ownPoints := [], ownSlots := [], ownCommands := [], ownClasses := [], ownPages := [], digest := 9 }, { (State.reset.wr R.RST_BOOT_STAT 8) with boot := { rtRun := true } }, by decide +kernel⟩,
   ⟨5, { sideB := true, role := 1, starting := false, pair := 0, serial := 2, image := 0, program := 0, build := 0, pfw := false, lanes := 0, busOff := 0, eccBad := 0 }, { (((State.reset.fput (F.HDR_ENABLE 35) 1).fput F.BEL_ROLE_ROLE 2).fput F.BEL_ROLE_PAIR 1) with bel := { partner := some { sideB := true, role := 1, starting := false, pair := 0, serial := 2, image := 0, program := 0, build := 0, pfw := false, lanes := 0, busOff := 0, eccBad := 0 } } }, by decide +kernel⟩,
   ⟨{ sideB := true, role := 1, starting := false, pair := 0, serial := 2, image := 0, program := 0, build := 7, pfw := false, lanes := 0, busOff := 0, eccBad := 0 }, { (((State.reset.fput (F.HDR_ENABLE 35) 1).fput F.BEL_ROLE_ROLE 2).fput F.BEL_ROLE_PAIR 1) with bel := { partner := some { sideB := true, role := 1, starting := false, pair := 0, serial := 2, image := 0, program := 0, build := 7, pfw := false, lanes := 0, busOff := 0, eccBad := 0 } } }, by decide +kernel⟩,
   ⟨{ tier := 1, points := [], stations := [], outFrames := [], channels := [], syncCfg := 0, discCfg := 0, startTmo := 0, q0Cfg := 0, dioDir := 0, ainPids := [], aoutPids := [], dioPids := [], loops := 0, ownPoints := [], ownSlots := [], ownCommands := [], ownClasses := [], ownPages := [], digest := 9 }, { sideB := true, role := 1, starting := false, pair := 0, serial := 2, image := 9, program := 0, build := 0, pfw := false, lanes := 0, busOff := 0, eccBad := 0 }, { (((State.reset.fput (F.HDR_ENABLE 35) 1).fput F.BEL_ROLE_ROLE 2).fput F.BEL_ROLE_PAIR 1) with bel := { decided := true, partner := some { sideB := true, role := 1, starting := false, pair := 0, serial := 2, image := 9, program := 0, build := 0, pfw := false, lanes := 0, busOff := 0, eccBad := 0 } } }, by decide +kernel⟩⟩

theorem test_meets_Handovers :
    (∃ (req : Req) (s : State), s.awake = true ∧ s.opens req R.BEL_CMD = true ∧ s.swapOk = true ∧ s.role = 1 ∧ s.pairState = 3) ∧
    (∃ (req : Req) (s : State), s.awake = true ∧ s.opens req R.BEL_CMD = true ∧ s.swapOk = false ∧ s.role = 1 ∧ s.pairState = 3) ∧
    (∃ (req : Req) (s : State), s.awake = true ∧ s.opens req R.BEL_CMD = true ∧ (s.role ≠ 1 ∨ s.pairState ≠ 3)) ∧
    (∃ (req : Req) (s : State), s.awake = true ∧ s.opens req R.BEL_CMD = true ∧ s.isActive = true) ∧
    (∃ (req : Req) (s : State), s.awake = true ∧ s.opens req R.BEL_CMD = true ∧ s.isActive = false) ∧
    (∃ (req : Req) (s : State), s.awake = true ∧ s.opens req R.BEL_CMD = true ∧ s.bel.hbIn = none ∧ s.role = 1 ∧ s.pairState = 3) ∧
    (∃ (req : Req) (s : State), s.awake = true ∧ s.opens req R.BEL_CMD = true ∧ (s.role ≠ 1 ∨ s.pairState ≠ 3)) ∧
    (∃ (x : Nat) (s : State), s.awake = true ∧ s.enabled Pg.BEL = true ∧ s.swapDueAt = some x ∧ s.bel.swap = none ∧ s.ochg.st = .idle ∧
      s.upd.pairStep = 0 ∧ s.swapOk = true ∧ s.role = 1 ∧ s.pairState = 3) ∧
    (∃ (x : Nat) (s : State), s.awake = true ∧ s.enabled Pg.BEL = true ∧ s.swapDueAt = some x ∧ s.ochg.st ≠ .idle) ∧
    (∃ (x : Nat) (s : State), s.awake = true ∧ s.enabled Pg.BEL = true ∧ s.bel.swap = some x) ∧
    (∃ (req : Req) (s : State), s.awake = true ∧ s.opens req R.BEL_ALIVE = true) ∧
    (∃ (s : State), s.awake = true ∧ s.enabled Pg.BEL = true ∧ s.isActive = true ∧ s.fget F.BEL_ALIVE_CFG_MS ≠ 0 ∧ (s.role ≠ 1 ∨ s.pairState ≠ 3)) ∧
    (∃ (s : State), s.awake = true ∧ s.enabled Pg.BEL = true ∧ s.fget F.BEL_ALIVE_CFG_MS ≠ 0 ∧ s.bel.hbIn = none ∧ s.role = 1 ∧ s.pairState = 3) ∧
    (∃ (s : State), s.awake = true ∧ s.enabled Pg.BEL = true ∧ s.bel.promote = some true ∧ s.role = 2 ∧ s.bel.dual = false) ∧
    (∃ (s : State), s.awake = true ∧ s.enabled Pg.BEL = true ∧ s.bel.promote = some false ∧ s.role = 2 ∧ s.updState ≠ 5 ∧ s.bel.dual = false) ∧
    (∃ (m : IdMsg) (s : State), s.awake = true ∧ s.enabled Pg.BEL = true ∧ s.bel.promote = some true ∧ s.role = 2 ∧ s.bel.dual = true ∧
      s.bel.partner = some m ∧ m.sideB ≠ s.pins.sideB) ∧
    (∃ (n : Fin 48) (s : State), s.awake = true ∧ s.enabled Pg.BEL = true ∧ s.bel.promote = some true ∧ s.role = 2 ∧ s.sameUpdate = true ∧
      s.upd.fresh = [n.val]) :=
  ⟨⟨.ac0, { (((State.reset.fput (F.HDR_ENABLE 35) 1).fput F.BEL_ROLE_ROLE 1).fput F.BEL_ROLE_PAIR 3) with bel := { partner := some { sideB := true, role := 2, starting := false, pair := 0, serial := 2, image := 0, program := 0, build := 0, pfw := false, lanes := 0, busOff := 0, eccBad := 0 } } }, by decide +kernel⟩,
   ⟨.ac0, (((State.reset.fput (F.HDR_ENABLE 35) 1).fput F.BEL_ROLE_ROLE 1).fput F.BEL_ROLE_PAIR 3), by decide +kernel⟩,
   ⟨.ac0, (State.reset.fput (F.HDR_ENABLE 35) 1), by decide +kernel⟩,
   ⟨.ac0, { (((State.reset.fput (F.HDR_ENABLE 35) 1).fput F.BEL_ROLE_ROLE 1).fput F.BEL_ROLE_PAIR 3) with bel := { swap := some 5 } }, by decide +kernel⟩,
   ⟨.ac0, ((State.reset.fput (F.HDR_ENABLE 35) 1).fput F.BEL_ROLE_ROLE 2), by decide +kernel⟩,
   ⟨.ac0, (((State.reset.fput (F.HDR_ENABLE 35) 1).fput F.BEL_ROLE_ROLE 1).fput F.BEL_ROLE_PAIR 3), by decide +kernel⟩,
   ⟨.ac0, (State.reset.fput (F.HDR_ENABLE 35) 1), by decide +kernel⟩,
   ⟨86400000000000, { (((State.reset.fput (F.HDR_ENABLE 35) 1).fput F.BEL_ROLE_ROLE 1).fput F.BEL_ROLE_PAIR 3) with bel := { partner := some { sideB := true, role := 2, starting := false, pair := 0, serial := 2, image := 0, program := 0, build := 0, pfw := false, lanes := 0, busOff := 0, eccBad := 0 } } }, by decide +kernel⟩,
   ⟨86400000000000, { { (((State.reset.fput (F.HDR_ENABLE 35) 1).fput F.BEL_ROLE_ROLE 1).fput F.BEL_ROLE_PAIR 3) with bel := { partner := some { sideB := true, role := 2, starting := false, pair := 0, serial := 2, image := 0, program := 0, build := 0, pfw := false, lanes := 0, busOff := 0, eccBad := 0 } } } with ochg := { st := .armed } }, by decide +kernel⟩,
   ⟨5000, { (((State.reset.fput (F.HDR_ENABLE 35) 1).fput F.BEL_ROLE_ROLE 1).fput F.BEL_ROLE_PAIR 3) with bel := { swap := some 5000 } }, by decide +kernel⟩,
   ⟨.ac0, (State.reset.fput (F.HDR_ENABLE 35) 1), by decide +kernel⟩,
   ⟨((State.reset.fput (F.HDR_ENABLE 35) 1).fput F.BEL_ALIVE_CFG_MS 5), by decide +kernel⟩,
   ⟨(((((State.reset.fput (F.HDR_ENABLE 35) 1).fput F.BEL_ALIVE_CFG_MS 5).fput F.BEL_ROLE_ROLE 1).fput F.BEL_ROLE_PAIR 3).fput F.BEL_LANE_UP0 1), by decide +kernel⟩,
   ⟨{ (((State.reset.fput (F.HDR_ENABLE 35) 1).fput F.BEL_ROLE_ROLE 2).fput F.BEL_ROLE_PAIR 3) with bel := { promote := some true } }, by decide +kernel⟩,
   ⟨{ (((State.reset.fput (F.HDR_ENABLE 35) 1).fput F.BEL_ROLE_ROLE 2).fput F.BEL_ROLE_PAIR 3) with bel := { promote := some false } }, by decide +kernel⟩,
   ⟨{ sideB := true, role := 2, starting := false, pair := 0, serial := 2, image := 0, program := 0, build := 0, pfw := false, lanes := 0, busOff := 0, eccBad := 0 }, { (((State.reset.fput (F.HDR_ENABLE 35) 1).fput F.BEL_ROLE_ROLE 2).fput F.BEL_ROLE_PAIR 3) with bel := { promote := some true, dual := true, partner := some { sideB := true, role := 2, starting := false, pair := 0, serial := 2, image := 0, program := 0, build := 0, pfw := false, lanes := 0, busOff := 0, eccBad := 0 } } }, by decide +kernel⟩,
   ⟨3, { (((State.reset.fput (F.HDR_ENABLE 35) 1).fput F.BEL_ROLE_ROLE 2).fput F.BEL_ROLE_PAIR 3) with bel := { promote := some true, partner := some { sideB := true, role := 2, starting := false, pair := 0, serial := 2, image := 0, program := 0, build := 7, pfw := false, lanes := 0, busOff := 0, eccBad := 0 } }, upd := { fresh := [3] }, flash := { State.reset.flash with boot := { State.reset.flash.boot with valid := Vector.replicate 2 true, build := Vector.replicate 2 7 } } }, by decide +kernel⟩⟩

theorem test_meets_CopyUnitsAndCheckpoints :
    (∃ (s : State), s.awake = true ∧ s.enabled Pg.BEL = true ∧ s.copies = true ∧ (s.reach s.bgBoundary).stepDue = false) ∧
    (∃ (n : Nat) (w : List Byte) (s : State), s.awake = true ∧ s.enabled Pg.BEL = true ∧ s.role = 2 ∧ 2 ≤ s.pairState ∧ s.bel.expect = some n ∧
      s.bel.handing = false ∧ s.sameUpdate = false ∧ w.length = 64) ∧
    (∃ (n : Nat) (u : CopyUnit) (s : State), s.awake = true ∧ s.enabled Pg.BEL = true ∧ s.role = 2 ∧ 2 ≤ s.pairState ∧ s.bel.expect = some n ∧
      u.seq < n) ∧
    (∃ (s : State), s.awake = true ∧ s.enabled Pg.BEL = true ∧ s.role = 2 ∧ s.pairState = 3 ∧ s.bel.hbIn = none) ∧
    (∃ (s : State), s.awake = true ∧ s.enabled Pg.BEL = true ∧ s.fget F.BEL_CKPT_CFG_S ≠ 0 ∧ s.bel.saving = none ∧ s.bel.ckptSlot < 2) ∧
    (∃ (s : State), s.awake = true ∧ s.enabled Pg.BEL = true ∧ s.fget F.BEL_CKPT_CFG_S = 0) ∧
    (∃ (c : Ckpt) (s : State), s.awake = true ∧ s.bel.saving = some c ∧ s.bel.ckptPend = none) :=
  ⟨⟨(((State.reset.fput (F.HDR_ENABLE 35) 1).fput F.BEL_ROLE_ROLE 1).fput F.BEL_ROLE_PAIR 2), by decide +kernel⟩,
   ⟨3, List.replicate 64 5, { (((State.reset.fput (F.HDR_ENABLE 35) 1).fput F.BEL_ROLE_ROLE 2).fput F.BEL_ROLE_PAIR 3) with bel := { expect := some 3 } }, by decide +kernel⟩,
   ⟨3, emptyUnit .bg, { (((State.reset.fput (F.HDR_ENABLE 35) 1).fput F.BEL_ROLE_ROLE 2).fput F.BEL_ROLE_PAIR 3) with bel := { expect := some 3 } }, by decide +kernel⟩,
   ⟨(((State.reset.fput (F.HDR_ENABLE 35) 1).fput F.BEL_ROLE_ROLE 2).fput F.BEL_ROLE_PAIR 3), by decide +kernel⟩,
   ⟨(State.reset.fput (F.HDR_ENABLE 35) 1), by decide +kernel⟩,
   ⟨((State.reset.fput (F.HDR_ENABLE 35) 1).fput F.BEL_CKPT_CFG_S 0), by decide +kernel⟩,
   ⟨{ slot := 1, bytes := [1, 2] }, { (State.reset.fput (F.HDR_ENABLE 35) 1) with bel := { saving := some { slot := 1, bytes := [1, 2] } } }, by decide +kernel⟩⟩

theorem test_meets_AnchorRequests :
    (∃ (core : Fin 4) (s : State), s.awake = true ∧ s.upd.hold = false ∧ s.fset (F.ANC_RSP_BUSY core) = false ∧ s.trust.otp.decom = false ∧
      s.coreComp0 core = true ∧ s.ecc.all (fun e => eccInst e.1 != some 5) = true) ∧
    (∃ (core : Fin 4) (s : State), s.awake = true ∧ s.upd.hold = false ∧ s.fset (F.ANC_RSP_BUSY core) = false ∧ s.trust.otp.decom = false ∧
      s.coreComp0 core = false ∧ s.ecc.all (fun e => eccInst e.1 != some 5) = true) ∧
    (∃ (core : Fin 4) (s : State), s.awake = true ∧ s.upd.hold = false ∧ s.fset (F.ANC_RSP_BUSY core) = true) ∧
    (∃ (c : BitVec 64 × Nat) (s : State), s.live = true ∧ s.trust.chal = some c) ∧
    (∃ (core : Fin 4) (src : Word64) (len : Word) (s : State), s.awake = true ∧ s.upd.hold = false ∧ s.fset (F.ANC_RSP_BUSY core) = false ∧
      s.coreComp0 core = true ∧ (len.toNat ≠ lcLength ∨ mboxRange core src.toNat len.toNat = false) ∧
      s.ecc.all (fun e => eccInst e.1 != some 5) = true) ∧
    (∃ (core : Fin 4) (src : Word64) (len : Word) (s : State), s.awake = true ∧ s.upd.hold = false ∧ s.fset (F.ANC_RSP_BUSY core) = false ∧
      s.coreComp0 core = true ∧ s.trust.otp.decom = false ∧ len.toNat = lcLength ∧ mboxRange core src.toNat len.toNat = true ∧
      s.ecc.all (fun e => eccInst e.1 != some 5) = true) ∧
    (∃ (core : Fin 4) (src : Word64) (len : Word) (s : State), s.awake = true ∧ s.upd.hold = false ∧ s.fset (F.ANC_RSP_BUSY core) = false ∧
      s.coreComp0 core = true ∧ s.trust.otp.decom = true ∧ len.toNat = lcLength ∧ mboxRange core src.toNat len.toNat = true ∧
      s.ecc.all (fun e => eccInst e.1 != some 5) = true) ∧
    (∃ (core : Fin 4) (s : State), s.awake = true ∧ s.upd.hold = false ∧ s.fset (F.ANC_RSP_BUSY core) = false ∧ s.coreComp0 core = true ∧
      s.trust.otp.decom = true ∧ s.ecc.all (fun e => eccInst e.1 != some 5) = true) ∧
    (∃ (core : Fin 4) (s : State), s.awake = true ∧ s.upd.hold = false ∧ s.fset (F.ANC_RSP_BUSY core) = false ∧ s.coreComp0 core = true ∧
      s.trust.otp.decom = true ∧ s.ecc.all (fun e => eccInst e.1 != some 5) = true) ∧
    (∃ (core : Fin 4) (s : State), s.awake = true ∧ s.upd.hold = false ∧ s.fset (F.ANC_RSP_BUSY core) = false ∧ s.coreComp0 core = true ∧
      s.trust.otp.decom = true ∧ s.ecc.all (fun e => eccInst e.1 != some 5) = true) ∧
    (∃ (core : Fin 4) (s : State), s.awake = true ∧ s.upd.hold = false ∧ s.fset (F.ANC_RSP_BUSY core) = false ∧ s.coreComp0 core = true ∧
      s.trust.otp.decom = true ∧ s.ecc.all (fun e => eccInst e.1 != some 5) = true) ∧
    (∃ (core : Fin 4) (src : Word64) (len : Word) (s : State), s.awake = true ∧ s.upd.hold = false ∧ s.fset (F.ANC_RSP_BUSY core) = false ∧
      s.coreComp0 core = true ∧ len.toNat = lcLength ∧ mboxRange core src.toNat len.toNat = true ∧
      blockOk ((s.bytesAt src.toNat lcLength).drop 256) (lcKeyOk s.trust.otp (s.bytesAt src.toNat lcLength)) true = true ∧
      s.lcBodyOk (s.bytesAt src.toNat lcLength) = true ∧ byteOf (s.bytesAt src.toNat lcLength) 2 = 2 ∧ lcState s.trust.otp = 1 ∧
      s.ecc.all (fun e => eccInst e.1 != some 5) = true) ∧
    (∃ (core : Fin 4) (dst : Word64) (s : State), s.awake = true ∧ s.upd.hold = false ∧ s.fset (F.ANC_RSP_BUSY core) = false ∧
      s.trust.otp.decom = false ∧ s.coreComp0 core = true ∧ mboxRange core dst.toNat 64 = true ∧ s.trust.otp.prov = true ∧
      s.ecc.all (fun e => eccInst e.1 != some 5) = true) ∧
    (∃ (core : Fin 4) (dst : Word64) (s : State), s.awake = true ∧ s.upd.hold = false ∧ s.fset (F.ANC_RSP_BUSY core) = false ∧
      s.trust.otp.decom = false ∧ s.coreComp0 core = true ∧ mboxRange core dst.toNat 64 = true ∧ s.trust.otp.prov = false ∧
      s.ecc.all (fun e => eccInst e.1 != some 5) = true) ∧
    (∃ (core : Fin 4) (o : Word) (s : State), s.awake = true ∧ s.upd.hold = false ∧ s.fset (F.ANC_RSP_BUSY core) = false ∧
      s.trust.otp.decom = false ∧ s.coreComp0 core = true ∧ o.toNat ≤ 255 ∧ s.ecc.all (fun e => eccInst e.1 != some 5) = true) ∧
    (∃ (core : Fin 4) (o : Word) (s : State), s.awake = true ∧ s.upd.hold = false ∧ s.fset (F.ANC_RSP_BUSY core) = false ∧
      s.trust.otp.decom = false ∧ s.coreComp0 core = true ∧ 255 < o.toNat ∧ s.ecc.all (fun e => eccInst e.1 != some 5) = true) ∧
    (∃ (core : Fin 4) (s : State), s.awake = true ∧ s.upd.hold = false ∧ s.fset (F.ANC_RSP_BUSY core) = false ∧ s.trust.otp.decom = false ∧
      s.coreComp0 core = true ∧ s.sleepOk = true ∧ s.ecc.all (fun e => eccInst e.1 != some 5) = true) ∧
    (∃ (core : Fin 4) (s : State), s.awake = true ∧ s.upd.hold = false ∧ s.fset (F.ANC_RSP_BUSY core) = false ∧ s.trust.otp.decom = false ∧
      s.coreComp0 core = true ∧ s.sleepOk = false ∧ s.ecc.all (fun e => eccInst e.1 != some 5) = true) :=
  ⟨⟨0, State.reset, by decide +kernel⟩,
   ⟨2, (State.reset.wr R.CMPT_CUR2 0x70103), by decide +kernel⟩,
   ⟨1, (State.reset.fput (F.ANC_RSP_BUSY 1) 1), by decide +kernel⟩,
   ⟨(7, 5000), { State.reset with trust := { chal := some (7, 5000) } }, by decide +kernel⟩,
   ⟨0, 0x10ED0000, 256, State.reset, by decide +kernel⟩,
   ⟨0, 0x10ED0000, 30128, State.reset, by decide +kernel⟩,
   ⟨0, 0x10ED0000, 30128, { State.reset with trust := { otp := { decom := true } } }, by decide +kernel⟩,
   ⟨0, { State.reset with trust := { otp := { decom := true } } }, by decide +kernel⟩,
   ⟨0, { State.reset with trust := { otp := { decom := true } } }, by decide +kernel⟩,
   ⟨0, { State.reset with trust := { otp := { decom := true } } }, by decide +kernel⟩,
   ⟨0, { State.reset with trust := { otp := { decom := true } } }, by decide +kernel⟩,
   ⟨0, 0x10ED0000, 30128, { (((((((State.reset.setLe 0x10ED0000 2 1).setLe 0x10ED0002 1 2).setLe 0x10ED0004 6 1).setLe 0x10ED0010 8 77).setLe 0x10ED0100 2 1).setLe 0x10ED0102 1 1).setLe 0x10ED0103 1 4 |>.setLe 0x10ED0104 4 29872) with trust := { otp := { prov := true, slots := Vector.replicate 6 1 }, chal := some (77, 5000) } }, by decide +kernel⟩,
   ⟨0, 0x10ED0100, { State.reset with trust := { otp := { prov := true } } }, by decide +kernel⟩,
   ⟨0, 0x10ED0100, State.reset, by decide +kernel⟩,
   ⟨1, 37, State.reset, by decide +kernel⟩,
   ⟨1, 256, State.reset, by decide +kernel⟩,
   ⟨1, State.reset, by decide +kernel⟩,
   ⟨1, (State.reset.fput F.SYS_STAT_FORCE_ACT 1), by decide +kernel⟩⟩

theorem test_meets_UpdateReceives :
    (∃ (core : Fin 4) (len : Word) (s : State), s.awake = true ∧ s.upd.hold = false ∧ s.fset (F.ANC_RSP_BUSY core) = false ∧
      s.coreComp0 core = true ∧ lcState s.trust.otp ≠ 4 ∧ s.updState = 0 ∧ contMin ≤ len.toNat ∧ len.toNat ≤ contMax ∧
      s.ecc.all (fun e => eccInst e.1 != some 5) = true) ∧
    (∃ (core : Fin 4) (len : Word) (s : State), s.awake = true ∧ s.upd.hold = false ∧ s.fset (F.ANC_RSP_BUSY core) = false ∧
      s.coreComp0 core = true ∧ lcState s.trust.otp ≠ 4 ∧ s.updState = 0 ∧ (len.toNat < contMin ∨ contMax < len.toNat) ∧
      s.ecc.all (fun e => eccInst e.1 != some 5) = true) ∧
    (∃ (core : Fin 4) (s : State), s.awake = true ∧ s.upd.hold = false ∧ s.fset (F.ANC_RSP_BUSY core) = false ∧ s.coreComp0 core = true ∧
      lcState s.trust.otp = 4 ∧ s.ecc.all (fun e => eccInst e.1 != some 5) = true) ∧
    (∃ (core : Fin 4) (s : State), s.awake = true ∧ s.upd.hold = false ∧ s.fset (F.ANC_RSP_BUSY core) = false ∧ s.coreComp0 core = true ∧
      lcState s.trust.otp ≠ 4 ∧ s.updState ≠ 0 ∧ s.ecc.all (fun e => eccInst e.1 != some 5) = true) ∧
    (∃ (req : Req) (slot : Fin 8) (s : State), s.awake = true ∧ s.opens req R.UPD_SUBMIT = true ∧ s.slotBusy slot = false) ∧
    (∃ (req : Req) (slot : Fin 8) (s : State), s.awake = true ∧ s.opens req R.UPD_SUBMIT = true ∧ s.slotBusy slot = true) ∧
    (∃ (slot : Fin 8) (s : State), s.awake = true ∧ s.updState = 1 ∧ s.slotBusy slot = true ∧ s.ecc = [] ∧ s.untested (windowSlot slot) = true ∧
      blockReason (s.bytesAt (windowSlot slot) 4160) (s.rd R.UPD_ID).toNat (s.rd R.UPD_LENGTH).toNat s.upd.taken (s.cont s.idleBank) = 0 ∧
      s.upd.taken.contains (leOf (s.bytesAt (windowSlot slot) 4160) 8 8) = false) ∧
    (∃ (slot : Fin 8) (s : State), s.awake = true ∧ s.updState = 1 ∧ s.slotBusy slot = true ∧ s.ecc = [] ∧ s.untested (windowSlot slot) = true ∧
      blockReason (s.bytesAt (windowSlot slot) 4160) (s.rd R.UPD_ID).toNat (s.rd R.UPD_LENGTH).toNat s.upd.taken (s.cont s.idleBank) ≠ 0 ∧
      blockReason (s.bytesAt (windowSlot slot) 4160) (s.rd R.UPD_ID).toNat (s.rd R.UPD_LENGTH).toNat s.upd.taken (s.cont s.idleBank) ≠ 4) ∧
    (∃ (slot : Fin 8) (s : State), s.awake = true ∧ s.updState ≠ 1 ∧ s.slotBusy slot = true) ∧
    (∃ (core : Fin 4) (s : State), s.awake = true ∧ s.upd.hold = false ∧ s.fset (F.ANC_RSP_BUSY core) = false ∧ s.trust.otp.decom = false ∧
      s.coreComp0 core = true ∧ s.updState = 1 ∧ s.upd.verifying = none ∧ s.complete19 = true ∧ s.ecc.all (fun e => eccInst e.1 != some 5) = true) ∧
    (∃ (core : Fin 4) (s : State), s.awake = true ∧ s.upd.hold = false ∧ s.fset (F.ANC_RSP_BUSY core) = false ∧ s.trust.otp.decom = false ∧
      s.coreComp0 core = true ∧ s.updState = 1 ∧ s.upd.verifying = none ∧ s.complete19 = false ∧ s.ecc.all (fun e => eccInst e.1 != some 5) = true) ∧
    (∃ (core : Fin 4) (sigOk : Bool) (out : VerifyOut) (r : Nat) (s : State), s.awake = true ∧ s.updState = 1 ∧ s.complete19 = true ∧
      s.upd.verifying = some core.val ∧ s.verifyReason s.idleBank (s.rd R.UPD_LENGTH).toNat sigOk (out != .badDigest) = r) ∧
    (∃ (core : Fin 4) (s : State), s.awake = true ∧ s.updState = 1 ∧ s.complete19 = true ∧ s.upd.verifying = some core.val ∧
      s.verifyReason s.idleBank (s.rd R.UPD_LENGTH).toNat true true = 0 ∧ (s.parts s.idleBank).all (fun p => p.type != 5) = true) ∧
    (∃ (r : BitVec 4) (s : State), s.awake = true ∧ s.role = 1 ∧ s.updState = 2 ∧ r ≠ 0) ∧
    (∃ (build : BitVec 64) (s : State), s.awake = true ∧ s.role = 1 ∧ s.updState = 2 ∧ build = s.buildOf s.idleBank) ∧
    (∃ (s : State), s.awake = true ∧ s.updState = 2 ∧ s.upd.stations.all (fun g => g.phase == .ready) = true ∧ s.role ≠ 1 ∧ s.baseOk = true) ∧
    (∃ (s : State), s.awake = true ∧ s.updState = 2 ∧ s.upd.stations.all (fun g => g.phase == .ready) = false) ∧
    (∃ (s : State), s.awake = true ∧ s.updState = 2 ∧ s.upd.stations.all (fun g => g.phase == .ready) = true ∧ s.role ≠ 1 ∧ s.baseOk = false ∧
      s.joins = false) ∧
    (∃ (s : State), s.awake = true ∧ s.updState = 2 ∧ s.upd.stations.all (fun g => g.phase == .ready) = true ∧ s.joins = true) :=
  ⟨⟨0, 0x21000, State.reset, by decide +kernel⟩,
   ⟨0, 0x20FFF, State.reset, by decide +kernel⟩,
   ⟨0, { State.reset with trust := { otp := { decom := true } } }, by decide +kernel⟩,
   ⟨0, (State.reset.fput F.UPD_STAT_STATE 1), by decide +kernel⟩,
   ⟨.ac0, 3, State.reset, by decide +kernel⟩,
   ⟨.ac0, 3, (State.reset.setBit R.UPD_SLOT_STAT 3 true), by decide +kernel⟩,
   ⟨2, (((((State.reset.fput F.UPD_STAT_STATE 1).setBytes (windowSlot 2) ((natLe 2 1 ++ natLe 2 1 ++ natLe 4 5 ++ natLe 8 0) ++ natLe 4 (crc32c ((natLe 2 1 ++ natLe 2 1 ++ natLe 4 5 ++ natLe 8 0) ++ [7])).toNat ++ List.replicate 44 0 ++ [7])).wr R.UPD_ID 5).wr R.UPD_LENGTH 1).setBit R.UPD_SLOT_STAT 2 true), by decide +kernel⟩,
   ⟨2, (((((State.reset.fput F.UPD_STAT_STATE 1).setBytes (windowSlot 2) ((natLe 2 1 ++ natLe 2 1 ++ natLe 4 5 ++ natLe 8 0) ++ natLe 4 (crc32c ((natLe 2 1 ++ natLe 2 1 ++ natLe 4 5 ++ natLe 8 0) ++ [7])).toNat ++ List.replicate 44 0 ++ [7])).wr R.UPD_ID 6).wr R.UPD_LENGTH 1).setBit R.UPD_SLOT_STAT 2 true), by decide +kernel⟩,
   ⟨2, (State.reset.setBit R.UPD_SLOT_STAT 2 true), by decide +kernel⟩,
   ⟨0, { (State.reset.fput F.UPD_STAT_STATE 1) with upd := { taken := [] } }, by decide +kernel⟩,
   ⟨0, ((State.reset.fput F.UPD_STAT_STATE 1).wr R.UPD_LENGTH 0x21000), by decide +kernel⟩,
   ⟨0, true, .written, 1, { (State.reset.fput F.UPD_STAT_STATE 1) with upd := { verifying := some 0 } }, by decide +kernel⟩,
   ⟨0, { ((State.reset.fput F.UPD_STAT_STATE 1).wr R.UPD_LENGTH 0x421810) with upd := { verifying := some 0, taken := List.replicate 1058 0 }, flash := { banks := (Vector.replicate 2 []).set 1 ([(0, 0x5A), (1, 0x46), (2, 0x4D), (3, 0x46), (4, 1), (6, 4), (16, 7), (44, 0x10), (45, 0x18), (46, 0x42), (256, 1), (274, 2), (320, 2), (338, 2), (342, 0x40), (384, 3), (402, 0x42), (448, 4), (452, 1), (466, 0x42), (468, 0x10), (469, 0x18), (0x10000, 1), (0x10002, 1), (0x10003, 0xF0), (0x10004, 0xB0), (0x10005, 0x74), (0x420000, 1), (0x420004, 1), (4325394, 64), (4325400, 1), (4325650, 64), (4325656, 1), (4325906, 64), (4325912, 1), (4326162, 64), (4326168, 1), (4326418, 64), (4326424, 1), (4326674, 64), (4326680, 1), (4326930, 64), (4326936, 1), (4327186, 64), (4327192, 1), (4327442, 64), (4327448, 1), (4327698, 64), (4327704, 1), (4327954, 64), (4327960, 1), (4328210, 64), (4328216, 1), (4328466, 64), (4328472, 1), (4328722, 64), (4328728, 1), (4328978, 64), (4328984, 1), (4329234, 64), (4329240, 1), (4329490, 64), (4329496, 1), (4329746, 64), (4329752, 1), (4330002, 64), (4330008, 1), (4330258, 64), (4330264, 1), (4330514, 64), (4330520, 1), (4330770, 64), (4330776, 1), (4331026, 64), (4331032, 1), (4331282, 64), (4331288, 1)]) } }, by decide +kernel⟩,
   ⟨1, ((State.reset.fput F.UPD_STAT_STATE 2).fput F.BEL_ROLE_ROLE 1), by decide +kernel⟩,
   ⟨0, ((State.reset.fput F.UPD_STAT_STATE 2).fput F.BEL_ROLE_ROLE 1), by decide +kernel⟩,
   ⟨(State.reset.fput F.UPD_STAT_STATE 2), by decide +kernel⟩,
   ⟨{ (State.reset.fput F.UPD_STAT_STATE 2) with upd := { stations := [{ ch := 0, addr := 1, stype := 1, version := 1, part := 0, length := 1 }] } }, by decide +kernel⟩,
   ⟨{ (State.reset.fput F.UPD_STAT_STATE 2) with flash := { banks := (Vector.replicate 2 []).set 1 [(6, 1), (256, 2), (280, 9)] } }, by decide +kernel⟩,
   ⟨{ ((State.reset.fput F.UPD_STAT_STATE 2).fput F.BEL_ROLE_ROLE 2) with flash := { banks := (Vector.replicate 2 []).set 1 [(6, 1), (256, 2), (280, 9)] }, bel := { partner := some { sideB := true, role := 1, starting := false, pair := 0, serial := 5, image := 0, program := 0, build := 0, pfw := false, lanes := 0, busOff := 0, eccBad := 0 } } }, by decide +kernel⟩⟩

theorem test_meets_UpdateSwitches :
    (∃ (core : Fin 4) (s : State), s.awake = true ∧ s.upd.hold = false ∧ s.fset (F.ANC_RSP_BUSY core) = false ∧ s.trust.otp.decom = false ∧
      s.coreComp0 core = true ∧ s.updState = 3 ∧ s.role = 0 ∧ s.ochg.st = .idle ∧ s.ecc.all (fun e => eccInst e.1 != some 5) = true) ∧
    (∃ (core : Fin 4) (p : Part) (s : State), s.awake = true ∧ s.upd.hold = false ∧ s.fset (F.ANC_RSP_BUSY core) = false ∧
      s.trust.otp.decom = false ∧ s.coreComp0 core = true ∧ s.updState = 3 ∧ s.role = 0 ∧ s.ochg.st = .idle ∧ s.myPart s.idleBank 2 = some p ∧
      p.length = 0x400000 ∧ s.ecc.all (fun e => eccInst e.1 != some 5) = true) ∧
    (∃ (core : Fin 4) (s : State), s.awake = true ∧ s.upd.hold = false ∧ s.fset (F.ANC_RSP_BUSY core) = false ∧ s.trust.otp.decom = false ∧
      s.coreComp0 core = true ∧ (s.updState ≠ 3 ∨ 2 ≤ s.role) ∧ s.ecc.all (fun e => eccInst e.1 != some 5) = true) ∧
    (∃ (core : Fin 4) (s : State), s.awake = true ∧ s.upd.hold = false ∧ s.fset (F.ANC_RSP_BUSY core) = false ∧ s.trust.otp.decom = false ∧
      s.coreComp0 core = true ∧ s.updState = 3 ∧ s.role < 2 ∧ s.ochg.st ≠ .idle ∧ s.ecc.all (fun e => eccInst e.1 != some 5) = true) ∧
    (∃ (core : Fin 4) (s : State), s.awake = true ∧ s.updState = 4 ∧ s.upd.step = 0 ∧ s.role = 0 ∧ s.upd.activating = some core.val) ∧
    (∃ (p : Part) (s : State), s.awake = true ∧ s.upd.hold = true ∧ s.upd.step = 1 ∧ s.myPart s.idleBank 1 = some p ∧ s.myPart s.idleBank 2 = none) ∧
    (∃ (s : State), s.awake = true ∧ s.upd.hold = true ∧ s.upd.step = 1) ∧
    (∃ (p : Part) (s : State), s.awake = true ∧ s.upd.step = 3 ∧ s.myPart s.idleBank 3 = some p ∧ p.length ≤ 0x4000000 ∧ s.myPart s.idleBank 4 = none) ∧
    (∃ (s : State), s.awake = true ∧ s.upd.step = 4 ∧ s.upd.hold = true) ∧
    (∃ (s : State), s.awake = true ∧ s.upd.step = 4 ∧ s.upd.hold = false ∧ s.upd.activating = none) ∧
    (∃ (core : Fin 4) (s : State), s.awake = true ∧ s.upd.hold = true ∧ s.upd.step = 5 ∧ s.upd.activating = some core.val) ∧
    (∃ (core : Fin 4) (s : State), s.awake = true ∧ s.upd.hold = false ∧ s.fset (F.ANC_RSP_BUSY core) = false ∧ s.trust.otp.decom = false ∧
      s.coreComp0 core = true ∧ 1 ≤ s.updState ∧ s.updState ≤ 3 ∧ s.upd.verifying = none ∧ s.ecc.all (fun e => eccInst e.1 != some 5) = true) ∧
    (∃ (core : Fin 4) (s : State), s.awake = true ∧ s.upd.hold = false ∧ s.fset (F.ANC_RSP_BUSY core) = false ∧ s.trust.otp.decom = false ∧
      s.coreComp0 core = true ∧ s.updState = 4 ∧ s.upd.step = 0 ∧ s.role = 0 ∧ s.upd.pairStep = 0 ∧ s.gapHere = true ∧
      s.ecc.all (fun e => eccInst e.1 != some 5) = true) ∧
    (∃ (core : Fin 4) (s : State), s.awake = true ∧ s.upd.hold = false ∧ s.fset (F.ANC_RSP_BUSY core) = false ∧ s.trust.otp.decom = false ∧
      s.coreComp0 core = true ∧ (s.updState = 0 ∨ s.updState = 5 ∨ (s.updState = 4 ∧ s.upd.step = 0 ∧ (s.upd.pairStep ≠ 0 ∨ s.gapHere = false))) ∧
      s.ecc.all (fun e => eccInst e.1 != some 5) = true) ∧
    (∃ (core : Fin 4) (s : State), s.awake = true ∧ s.upd.hold = false ∧ s.fset (F.ANC_RSP_BUSY core) = false ∧ s.trust.otp.decom = false ∧
      s.coreComp0 core = true ∧ s.updState = 5 ∧ s.ecc.all (fun e => eccInst e.1 != some 5) = true) ∧
    (∃ (core : Fin 4) (s : State), s.awake = true ∧ s.upd.hold = false ∧ s.fset (F.ANC_RSP_BUSY core) = false ∧ s.trust.otp.decom = false ∧
      s.coreComp0 core = true ∧ s.updState ≠ 5 ∧ s.ecc.all (fun e => eccInst e.1 != some 5) = true) ∧
    (∃ (s : State), s.awake = true ∧ s.updState = 5 ∧ s.pins.ready = true) ∧
    (∃ (s : State), s.awake = true ∧ s.updState = 5 ∧ s.pins.ready = false) ∧
    (∃ (bytes : List Byte) (n : Nat) (s : State), s.live = true ∧ s.boot.recovery = true ∧ bytes.take 2 = [0xA5, 0x5A] ∧
      leOf (bytes.drop 2) 8 8 = 2 ^ 64 - 1 ∧ leOf (bytes.drop 2) 0 2 = 1 ∧ leOf (bytes.drop 2) 2 2 = 4 ∧ leOf (bytes.drop 2) 4 4 = 0 ∧
      leOf (bytes.drop 2) 20 44 = 0 ∧ leOf ((bytes.drop 2).drop 64) 0 4 = n ∧ contMin ≤ n ∧ n ≤ contMax ∧
      leOf (bytes.drop 2) 16 4 = (crc32c ((bytes.drop 2).take 16 ++ ((bytes.drop 2).drop 64).take 4)).toNat) ∧
    (∃ (b : List Byte) (s : State), s.live = true ∧ s.boot.recovery = true ∧ leOf b 8 8 ≠ 2 ^ 64 - 1 ∧ s.trust.consoleLen = none) ∧
    (∃ (s : State), s.boot.recovery = false) :=
  ⟨⟨0, (State.reset.fput F.UPD_STAT_STATE 3), by decide +kernel⟩,
   ⟨0, { type := 2, stype := 0, target := 0, version := 0, offset := 0x21000, length := 0x400000, base := 0, digest := 0 }, { (State.reset.fput F.UPD_STAT_STATE 3) with flash := { banks := (Vector.replicate 2 []).set 1 [(6, 1), (256, 2), (273, 0x10), (274, 2), (278, 0x40), (0x21003, 9)] } }, by decide +kernel⟩,
   ⟨0, State.reset, by decide +kernel⟩,
   ⟨0, { (State.reset.fput F.UPD_STAT_STATE 3) with ochg := { st := .armed } }, by decide +kernel⟩,
   ⟨0, { (State.reset.fput F.UPD_STAT_STATE 4) with upd := { activating := some 0 } }, by decide +kernel⟩,
   ⟨{ type := 1, stype := 0, target := 0, version := 5, offset := 0, length := 0, base := 0, digest := 0 }, { State.reset with upd := { hold := true, step := 1 }, flash := { banks := (Vector.replicate 2 []).set 1 [(6, 1), (256, 1), (268, 5)] } }, by decide +kernel⟩,
   ⟨{ State.reset with upd := { hold := true, step := 1 } }, by decide +kernel⟩,
   ⟨{ type := 3, stype := 0, target := 0, version := 0, offset := 0, length := 1, base := 0, digest := 0 }, { State.reset with upd := { step := 3 }, flash := { banks := (Vector.replicate 2 []).set 1 [(6, 1), (256, 3), (276, 1)] } }, by decide +kernel⟩,
   ⟨{ State.reset with upd := { hold := true, step := 4 } }, by decide +kernel⟩,
   ⟨{ (State.reset.fput F.UPD_STAT_STATE 4) with upd := { hold := false, step := 4, pairStep := 2 } }, by decide +kernel⟩,
   ⟨0, { (State.reset.fput F.UPD_STAT_STATE 4) with upd := { hold := true, step := 5, activating := some 0 } }, by decide +kernel⟩,
   ⟨0, (State.reset.fput F.UPD_STAT_STATE 3), by decide +kernel⟩,
   ⟨0, { ((State.reset.fput F.TASK_STAT_IDLE 1).fput F.UPD_STAT_STATE 4) with ochg := { testAt := some 0 } }, by decide +kernel⟩,
   ⟨0, State.reset, by decide +kernel⟩,
   ⟨0, (State.reset.fput F.UPD_STAT_STATE 5), by decide +kernel⟩,
   ⟨0, State.reset, by decide +kernel⟩,
   ⟨{ (State.reset.fput F.UPD_STAT_STATE 5) with pins := { ready := true } }, by decide +kernel⟩,
   ⟨(State.reset.fput F.UPD_STAT_STATE 5), by decide +kernel⟩,
   ⟨([0xA5, 0x5A] ++ natLe 2 1 ++ natLe 2 4 ++ natLe 4 0 ++ natLe 8 (2 ^ 64 - 1) ++ natLe 4 (crc32c (natLe 2 1 ++ natLe 2 4 ++ natLe 4 0 ++ natLe 8 (2 ^ 64 - 1) ++ natLe 4 0x21000)).toNat ++ List.replicate 44 0 ++ natLe 4 0x21000), 0x21000, { State.reset with boot := { recovery := true } }, by decide +kernel⟩,
   ⟨[1], { State.reset with boot := { recovery := true } }, by decide +kernel⟩,
   ⟨State.reset, by decide +kernel⟩⟩

theorem test_meets_TemperatureWarning :
    (∃ (deg : BitVec 16) (s : State), s.awake = true ∧ s.enabled Pg.TSENS = true ∧ s.sup.tempArmed = true ∧
      sgn16 (s.fget F.TSENS_WARN_DEG) ≤ deg.toInt) ∧
    (∃ (deg : BitVec 16) (s : State), s.awake = true ∧ s.enabled Pg.TSENS = true ∧ s.sup.tempArmed = false ∧
      sgn16 (s.fget F.TSENS_WARN_DEG) - 32 < deg.toInt) ∧
    (∃ (deg : BitVec 16) (s : State), s.awake = true ∧ s.enabled Pg.TSENS = true ∧ s.sup.tempArmed = false ∧
      deg.toInt ≤ sgn16 (s.fget F.TSENS_WARN_DEG) - 32) ∧
    (∃ (deg : BitVec 16) (s : State), s.awake = true ∧ s.enabled Pg.TSENS = true ∧ s.sup.tempArmed = true ∧
      deg.toInt < sgn16 (s.fget F.TSENS_WARN_DEG)) :=
  ⟨⟨2000, { (State.reset.fput (F.HDR_ENABLE 5) 1) with sup := { tempArmed := true } }, by decide +kernel⟩,
   ⟨2000, { (State.reset.fput (F.HDR_ENABLE 5) 1) with sup := { tempArmed := false } }, by decide +kernel⟩,
   ⟨1728, { (State.reset.fput (F.HDR_ENABLE 5) 1) with sup := { tempArmed := false } }, by decide +kernel⟩,
   ⟨1759, { (State.reset.fput (F.HDR_ENABLE 5) 1) with sup := { tempArmed := true } }, by decide +kernel⟩⟩

theorem test_meets_CommitOfTheLatestTask :
    (∃ (req : Req) (c : Fin 2) (n : Nat) (s : State), s.awake = true ∧ s.opens req (dispatchKey c) = true ∧ s.dispatchable c = some n) ∧
    (∃ (req : Req) (c : Fin 2) (n : BitVec 6) (s : State), s.awake = true ∧ s.opens req (commitKey c) = true ∧
      (s.runStack c).find? (fun x => (s.task x).st == .running) = some n.toNat) ∧
    (∃ (req : Req) (c : Fin 2) (n : BitVec 6) (s : State), s.awake = true ∧ s.opens req (commitKey c) = true ∧
      (s.runStack c).find? (fun x => (s.task x).st == .running) ≠ some n.toNat) :=
  ⟨⟨.ac0, 0, 3, { (State.reset.fput (F.HDR_ENABLE 22) 1) with tasks := [(3, { st := .released })] }, by decide +kernel⟩,
   ⟨.ac0, 0, 5, { (State.reset.fput (F.HDR_ENABLE 22) 1) with tasks := [(3, { st := .running }), (5, { st := .running })], running := #v[[5, 3], []] }, by decide +kernel⟩,
   ⟨.ac0, 0, 3, { (State.reset.fput (F.HDR_ENABLE 22) 1) with tasks := [(3, { st := .running }), (5, { st := .running })], running := #v[[5, 3], []] }, by decide +kernel⟩⟩

theorem test_meets_RevokeCommand :
    (∃ (core : Fin 4) (src : Word64) (len : Word) (s : State), s.awake = true ∧ s.upd.hold = false ∧ s.fset (F.ANC_RSP_BUSY core) = false ∧
      s.coreComp0 core = true ∧ len.toNat = lcLength ∧ mboxRange core src.toNat len.toNat = true ∧ s.lcBodyOk (s.bytesAt src.toNat lcLength) = true ∧
      byteOf (s.bytesAt src.toNat lcLength) 2 = 6 ∧ (byteOf (s.bytesAt src.toNat lcLength) 24) < 6 ∧ lcState s.trust.otp ≠ 4 ∧
      blockOk ((s.bytesAt src.toNat lcLength).drop 256) (fun key => key == (byteOf (s.bytesAt src.toNat lcLength) 24) ^^^ 1) true = true ∧
      slotUsable s.trust.otp ((byteOf (s.bytesAt src.toNat lcLength) 24) ^^^ 1) = true ∧ s.ecc.all (fun e => eccInst e.1 != some 5) = true) ∧
    (∃ (core : Fin 4) (src : Word64) (len : Word) (s : State), s.awake = true ∧ s.upd.hold = false ∧ s.fset (F.ANC_RSP_BUSY core) = false ∧
      s.coreComp0 core = true ∧ len.toNat = lcLength ∧ mboxRange core src.toNat len.toNat = true ∧ s.lcBodyOk (s.bytesAt src.toNat lcLength) = true ∧
      byteOf (s.bytesAt src.toNat lcLength) 2 = 6 ∧ (byteOf (s.bytesAt src.toNat lcLength) 24) < 6 ∧ lcState s.trust.otp ≠ 4 ∧
      byteOf ((s.bytesAt src.toNat lcLength).drop 256) 3 ≠ (byteOf (s.bytesAt src.toNat lcLength) 24) ^^^ 1 ∧
      s.ecc.all (fun e => eccInst e.1 != some 5) = true) ∧
    (∃ (core : Fin 4) (src : Word64) (len : Word) (s : State), s.awake = true ∧ s.upd.hold = false ∧ s.fset (F.ANC_RSP_BUSY core) = false ∧
      s.coreComp0 core = true ∧ len.toNat = lcLength ∧ mboxRange core src.toNat len.toNat = true ∧ s.lcBodyOk (s.bytesAt src.toNat lcLength) = true ∧
      byteOf (s.bytesAt src.toNat lcLength) 2 = 6 ∧ (byteOf (s.bytesAt src.toNat lcLength) 24) < 6 ∧ lcState s.trust.otp ≠ 4 ∧
      slotUsable s.trust.otp ((byteOf (s.bytesAt src.toNat lcLength) 24) ^^^ 1) = false ∧ s.ecc.all (fun e => eccInst e.1 != some 5) = true) :=
  ⟨⟨0, 0x10ED0000, 30128, { ((((((((State.reset.setLe 0x10ED0000 2 1).setLe 0x10ED0002 1 6).setLe 0x10ED0004 6 1).setLe 0x10ED0010 8 77).setLe 0x10ED0018 1 5).setLe 0x10ED0100 2 1).setLe 0x10ED0102 1 1).setLe 0x10ED0103 1 4).setLe 0x10ED0104 4 29872 with trust := { otp := { prov := true, slots := Vector.replicate 6 1 }, chal := some (77, 5000) } }, by decide +kernel⟩,
   ⟨0, 0x10ED0000, 30128, { ((((((((State.reset.setLe 0x10ED0000 2 1).setLe 0x10ED0002 1 6).setLe 0x10ED0004 6 1).setLe 0x10ED0010 8 77).setLe 0x10ED0018 1 5).setLe 0x10ED0100 2 1).setLe 0x10ED0102 1 1).setLe 0x10ED0103 1 5).setLe 0x10ED0104 4 29872 with trust := { otp := { prov := true, slots := Vector.replicate 6 1 }, chal := some (77, 5000) } }, by decide +kernel⟩,
   ⟨0, 0x10ED0000, 30128, { ((((((((State.reset.setLe 0x10ED0000 2 1).setLe 0x10ED0002 1 6).setLe 0x10ED0004 6 1).setLe 0x10ED0010 8 77).setLe 0x10ED0018 1 5).setLe 0x10ED0100 2 1).setLe 0x10ED0102 1 1).setLe 0x10ED0103 1 4).setLe 0x10ED0104 4 29872 with trust := { otp := { prov := true, slots := (Vector.replicate 6 1).set 4 0 }, chal := some (77, 5000) } }, by decide +kernel⟩⟩

end Sys2Proof.Tests
end

section
/-! The bits of a field after a write, and field reads of the same register beside it. -/
namespace Sys2Proof.Machine

/-- The number of a register value with one field replaced: the bits below the field, its new bits, and those above. -/
theorem fieldPut_eq (f : Fld) (v : Word) (x : Nat) :
    fieldPut f v x = BitVec.ofNat 32 (2 ^ f.lo * (fieldSize f * (v.toNat / 2 ^ f.lo / fieldSize f) + x % fieldSize f) + v.toNat % 2 ^ f.lo) := by
  have hv : v.toNat = 2 ^ f.lo * (v.toNat / 2 ^ f.lo) + v.toNat % 2 ^ f.lo := (Nat.div_add_mod ..).symm
  have hq : v.toNat / 2 ^ f.lo = fieldSize f * (v.toNat / 2 ^ f.lo / fieldSize f) + fieldOf f v := (Nat.div_add_mod ..).symm
  unfold fieldPut
  congr 1
  generalize v.toNat / 2 ^ f.lo / fieldSize f = q at *
  generalize v.toNat % 2 ^ f.lo = r at *
  rw [hv, hq, Nat.mul_add, Nat.mul_add, Nat.mul_comm (fieldOf f v), Nat.mul_comm (x % fieldSize f)]
  omega

/-- A write of a field changes the bits of that field and no other. -/
theorem getLsbD_fieldPut (f : Fld) (v : Word) (x i : Nat) (hlo : f.lo ≤ f.hi) (hhi : f.hi < 32) :
    (fieldPut f v x).getLsbD i = if f.lo ≤ i ∧ i ≤ f.hi then x.testBit (i - f.lo) else v.getLsbD i := by
  have hmod (n k : Nat) : n % 2 ^ k < 2 ^ k := Nat.mod_lt _ (Nat.two_pow_pos k)
  rw [fieldPut_eq, BitVec.getLsbD_ofNat, Nat.testBit_two_pow_mul_add _ (hmod ..)]
  simp only [fieldSize]
  by_cases h1 : i < f.lo
  · have hout : ¬ (f.lo ≤ i ∧ i ≤ f.hi) := by omega
    simp [h1, hout, Nat.testBit_mod_two_pow, BitVec.getLsbD, show i < 32 by omega]
  · rw [if_neg h1, Nat.testBit_two_pow_mul_add _ (hmod ..)]
    by_cases h2 : i ≤ f.hi
    · simp [h2, show f.lo ≤ i by omega, show i < 32 by omega, show i - f.lo < f.hi + 1 - f.lo by omega, Nat.testBit_mod_two_pow]
    · have hout : ¬ (f.lo ≤ i ∧ i ≤ f.hi) := by omega
      have hsum : i - f.lo - (f.hi + 1 - f.lo) + (f.hi + 1 - f.lo) + f.lo = i := by omega
      rw [if_neg hout, if_neg (by omega), Nat.testBit_div_two_pow, Nat.testBit_div_two_pow, hsum]
      by_cases h3 : i < 32
      · simp [h3, BitVec.getLsbD]
      · simp [h3, BitVec.getLsbD_of_ge v i (by omega)]

/-- Bit `i` of a field. -/
theorem testBit_fieldOf (f : Fld) (v : Word) (i : Nat) : (fieldOf f v).testBit i = (decide (i < f.hi + 1 - f.lo) && v.getLsbD (i + f.lo)) := by
  simp [fieldOf, fieldSize, Nat.testBit_mod_two_pow, Nat.testBit_div_two_pow, BitVec.getLsbD]

/-- A write of a field leaves the fields of the same register that share no bit with it. -/
theorem fieldOf_fieldPut_disjoint {f g : Fld} (v : Word) (x : Nat) (hlo : f.lo ≤ f.hi) (hhi : f.hi < 32) (h : g.hi < f.lo ∨ f.hi < g.lo) :
    fieldOf g (fieldPut f v x) = fieldOf g v := by
  apply Nat.eq_of_testBit_eq
  intro i
  simp only [testBit_fieldOf, getLsbD_fieldPut f v x _ hlo hhi]
  by_cases hi : i < g.hi + 1 - g.lo
  · rw [if_neg (by omega)]
  · simp [hi]

theorem State.fget_fput_disjoint (s : State) {f g : Fld} (x : Nat) (hlo : f.lo ≤ f.hi) (hhi : f.hi < 32) (h : g.hi < f.lo ∨ f.hi < g.lo) :
    (s.fput f x).fget g = s.fget g := by
  by_cases hk : g.key = f.key
  · simp only [State.fget, State.fput, hk, State.rd_wr_self, fieldOf_fieldPut_disjoint _ _ hlo hhi h]
  · exact s.fget_fput_ne x hk

/-- A flag of one bit reads 1 once it is set. -/
theorem State.fset_flag (s : State) (f : Fld) (h1 : f.hi = f.lo) (h2 : f.lo < 32) : (s.flag f).fset f = true := by
  have hget : (s.flag f).fget f = 1 % fieldSize f := s.fget_fput f 1 (by omega) (by omega)
  simp [State.fset, hget, fieldSize, h1]

/-- The field of all 32 bits is the register. -/
theorem fieldOf_whole (k : Nat) (v : Word) : fieldOf ⟨k, 31, 0⟩ v = v.toNat := by
  simp only [fieldOf, fieldSize]
  omega

/-- A 32-bit counter saturates at its greatest value. -/
theorem State.rd_countSat (s : State) (k n : Nat) : ((s.countSat k n).rd k).toNat = satCount (s.rd k) n := by
  have hput (x : Nat) : ((s.fput ⟨k, 31, 0⟩ x).rd k).toNat = x % 2 ^ 32 := by
    have h := s.fget_fput ⟨k, 31, 0⟩ x (Nat.zero_le 31) (Nat.lt_succ_self 31)
    simpa only [State.fget, fieldOf_whole, fieldSize] using h
  simp only [State.countSat, State.addSat, hput, State.fget, fieldOf_whole, fieldSize, satCount]
  omega

end Sys2Proof.Machine
end

section
/-! What an operation over registers, a fault of the fabric and a refusal of CMPT may change, as relations that compose. -/
namespace Sys2Proof.Machine

/-! ### Registers alone -/

theorem onlyRegs_trans {s t u : State} {ks : List Nat} (h1 : onlyRegs s t ks) (h2 : onlyRegs t u ks) : onlyRegs s u ks := by
  obtain ⟨e1, k1⟩ := h1
  obtain ⟨e2, k2⟩ := h2
  refine ⟨?_, fun k hk => (k2 k hk).trans (k1 k hk)⟩
  rw [e1] at e2
  exact e2

theorem onlyRegs_mono {s t : State} {ks ls : List Nat} (h : onlyRegs s t ks) (hsub : ks ⊆ ls) : onlyRegs s t ls :=
  ⟨h.1, fun k hk => h.2 k (fun hin => hk (hsub hin))⟩

theorem onlyRegs_wr (s : State) (k : Nat) (v : Word) : onlyRegs s (s.wr k v) [k] :=
  ⟨rfl, fun _ hj => s.rd_wr_ne v (List.ne_of_not_mem_cons hj)⟩

theorem onlyRegs_fput (s : State) (f : Fld) (x : Nat) : onlyRegs s (s.fput f x) [f.key] := onlyRegs_wr ..

/-- A write of a field of one of the registers listed. -/
theorem onlyRegs_fput_mem (s : State) {f : Fld} (x : Nat) {ks : List Nat} (h : f.key ∈ ks) : onlyRegs s (s.fput f x) ks :=
  onlyRegs_mono (onlyRegs_fput s f x) (by simpa using h)

theorem onlyRegs_flag (s : State) (f : Fld) : onlyRegs s (s.flag f) [f.key] := onlyRegs_wr ..
theorem onlyRegs_countSat (s : State) (k n : Nat) : onlyRegs s (s.countSat k n) [k] := onlyRegs_wr ..

theorem onlyRegs_setPair (s : State) (lo hi v : Nat) : onlyRegs s (s.setPair lo hi v) [lo, hi] :=
  onlyRegs_trans (onlyRegs_mono (onlyRegs_wr s lo _) (by simp)) (onlyRegs_mono (onlyRegs_wr _ hi _) (by simp))

theorem onlyRegs_raise (s : State) (p k : Nat) : onlyRegs s (s.raise p k) [R.INT_RAW p] :=
  ⟨raise_regs s p k, fun _ hj => rd_raise_ne s p k (List.ne_of_not_mem_cons hj)⟩

/-- A field of a register that is not listed reads as before. -/
theorem onlyRegs_fget {s t : State} {ks : List Nat} (h : onlyRegs s t ks) {f : Fld} (hk : f.key ∉ ks) : t.fget f = s.fget f := by
  simp only [State.fget, h.2 _ hk]

/-! ### Faults that SYS captures (R102) -/

/-- What SYS holds of a fault beside its count: the capture of the first, MORE for a later one. -/
def State.sysTake (s : State) (req : Req) (write : Bool) (kind addr : Nat) : State :=
  if s.fset F.SYS_FAULT_CAPT then s.fput F.SYS_FAULT_MORE 1
  else ((((((s.setPair R.SYS_FAULT_ADDR_LO R.SYS_FAULT_ADDR_HI addr).fput F.SYS_FAULT_CAPT 1).fput F.SYS_FAULT_REQ (reqCode req)).fput
    F.SYS_FAULT_WRITE (boolNat write)).fput F.SYS_FAULT_KIND kind)).raise Pg.SYS Ev.SYS_FAULT

/-- A fault counts and is captured. -/
theorem sysFault_eq (s : State) (req : Req) (write : Bool) (kind addr : Nat) :
    s.sysFault req write kind addr = (s.countSat R.SYS_FAULT_COUNT 1).sysTake req write kind addr := rfl

/-- The registers of the capture. -/
def captureRegs : List Nat := [R.BLK_FAULT Pg.SYS, R.SYS_FAULT_ADDR_LO, R.SYS_FAULT_ADDR_HI, R.INT_RAW Pg.SYS]

theorem onlyRegs_sysTake (s : State) (req : Req) (write : Bool) (kind addr : Nat) : onlyRegs s (s.sysTake req write kind addr) captureRegs := by
  unfold State.sysTake
  split
  · exact onlyRegs_fput_mem _ _ (by decide)
  · refine onlyRegs_trans ?_ (onlyRegs_mono (onlyRegs_raise ..) (by decide))
    iterate 4 refine onlyRegs_trans ?_ (onlyRegs_fput_mem _ _ (by decide))
    exact onlyRegs_mono (onlyRegs_setPair ..) (by decide)

theorem onlyRegs_sysFault (s : State) (req : Req) (write : Bool) (kind addr : Nat) : onlyRegs s (s.sysFault req write kind addr) sysCapture := by
  rw [sysFault_eq]
  exact onlyRegs_trans (onlyRegs_mono (onlyRegs_countSat ..) (by decide)) (onlyRegs_mono (onlyRegs_sysTake ..) (by decide))

theorem sysFault_count (s : State) (req : Req) (write : Bool) (kind addr : Nat) :
    ((s.sysFault req write kind addr).rd R.SYS_FAULT_COUNT).toNat = satCount (s.rd R.SYS_FAULT_COUNT) 1 := by
  rw [sysFault_eq, (onlyRegs_sysTake ..).2 _ (by decide), State.rd_countSat]

/-- BLK_FAULT of no page is among registers at other offsets. -/
theorem blkFault_not_mem {ks : List Nat} (p : Nat) (h : ∀ k ∈ ks, k % 0x1000 ≠ 0x24) : R.BLK_FAULT p ∉ ks :=
  fun hin => h _ hin (by simp only [R.BLK_FAULT]; omega)

/-- The flags of BLK_FAULT below the capture, in SYS too, stay as they are (R99). -/
theorem sysFault_fget_flag (s : State) (req : Req) (write : Bool) (kind addr p i : Nat) (hi : i < 22) :
    (s.sysFault req write kind addr).fget ⟨R.BLK_FAULT p, i, i⟩ = s.fget ⟨R.BLK_FAULT p, i, i⟩ := by
  have above (s : State) (f : Fld) (x : Nat) (hlo : 22 ≤ f.lo) (h : f.lo ≤ f.hi) (hhi : f.hi < 32) :
      (s.fput f x).fget ⟨R.BLK_FAULT p, i, i⟩ = s.fget ⟨R.BLK_FAULT p, i, i⟩ := s.fget_fput_disjoint x h hhi (Or.inl (Nat.lt_of_lt_of_le hi hlo))
  have hcount : (s.countSat R.SYS_FAULT_COUNT 1).fget ⟨R.BLK_FAULT p, i, i⟩ = s.fget ⟨R.BLK_FAULT p, i, i⟩ :=
    onlyRegs_fget (onlyRegs_countSat ..) (blkFault_not_mem p (by decide))
  rw [sysFault_eq, ← hcount]
  unfold State.sysTake
  split
  · exact above _ _ _ (by decide) (by decide) (by decide)
  · rw [onlyRegs_fget (onlyRegs_raise ..) (blkFault_not_mem p (by decide))]
    iterate 4 rw [above _ _ _ (by decide) (by decide) (by decide)]
    exact onlyRegs_fget (onlyRegs_setPair ..) (blkFault_not_mem p (by decide))

/-! ### Refusals and their records (R466) -/

/-- Only the registers listed, the recorder, its rate of refusals and the requester's answer change. -/
def onlyRefusal (s t : State) (ks : List Nat) : Prop :=
  t = { s with regs := t.regs, resp := t.resp, cairn := t.cairn, denyRate := t.denyRate } ∧ regsKept s t ks

theorem onlyRefusal_refl (s : State) (ks : List Nat) : onlyRefusal s s ks := ⟨rfl, fun _ _ => rfl⟩

theorem onlyRefusal_trans {s t u : State} {ks : List Nat} (h1 : onlyRefusal s t ks) (h2 : onlyRefusal t u ks) : onlyRefusal s u ks := by
  obtain ⟨e1, k1⟩ := h1
  obtain ⟨e2, k2⟩ := h2
  refine ⟨?_, fun k hk => (k2 k hk).trans (k1 k hk)⟩
  rw [e1] at e2
  exact e2

theorem onlyRefusal_mono {s t : State} {ks ls : List Nat} (h : onlyRefusal s t ks) (hsub : ks ⊆ ls) : onlyRefusal s t ls :=
  ⟨h.1, fun k hk => h.2 k (fun hin => hk (hsub hin))⟩

theorem onlyRefusal_of_regs {s t : State} {ks : List Nat} (h : onlyRegs s t ks) : onlyRefusal s t ks := by
  obtain ⟨e, kept⟩ := h
  refine ⟨?_, kept⟩
  rw [e]

theorem pagesKept_of_regsKept {s t : State} {ks ps : List Nat} (h : regsKept s t ks) (hp : ∀ k ∈ ks, k / 0x1000 ∈ ps) : pagesKept s t ps :=
  fun k hk => h k (fun hin => hk (hp k hin))

/-- A record changes, of the registers, those of its drop (R504). -/
theorem regsKept_submit (s : State) (r : Rec) : regsKept s (s.submit r) recordRegs := by
  intro k hk
  simp only [recordRegs, List.mem_cons, List.not_mem_nil, or_false, not_or] at hk
  obtain ⟨hdrop, hraw⟩ := hk
  unfold State.submit
  split
  · rfl
  · rw [rd_raise_ne _ _ _ hraw]
    exact State.rd_fput_ne _ _ _ hdrop

theorem onlyRefusal_submit (s : State) (r : Rec) : onlyRefusal s (s.submit r) recordRegs :=
  ⟨by rw [submit_frame], regsKept_submit s r⟩

theorem onlyRefusal_denyNote (s : State) (rate : Vector (Nat × Nat × Nat) 2) (fields : List Byte) :
    onlyRefusal s (({ s with denyRate := rate } : State).denyNote fields) recordRegs :=
  onlyRefusal_trans (t := { s with denyRate := rate }) ⟨rfl, fun _ _ => rfl⟩ (onlyRefusal_submit ..)

theorem onlyRefusal_denySum (s : State) (c : Nat) : onlyRefusal s (s.denySum c) recordRegs := by
  unfold State.denySum
  split
  split
  · exact onlyRefusal_refl ..
  · exact onlyRefusal_denyNote ..

theorem onlyRefusal_denyRecord (s : State) (c : Nat) : onlyRefusal s (s.denyRecord c) recordRegs := by
  refine onlyRefusal_trans (onlyRefusal_denySum s c) ?_
  simp only [State.denyRecord]
  generalize s.denySum c = u
  split
  · exact onlyRefusal_denyNote ..
  · split
    · exact onlyRefusal_denyNote ..
    · exact ⟨rfl, fun _ _ => rfl⟩

/-- What CMPT holds of a refusal beside its count: the capture of the first, MORE for a later one. -/
def State.denyTake (s : State) (req : Req) (c : Nat) (write : Bool) (region index addr : Nat) : State :=
  if s.fset F.CMPT_DENY_INFO_CAPT then s.fput F.CMPT_DENY_INFO_MORE 1
  else
    let s := s.setPair R.CMPT_DENY_ADDR_LO R.CMPT_DENY_ADDR_HI addr
    let s := ((s.fput F.CMPT_DENY_INFO_CAPT 1).fput F.CMPT_DENY_INFO_CORE c).fput F.CMPT_DENY_INFO_WRITE (boolNat write)
    let s := (s.fput F.CMPT_DENY_INFO_COMP ((s.session req).getD 0)).fput F.CMPT_DENY_INFO_SESSION (boolNat (s.session req).isSome)
    (s.fput F.CMPT_DENY_INFO_REGION region).fput F.CMPT_DENY_INFO_INDEX index

/-- A refusal of a service core counts, is captured, raises its event and is recorded. -/
theorem cmptDeny_svc {req : Req} {c : Nat} (s : State) (write : Bool) (region index addr : Nat) (h : svcCore req = some c) :
    s.cmptDeny req write region index addr
      = (((s.countSat R.CMPT_DENY_COUNT 1).denyTake req c write region index addr).raise Pg.CMPT Ev.CMPT_DENY).denyRecord c := by
  simp only [State.cmptDeny, h]
  rfl

/-- Of another requester CMPT refuses nothing. -/
theorem cmptDeny_other {req : Req} (s : State) (write : Bool) (region index addr : Nat) (h : svcCore req = none) :
    s.cmptDeny req write region index addr = s := by
  simp only [State.cmptDeny, h]

/-- The registers of that capture. -/
def denyCaptureRegs : List Nat := [R.CMPT_DENY_INFO, R.CMPT_DENY_ADDR_LO, R.CMPT_DENY_ADDR_HI]

theorem onlyRegs_denyTake (s : State) (req : Req) (c : Nat) (write : Bool) (region index addr : Nat) :
    onlyRegs s (s.denyTake req c write region index addr) denyCaptureRegs := by
  unfold State.denyTake
  split
  · exact onlyRegs_fput_mem _ _ (by decide)
  · iterate 7 refine onlyRegs_trans ?_ (onlyRegs_fput_mem _ _ (by decide))
    exact onlyRegs_mono (onlyRegs_setPair ..) (by decide)

/-- The registers that a refusal of CMPT may change. -/
def denyRegs : List Nat := R.CMPT_DENY_COUNT :: R.INT_RAW Pg.CMPT :: denyCaptureRegs ++ recordRegs

theorem onlyRefusal_cmptDeny (s : State) (req : Req) (write : Bool) (region index addr : Nat) :
    onlyRefusal s (s.cmptDeny req write region index addr) denyRegs := by
  cases hc : svcCore req with
  | none => rw [cmptDeny_other s write region index addr hc]; exact onlyRefusal_refl ..
  | some c =>
    rw [cmptDeny_svc s write region index addr hc]
    refine onlyRefusal_trans (onlyRefusal_of_regs ?_) (onlyRefusal_mono (onlyRefusal_denyRecord ..) (by decide))
    refine onlyRegs_trans ?_ (onlyRegs_mono (onlyRegs_raise _ Pg.CMPT _) (by decide))
    refine onlyRegs_trans (onlyRegs_mono (onlyRegs_countSat _ R.CMPT_DENY_COUNT 1) (by decide)) ?_
    exact onlyRegs_mono (onlyRegs_denyTake ..) (by decide)

theorem cmptDeny_count {req : Req} (s : State) (write : Bool) (region index addr : Nat) (h : (svcCore req).isSome = true) :
    ((s.cmptDeny req write region index addr).rd R.CMPT_DENY_COUNT).toNat = satCount (s.rd R.CMPT_DENY_COUNT) 1 := by
  obtain ⟨c, hc⟩ := Option.isSome_iff_exists.1 h
  rw [cmptDeny_svc s write region index addr hc, (onlyRefusal_denyRecord ..).2 _ (by decide), (onlyRegs_raise ..).2 _ (by decide),
    (onlyRegs_denyTake ..).2 _ (by decide), State.rd_countSat]

/-! ### A page access that R93 refuses -/

/-- The registers that the refusal of an access to page `p` may change. -/
def refuseRegs (p : Nat) : List Nat := R.BLK_FAULT p :: sysCapture ++ denyRegs

theorem onlyRefusal_pageRefuse (s : State) (req : Req) (p off : Nat) (write : Bool) : onlyRefusal s (s.pageRefuse req p off write) (refuseRegs p) := by
  have hflag : onlyRefusal s (s.flag (F.HDR_CMPT_DENY p)) (refuseRegs p) :=
    onlyRefusal_of_regs (onlyRegs_mono (onlyRegs_flag ..) (by simp [refuseRegs, F.HDR_CMPT_DENY]))
  have hsys (u : State) : onlyRefusal u (u.sysFault req write 3 (pageAddr p off)) (refuseRegs p) :=
    onlyRefusal_of_regs (onlyRegs_mono (onlyRegs_sysFault ..) (by intro k hk; simp [refuseRegs, hk]))
  have hdeny (u : State) : onlyRefusal u (u.cmptDeny req write 0 p (pageAddr p off)) (refuseRegs p) :=
    onlyRefusal_mono (onlyRefusal_cmptDeny ..) (by intro k hk; simp [refuseRegs, hk])
  exact onlyRefusal_trans (onlyRefusal_trans (onlyRefusal_trans hflag (hsys _)) (hdeny _)) ⟨rfl, fun _ _ => rfl⟩

theorem refuseRegs_pages (p : Nat) : ∀ k ∈ refuseRegs p, k / 0x1000 ∈ [Pg.SYS, p, Pg.CMPT, Pg.CAIRN] := by
  intro k hk
  have hrest : ∀ k ∈ sysCapture ++ denyRegs, k / 0x1000 ∈ [Pg.SYS, Pg.CMPT, Pg.CAIRN] := by decide
  have hsub : [Pg.SYS, Pg.CMPT, Pg.CAIRN] ⊆ [Pg.SYS, p, Pg.CMPT, Pg.CAIRN] := List.cons_subset_cons _ (List.subset_cons_self ..)
  rcases List.mem_cons.1 hk with rfl | hk
  · have hpage : R.BLK_FAULT p / 0x1000 = p := by simp only [R.BLK_FAULT]; omega
    rw [hpage]
    exact List.mem_cons_of_mem _ List.mem_cons_self
  · exact hsub (hrest k hk)

/-- The refused page holds it in bit 4 of its BLK_FAULT. -/
theorem pageRefuse_fset_deny (s : State) (req : Req) (p off : Nat) (write : Bool) : (s.pageRefuse req p off write).fset (F.HDR_CMPT_DENY p) = true := by
  have hkept (u : State) : (u.cmptDeny req write 0 p (pageAddr p off)).rd (R.BLK_FAULT p) = u.rd (R.BLK_FAULT p) :=
    (onlyRefusal_cmptDeny ..).2 _ (blkFault_not_mem p (by decide))
  have hdeny : (s.pageRefuse req p off write).fget (F.HDR_CMPT_DENY p)
      = ((s.flag (F.HDR_CMPT_DENY p)).sysFault req write 3 (pageAddr p off)).fget (F.HDR_CMPT_DENY p) := congrArg (fieldOf _) (hkept _)
  have hflag := s.fset_flag (F.HDR_CMPT_DENY p) rfl (by simp [F.HDR_CMPT_DENY])
  simp only [State.fset] at hflag ⊢
  rw [hdeny, F.HDR_CMPT_DENY, sysFault_fget_flag _ _ _ _ _ _ _ (by decide)]
  exact hflag

theorem pageRefuse_denyCount {req : Req} (s : State) (p off : Nat) (write : Bool) (h : (svcCore req).isSome = true) :
    ((s.pageRefuse req p off write).rd R.CMPT_DENY_COUNT).toNat = satCount (s.rd R.CMPT_DENY_COUNT) 1 := by
  have hcount := cmptDeny_count ((s.flag (F.HDR_CMPT_DENY p)).sysFault req write 3 (pageAddr p off)) write 0 p (pageAddr p off) h
  have hne : R.CMPT_DENY_COUNT ∉ [(F.HDR_CMPT_DENY p).key] := by
    simp only [F.HDR_CMPT_DENY, R.BLK_FAULT, R.CMPT_DENY_COUNT, List.mem_singleton]
    omega
  rw [(onlyRegs_sysFault ..).2 _ (by decide), (onlyRegs_flag ..).2 _ hne] at hcount
  exact hcount

end Sys2Proof.Machine
end

section
/-! A 32-bit store to a register page (R11, R88, R93, R98), and the statement about it. -/
namespace Sys2Proof.Machine

theorem key_page (p o : Nat) (h : o < 0x1000) : (p * 0x1000 + o) / 0x1000 = p := by omega
theorem key_off (p o : Nat) (h : o < 0x1000) : (p * 0x1000 + o) % 0x1000 = o := by omega

/-- A store at an aligned offset of a page goes to that page's grant, and through it to the register. -/
theorem exec_registerWrite {s : State} (req : Req) (page : Fin 39) {off : Nat} (v : Word) (h : s.awake = true) (ha : off % 4 = 0)
    (ho : off < 0x1000) : exec (.registerWrite req page off v) s = .next (s.onPage req page off (fun s => s.regWrite req page off v)) := by
  have hoff : off % 0x1000 / 4 * 4 = off := by omega
  show execRegisterWrite req page off v s = _
  rw [execRegisterWrite, whenAwake_awake _ h]
  simp only [hoff]

theorem onPage_granted {s : State} {req : Req} {p off : Nat} (f : State → State) (h : s.pageGrant req p off = true) :
    s.onPage req p off f = { f s with resp := .data 0 } := by
  simp only [State.onPage, h, if_true]

theorem onPage_refused {s : State} {req : Req} {p off : Nat} (f : State → State) (h : s.pageGrant req p off = false) :
    s.onPage req p off f = s.pageRefuse req p off true := by
  simp only [State.onPage, h, Bool.false_eq_true, if_false]

/-- A register of the basic area takes the store by its own rule or its access code. -/
theorem regWrite_basic {s : State} {p o : Nat} (req : Req) (v : Word) (h1 : 0x100 ≤ o) (h2 : o < 0x800) (hr : (rowOf p o).isSome = true) :
    s.regWrite req p o v = s.regPut req p o v := by
  have hdef : ¬ (o < 0x100 ∨ (rowOf p o).isNone = true) := by
    rw [Option.isNone_eq_false_iff.2 hr]
    simp only [Bool.false_eq_true, or_false]
    omega
  rw [State.regWrite, if_neg (by omega), if_neg hdef, if_neg (by omega)]

/-- A register of the expert area does not take it while EXPERT is 0: the write is locked, and on the test registers of ECC marked as such. -/
theorem regWrite_locked {s : State} {req : Req} {p o : Nat} (v : Word) (h : 0x800 ≤ o) (hr : (rowOf p o).isSome = true)
    (he : s.fset (F.HDR_EXPERT p) = false) (hl : ownLock req p o = false) :
    s.regWrite req p o v = if 8 ≤ p ∧ p < 16 ∧ 0x804 ≤ o ∧ req ≠ .anchor then (s.lockedWrite req p o).flag (F.ECC_FAULT_TEST_LOCKED (p - 8))
      else s.lockedWrite req p o := by
  have hdef : ¬ (o < 0x100 ∨ (rowOf p o).isNone = true) := by
    rw [Option.isNone_eq_false_iff.2 hr]
    simp only [Bool.false_eq_true, or_false]
    omega
  rw [State.regWrite, if_neg (by omega), if_neg hdef, if_pos ⟨h, he, hl⟩]

/-- SYS, CLK, TSENS, PFW and IOS have no register with a rule of its own. -/
theorem regPut_plain (s : State) (req : Req) {p : Nat} (o : Nat) (v : Word) (hp : p = 0 ∨ p = 1 ∨ p = 5 ∨ p = 6 ∨ p = 21) :
    s.regPut req p o v = s.plainWrite req (p * 0x1000 + o) v := by
  rcases hp with rfl | rfl | rfl | rfl | rfl <;> rfl

/-- What a register reads after a store of a core or engine under its access code (R11, R14). -/
def codeWord (row : RegRow) (old v : Word) : Word :=
  ((old &&& ~~~(BitVec.ofNat 32 row.rw)) ||| (v &&& BitVec.ofNat 32 row.rw)) &&& ~~~(v &&& BitVec.ofNat 32 row.w1c)

theorem plainWrite_row {s : State} {req : Req} {k : Nat} (v : Word) {row : RegRow} {i : Nat} (h : rowOf (k / 0x1000) (k % 0x1000) = some (row, i))
    (ha : req ≠ .anchor) : s.plainWrite req k v = s.wr k (codeWord row (s.rd k) v) := by
  simp only [State.plainWrite, h, if_neg ha]
  rfl

/-- The locked write is captured and counted by SYS, and LOCKED_WR set. -/
theorem onlyRegs_lockedWrite (s : State) (req : Req) (p o : Nat) : onlyRegs s (s.lockedWrite req p o) (R.BLK_FAULT p :: sysCapture) :=
  onlyRegs_trans (onlyRegs_mono (onlyRegs_flag ..) (by simp [F.HDR_LOCKED_WR])) (onlyRegs_mono (onlyRegs_sysFault ..) (by simp))

theorem lockedWrite_fset (s : State) (req : Req) (p o : Nat) : (s.lockedWrite req p o).fset (F.HDR_LOCKED_WR p) = true := by
  have hflag := s.fset_flag (F.HDR_LOCKED_WR p) rfl (by simp [F.HDR_LOCKED_WR])
  simp only [State.fset, State.lockedWrite] at hflag ⊢
  rw [F.HDR_LOCKED_WR, sysFault_fget_flag _ _ _ _ _ _ _ (by decide)]
  exact hflag

theorem lockedWrite_count (s : State) (req : Req) (p o : Nat) :
    ((s.lockedWrite req p o).rd R.SYS_FAULT_COUNT).toNat = satCount (s.rd R.SYS_FAULT_COUNT) 1 := by
  have hne : R.SYS_FAULT_COUNT ∉ [(F.HDR_LOCKED_WR p).key] := by
    simp only [F.HDR_LOCKED_WR, R.BLK_FAULT, R.SYS_FAULT_COUNT, List.mem_singleton]
    omega
  rw [State.lockedWrite, sysFault_count, (onlyRegs_flag ..).2 _ hne]

/-- A store to a locked expert register: the flag that the test registers of ECC set besides is another bit of the page's own BLK_FAULT. -/
theorem regWrite_locked_effect {s : State} {req : Req} {p o : Nat} (v : Word) (h : 0x800 ≤ o) (hr : (rowOf p o).isSome = true)
    (he : s.fset (F.HDR_EXPERT p) = false) (hl : ownLock req p o = false) :
    onlyRegs s (s.regWrite req p o v) (R.BLK_FAULT p :: sysCapture) ∧ (s.regWrite req p o v).fset (F.HDR_LOCKED_WR p) = true
      ∧ ((s.regWrite req p o v).rd R.SYS_FAULT_COUNT).toNat = satCount (s.rd R.SYS_FAULT_COUNT) 1 := by
  have hregs := onlyRegs_lockedWrite s req p o
  have hset := lockedWrite_fset s req p o
  have hcount := lockedWrite_count s req p o
  rw [regWrite_locked v h hr he hl]
  split
  case isFalse => exact ⟨hregs, hset, hcount⟩
  case isTrue hecc =>
    obtain ⟨hp, -⟩ := hecc
    have hkey : (F.ECC_FAULT_TEST_LOCKED (p - 8)).key = R.BLK_FAULT p := by simp only [F.ECC_FAULT_TEST_LOCKED, Pg.ECC]; congr 1; omega
    refine ⟨onlyRegs_trans hregs (onlyRegs_mono (onlyRegs_flag ..) (by simp [hkey])), ?_, ?_⟩
    · have habove : ((s.lockedWrite req p o).flag (F.ECC_FAULT_TEST_LOCKED (p - 8))).fget (F.HDR_LOCKED_WR p)
          = (s.lockedWrite req p o).fget (F.HDR_LOCKED_WR p) :=
        State.fget_fput_disjoint _ _ (by simp [F.ECC_FAULT_TEST_LOCKED]) (by simp [F.ECC_FAULT_TEST_LOCKED])
          (Or.inl (by simp [F.ECC_FAULT_TEST_LOCKED, F.HDR_LOCKED_WR]))
      rw [State.fset, habove]
      exact hset
    · rw [State.flag, State.rd_fput_ne _ _ _ (by rw [hkey, R.BLK_FAULT, R.SYS_FAULT_COUNT]; omega)]
      exact hcount

/-- Settles O10: a store goes by its access code, is locked, or is refused, each with its frame. -/
theorem registerStores : Obligations.RegisterStores := by
  unfold Obligations.RegisterStores
  refine ⟨?_, ?_, ?_⟩
  · intro req page off v row i s hawake hpage h1 h2 ha hrow hgrant hreq
    refine ⟨_, exec_registerWrite req page v hawake ha (by omega), ?_⟩
    have hkey : rowOf ((page.val * 0x1000 + off) / 0x1000) ((page.val * 0x1000 + off) % 0x1000) = some (row, i) := by
      rw [key_page _ _ (by omega), key_off _ _ (by omega), hrow]
    rw [onPage_granted _ hgrant, regWrite_basic req v h1 h2 (by rw [hrow]; rfl), regPut_plain s req off v hpage, plainWrite_row v hkey hreq]
    exact ⟨⟨rfl, (onlyRegs_wr ..).2⟩, State.rd_wr_self ..⟩
  · intro req page off v s hawake h1 h2 ha hlock hexpert hrow hgrant
    refine ⟨_, exec_registerWrite req page v hawake ha h2, ?_⟩
    obtain ⟨⟨hframe, hkept⟩, hset, hcount⟩ := regWrite_locked_effect v h1 hrow hexpert hlock
    rw [onPage_granted _ hgrant]
    refine ⟨hset, ⟨?_, hkept⟩, hcount⟩
    rw [hframe]
  · intro req page off v s hawake ha ho hgrant
    refine ⟨_, exec_registerWrite req page v hawake ha ho, ?_⟩
    rw [onPage_refused _ hgrant]
    obtain ⟨hframe, hkept⟩ := onlyRefusal_pageRefuse s req page off true
    exact ⟨rfl, pageRefuse_fset_deny s req page off true, hframe, pagesKept_of_regsKept hkept (refuseRegs_pages page),
      pageRefuse_denyCount s page off true⟩

end Sys2Proof.Machine
end

section
/-! The images that a start-up loads (R6, R121): RST.BOOT_TIME saturates, and the statement about identities, roles and images, which has it wrap. -/
namespace Sys2Proof.Machine

/-- A start-up that completes writes its length in µs to BOOT_TIME, which saturates (R121). -/
theorem bootReady_bootTime {s : State} (h : s.pins.ready = false) : s.bootReady.rd R.RST_BOOT_TIME = BitVec.ofNat 32 (min 0xFFFFFFFF (s.cyc / 400)) := by
  have hready (u : State) : (u.ready true).rd R.RST_BOOT_TIME = u.rd R.RST_BOOT_TIME := u.rd_fput_ne F.SYS_STAT_READY 1 (by decide)
  rw [State.bootReady, if_neg (by simp [h]), hready, State.rd_wr_self]

/-- CONFIG_ACCEPT without a stored image completes the start-up, from step 7 on and outside recovery (R6). -/
theorem exec_configAccept_none {s : State} (h : s.awake = true) (hrun : s.boot.rtRun = true) (hrec : s.boot.recovery = false)
    (hstage : s.stageBefore 7 = false) : exec (.configAccept none) s = .next s.bootReady := by
  show execConfigAccept none s = _
  rw [execConfigAccept, whenAwake_awake _ h]
  simp only [hrun, hrec, hstage, Bool.not_false, Bool.and_self, if_true]
  rfl

/-- A module that waits at step 8 of its start-up, 2^32 µs (71.6 minutes) after its reset; the model bounds no start-up's length (log entry 39). -/
def longStart : State := { State.reset.wr R.RST_BOOT_STAT 8 with boot := { rtRun := true }, cyc := 400 * 2 ^ 32 }

/-- Refutes O49: where a start-up without an image takes 2^32 µs, BOOT_TIME reads 0xFFFF_FFFF (R121), and the statement has it read 0. -/
theorem not_identityRolesAndImages : ¬ Obligations.IdentityRolesAndImages := by
  unfold Obligations.IdentityRolesAndImages
  rintro ⟨-, -, -, -, -, -, -, -, -, -, -, -, -, hnoImage, -⟩
  have hmeets : longStart.awake = true ∧ longStart.pins.ready = false ∧ longStart.boot.rtRun = true ∧ longStart.boot.recovery = false
      ∧ longStart.stageBefore 7 = false := by decide +kernel
  obtain ⟨hawake, hready, hrun, hrec, hstage⟩ := hmeets
  obtain ⟨t, hnext, -, -, hwraps, -⟩ := hnoImage longStart hawake hready hrun hrec hstage
  rw [exec_configAccept_none hawake hrun hrec hstage, Host.Outcome.next.injEq] at hnext
  rw [← hnext, bootReady_bootTime hready] at hwraps
  revert hwraps
  decide

end Sys2Proof.Machine
end

section
/-! The common header of a page: commands under R93, the flags of the header that SYS captures too, and the unlock sequence of the expert area
(R89, R93 to R98). -/
namespace Sys2Proof.Machine

/-! ### A register command that its requester is let in to -/

theorem runs_regCmd {c : Instr} {s : State} {req : Req} {key : Nat} {f : State → State} {P : State → Prop} (hc : exec c s = s.regCmd req key f)
    (h : s.awake = true) (ho : s.opens req key = true) (hp : P { f s with resp := .data 0 }) : runs c s P :=
  ⟨_, hc.trans (regCmd_opens f h ho), hp⟩

/-- An operation over registers, as the command of a requester whose access completes. -/
theorem onlyAnswer_of_onlyRegs {s t : State} {ks : List Nat} (v : Word64) (h : onlyRegs s t ks) : onlyAnswer s { t with resp := .data v } v ks := by
  obtain ⟨hframe, hkept⟩ := h
  refine ⟨?_, hkept⟩
  rw [hframe]

theorem opens_anchor (s : State) (k : Nat) : s.opens .anchor k = true := rfl

/-! ### A flag of BLK_FAULT with its fault in SYS (R99, R102) -/

/-- The page's flag `i`, and the fault that SYS captures and counts with it. -/
def State.pageFault (s : State) (req : Req) (p i kind off : Nat) : State := (s.flag ⟨R.BLK_FAULT p, i, i⟩).sysFault req true kind (pageAddr p off)

theorem unlockFault_eq (s : State) (req : Req) (p : Nat) : s.unlockFault req p = s.pageFault req p 1 5 8 := rfl

theorem ownerWrite_other {s : State} {req : Req} (p : Nat) (v : Word) (h : req ≠ .anchor) : s.ownerWrite req p v = s.pageFault req p 3 6 0x20 := by
  rw [State.ownerWrite, if_neg h]
  rfl

theorem onlyRegs_pageFault (s : State) (req : Req) (p i kind off : Nat) : onlyRegs s (s.pageFault req p i kind off) (R.BLK_FAULT p :: sysCapture) :=
  onlyRegs_trans (onlyRegs_mono (onlyRegs_flag ..) (by simp)) (onlyRegs_mono (onlyRegs_sysFault ..) (by simp))

theorem pageFault_fset (s : State) (req : Req) (p kind off : Nat) {i : Nat} (hi : i < 22) :
    (s.pageFault req p i kind off).fset ⟨R.BLK_FAULT p, i, i⟩ = true := by
  have hflag := s.fset_flag ⟨R.BLK_FAULT p, i, i⟩ rfl (Nat.lt_trans hi (by decide))
  simp only [State.fset, State.pageFault] at hflag ⊢
  rw [sysFault_fget_flag _ _ _ _ _ _ _ hi]
  exact hflag

theorem pageFault_count (s : State) (req : Req) (p i kind off : Nat) :
    ((s.pageFault req p i kind off).rd R.SYS_FAULT_COUNT).toNat = satCount (s.rd R.SYS_FAULT_COUNT) 1 := by
  have hne : R.SYS_FAULT_COUNT ∉ [R.BLK_FAULT p] := by
    simp only [R.BLK_FAULT, R.SYS_FAULT_COUNT, List.mem_singleton]
    omega
  rw [State.pageFault, sysFault_count, (onlyRegs_flag ..).2 _ hne]

/-- BLK_CTL of no page is among registers at other offsets. -/
theorem blkCtl_not_mem {ks : List Nat} (p : Nat) (h : ∀ k ∈ ks, k % 0x1000 ≠ 8) : R.BLK_CTL p ∉ ks :=
  fun hin => h _ hin (by simp only [R.BLK_CTL]; omega)

/-- Beside its BLK_FAULT and the capture in SYS, a fault of the page leaves the registers at an offset. -/
theorem faultRegs_off {o : Nat} (p : Nat) (h : ∀ k ∈ sysCapture, k % 0x1000 ≠ o) : ∀ k ∈ R.BLK_FAULT p :: sysCapture, k % 0x1000 ≠ o := by
  have hsys : R.BLK_FAULT Pg.SYS ∈ sysCapture := List.mem_cons_self
  have hpage : R.BLK_FAULT p % 0x1000 = R.BLK_FAULT Pg.SYS % 0x1000 := by simp only [R.BLK_FAULT]; omega
  refine List.forall_mem_cons.2 ⟨?_, h⟩
  rw [hpage]
  exact h _ hsys

theorem pageFault_rd_ctl (s : State) (req : Req) (p i kind off : Nat) : (s.pageFault req p i kind off).rd (R.BLK_CTL p) = s.rd (R.BLK_CTL p) :=
  (onlyRegs_pageFault ..).2 _ (blkCtl_not_mem p (faultRegs_off p (by decide)))

/-! ### A write of BLK_CTL (R95, R96) -/

theorem setEnable_same {s : State} {p : Nat} {on : Bool} (h : s.enabled p = on) : s.setEnable p on = s := by
  simp only [State.setEnable, h, if_true, ite_self]

/-- A write that leaves ENABLE as it is acts through its KEY and EXPERT alone. -/
theorem ctlWrite_same {s : State} {p : Nat} {enable : Bool} (req : Req) (key : Nat) (expert : Bool) (h : s.enabled p = enable) :
    s.ctlWrite req p key expert enable = s.blkCtlKey req p key expert := by
  simp only [State.ctlWrite, setEnable_same h, ite_self]

/-- The arming of page `p` is over. -/
def State.disarmed (s : State) (p : Nat) : State := { s with unlock := tabDel s.unlock p }

theorem blkCtlKey_arm {s : State} {req : Req} (p : Nat) (expert : Bool) (h : s.comp0 req = true) :
    s.blkCtlKey req p keyArm expert = { s with unlock := tabPut s.unlock p (req, s.cyc) } := by
  simp only [State.blkCtlKey, if_neg (show keyArm ≠ 0 by decide), h, if_true]

theorem blkCtlKey_unlock {s : State} {req : Req} {p : Nat} {expert : Bool} (h : s.unlocks req p expert = true) :
    s.blkCtlKey req p keyUnlock expert = (s.disarmed p).setExpert req p := by
  simp only [State.blkCtlKey, if_neg (show keyUnlock ≠ 0 by decide), if_neg (show keyUnlock ≠ keyArm by decide), h, if_true,
    State.disarmed]

theorem blkCtlKey_unlock_fails {s : State} {req : Req} {p : Nat} {expert : Bool} (h : s.unlocks req p expert = false) :
    s.blkCtlKey req p keyUnlock expert = (s.disarmed p).pageFault req p 1 5 8 := by
  simp only [State.blkCtlKey, if_neg (show keyUnlock ≠ 0 by decide), if_neg (show keyUnlock ≠ keyArm by decide), h, if_true, Bool.false_eq_true,
    if_false, unlockFault_eq, State.disarmed]

theorem blkCtlKey_clear (s : State) (req : Req) (p : Nat) :
    s.blkCtlKey req p 0 false = (s.disarmed p).fput (F.HDR_EXPERT p) 0 := by
  simp only [State.blkCtlKey, if_true, State.disarmed]

/-! ### EXPERT becomes 1 (R98) -/

theorem setExpert_frame (s : State) (req : Req) (p : Nat) :
    s.setExpert req p = { s with regs := (s.setExpert req p).regs, cairn := (s.setExpert req p).cairn } := by
  simp only [State.setExpert]
  split
  · rfl
  · exact submit_frame _ _

/-- The record of the change, where there is one, changes no register of the page. -/
theorem setExpert_rd (s : State) (req : Req) (p : Nat) {k : Nat} (h : k ∉ recordRegs) :
    (s.setExpert req p).rd k = (s.fput (F.HDR_EXPERT p) 1).rd k := by
  simp only [State.setExpert]
  split
  · rfl
  · exact regsKept_submit _ _ k h

theorem setExpert_fset (s : State) (req : Req) (p : Nat) : (s.setExpert req p).fset (F.HDR_EXPERT p) = true := by
  have hrd : (s.setExpert req p).rd (F.HDR_EXPERT p).key = (s.flag (F.HDR_EXPERT p)).rd (F.HDR_EXPERT p).key :=
    setExpert_rd _ _ _ (blkCtl_not_mem p (by decide))
  rw [State.fset, State.fget, hrd]
  exact s.fset_flag (F.HDR_EXPERT p) rfl (by simp [F.HDR_EXPERT])

theorem regsKept_setExpert (s : State) (req : Req) (p : Nat) : regsKept s (s.setExpert req p) (R.BLK_CTL p :: recordRegs) := by
  intro k hk
  obtain ⟨hctl, hrec⟩ := not_or.1 (fun h => hk (List.mem_cons.2 h))
  rw [setExpert_rd _ _ _ hrec]
  exact s.rd_fput_ne _ _ hctl

/-- Settles O7: a write of BLK_CTL that leaves ENABLE goes by the table of R96, one line for each KEY of the sequence. -/
theorem expertSequence : Obligations.ExpertSequence := by
  unfold Obligations.ExpertSequence
  refine ⟨?arm, ?unlock, ?fails, ?clear⟩
  case arm =>
    intro req page enable s hawake hopen hcomp hsame
    refine runs_regCmd (c := .expertArm req page enable) rfl hawake hopen ?_
    rw [ctlWrite_same _ _ _ hsame, blkCtlKey_arm _ _ hcomp]
  case unlock =>
    intro req page enable s hawake hopen hseq hsame
    refine runs_regCmd (c := .expertUnlock req page enable) rfl hawake hopen ?_
    rw [ctlWrite_same _ _ _ hsame, blkCtlKey_unlock hseq]
    refine ⟨setExpert_fset (s.disarmed page) req page, ?_, regsKept_setExpert (s.disarmed page) req page⟩
    rw [setExpert_frame]
    rfl
  case fails =>
    intro req page enable s hawake hopen hseq hsame
    refine runs_regCmd (c := .expertUnlock req page enable) rfl hawake hopen ?_
    rw [ctlWrite_same _ _ _ hsame, blkCtlKey_unlock_fails hseq]
    obtain ⟨hframe, hkept⟩ := onlyRegs_pageFault (s.disarmed page) req page 1 5 8
    refine ⟨pageFault_fset _ _ _ _ _ (by decide), congrArg (fieldOf _) (pageFault_rd_ctl ..), ?_, hkept, pageFault_count ..⟩
    rw [hframe]
    rfl
  case clear =>
    intro req page enable s hawake hopen hsame
    refine runs_regCmd (c := .expertClear req page enable) rfl hawake hopen ?_
    rw [ctlWrite_same _ _ _ hsame, blkCtlKey_clear]
    have hzero : ((s.disarmed page).fput (F.HDR_EXPERT page) 0).fget (F.HDR_EXPERT page) = 0 :=
      State.fget_fput _ _ _ (by simp [F.HDR_EXPERT]) (by simp [F.HDR_EXPERT])
    have hclear : ((s.disarmed page).fput (F.HDR_EXPERT page) 0).fset (F.HDR_EXPERT page) = false := by rw [State.fset, hzero]; rfl
    exact ⟨hclear, rfl, (onlyRegs_fput (s.disarmed page) (F.HDR_EXPERT page) 0).2⟩

end Sys2Proof.Machine
end

section
/-! The interrupt controller: claims, completions, routes and software interrupts (R106 to R112), and the statement about them. -/
namespace Sys2Proof.Machine

/-! ### Claims (R107) -/

/-- A register read of a requester that R93 lets reach the register. -/
theorem runs_regReadCmd {c : Instr} {s : State} {req : Req} {key : Nat} {f : State → State × Word} {P : State → Prop}
    (hc : exec c s = s.regReadCmd req key f) (h : s.awake = true) (ho : s.opens req key = true)
    (hp : P { (f s).1 with resp := .data ((f s).2.zeroExtend 64) }) : runs c s P := by
  refine ⟨_, hc.trans ?_, hp⟩
  simp only [State.opens] at ho
  simp only [State.regReadCmd, whenAwake_awake _ h, ho, if_true]

theorem claimTake_some {s : State} {t n : Nat} (h : s.bestSource t = some n) :
    s.claimTake t = ({ s with claims := tabPut s.claims n t }, (BitVec.ofNat 64 (0x80000000 + n)).truncate 32) := by
  simp only [State.claimTake, State.claim, h]

theorem claimTake_none {s : State} {t : Nat} (h : s.bestSource t = none) : s.claimTake t = (s, 0) := by
  simp only [State.claimTake, State.claim, h]
  rfl

/-- VALID and the number of a source fit the 32 bits of CLAIMt. -/
theorem zeroExtend_claimWord {n : Nat} (h : n < 248) :
    ((BitVec.ofNat 64 (0x80000000 + n)).truncate 32).zeroExtend 64 = BitVec.ofNat 64 (0x80000000 + n) := by
  apply BitVec.eq_of_toNat_eq
  simp only [BitVec.truncate_eq_setWidth, BitVec.toNat_setWidth, BitVec.toNat_ofNat]
  omega

/-! ### Completions (R109) -/

theorem complete_claimed {s : State} {t n : Nat} (h : tabFind s.claims n = some t) : s.complete t n = { s with claims := tabDel s.claims n } := by
  rw [State.complete, if_pos h]

theorem complete_unclaimed {s : State} {t n : Nat} (h : tabFind s.claims n ≠ some t) : s.complete t n = s.flag F.INTC_FAULT_BAD_COMPLETE := by
  rw [State.complete, if_neg h]

/-- The answer to the requester is no register. -/
theorem fset_answered (s : State) (r : Resp) (f : Fld) : ({ s with resp := r } : State).fset f = s.fset f := rfl

/-! ### Routes (R108) -/

/-- A mask that holds every bit of a field leaves the field. -/
theorem fieldOf_and (f : Fld) (v m : Word) (h : ∀ i ≤ f.hi, f.lo ≤ i → m.getLsbD i = true) : fieldOf f (v &&& m) = fieldOf f v := by
  apply Nat.eq_of_testBit_eq
  intro i
  simp only [testBit_fieldOf, BitVec.getLsbD_and]
  by_cases hi : i < f.hi + 1 - f.lo
  · rw [h (i + f.lo) (by omega) (by omega), Bool.and_true]
  · simp [hi]

theorem fieldOf_lt (f : Fld) (v : Word) : fieldOf f v < fieldSize f := Nat.mod_lt _ (Nat.two_pow_pos _)

/-- TARGET and PRIO of ROUTEn as a write gives them. -/
theorem route_target_masked (n : Nat) (v : Word) : fieldOf (F.INTC_ROUTE_TARGET n) (v &&& 0x77) = fieldOf (F.INTC_ROUTE_TARGET n) v :=
  fieldOf_and _ v _ (show ∀ i ≤ 2, 0 ≤ i → (0x77 : Word).getLsbD i = true by decide)

theorem route_prio_masked (n : Nat) (v : Word) : fieldOf (F.INTC_ROUTE_PRIO n) (v &&& 0x77) = fieldOf (F.INTC_ROUTE_PRIO n) v :=
  fieldOf_and _ v _ (show ∀ i ≤ 6, 4 ≤ i → (0x77 : Word).getLsbD i = true by decide)

/-- What the anchor's write leaves in LOCK: 1 for a source that R108 fixes to it. -/
def anchorLock (n : Nat) (v : Word) : Nat := if anchorSource n then 1 else fieldOf (F.INTC_ROUTE_LOCK n) v

theorem routeWrite_anchor (s : State) (n : Nat) (v : Word) :
    s.routeWrite .anchor n v = s.wr (R.INTC_ROUTE n) (fieldPut (F.INTC_ROUTE_LOCK n) (v &&& 0x77) (anchorLock n v)) := by
  simp only [State.routeWrite, if_true]
  rfl

/-- The word that the anchor writes holds the three fields of its write. -/
theorem anchorRoute_fields (n : Nat) (v : Word) :
    fieldOf (F.INTC_ROUTE_TARGET n) (fieldPut (F.INTC_ROUTE_LOCK n) (v &&& 0x77) (anchorLock n v)) = fieldOf (F.INTC_ROUTE_TARGET n) v
      ∧ fieldOf (F.INTC_ROUTE_PRIO n) (fieldPut (F.INTC_ROUTE_LOCK n) (v &&& 0x77) (anchorLock n v)) = fieldOf (F.INTC_ROUTE_PRIO n) v
      ∧ fieldOf (F.INTC_ROUTE_LOCK n) (fieldPut (F.INTC_ROUTE_LOCK n) (v &&& 0x77) (anchorLock n v)) = anchorLock n v := by
  have hlo : (F.INTC_ROUTE_LOCK n).lo ≤ (F.INTC_ROUTE_LOCK n).hi := Nat.le_refl 8
  have hhi : (F.INTC_ROUTE_LOCK n).hi < 32 := show 8 < 32 by decide
  have htarget : (F.INTC_ROUTE_TARGET n).hi < (F.INTC_ROUTE_LOCK n).lo := show 2 < 8 by decide
  have hprio : (F.INTC_ROUTE_PRIO n).hi < (F.INTC_ROUTE_LOCK n).lo := show 6 < 8 by decide
  have hlock : anchorLock n v < fieldSize (F.INTC_ROUTE_LOCK n) := by
    unfold anchorLock
    split
    · exact show 1 < 2 by decide
    · exact fieldOf_lt _ v
  refine ⟨?_, ?_, ?_⟩
  · rw [fieldOf_fieldPut_disjoint _ _ hlo hhi (Or.inl htarget), route_target_masked]
  · rw [fieldOf_fieldPut_disjoint _ _ hlo hhi (Or.inl hprio), route_prio_masked]
  · rw [fieldOf_fieldPut _ _ _ hlo hhi, Nat.mod_eq_of_lt hlock]

/-- A write of another requester breaks the rule of LOCK: the entry is locked, or the write changes LOCK. -/
def State.routeLocked (s : State) (n : Nat) (v : Word) : Bool :=
  s.fget (F.INTC_ROUTE_LOCK n) == 1 || fieldOf (F.INTC_ROUTE_LOCK n) v != s.fget (F.INTC_ROUTE_LOCK n)

/-- It names the anchor's target. -/
def routeToAnchor (n : Nat) (v : Word) : Bool := fieldOf (F.INTC_ROUTE_TARGET n) v == 7

theorem routeWrite_taken {s : State} {req : Req} {n : Nat} {v : Word} (h : req ≠ .anchor) (hl : s.routeLocked n v = false)
    (ht : routeToAnchor n v = false) : s.routeWrite req n v = s.wr (R.INTC_ROUTE n) (v &&& 0x77) := by
  unfold State.routeLocked at hl
  unfold routeToAnchor at ht
  simp only [State.routeWrite, if_neg h, hl, ht, Bool.or_self, Bool.false_eq_true, if_false]

/-- A flag that is set where its rule was broken. -/
def State.flagIf (s : State) (b : Bool) (f : Fld) : State := if b then s.flag f else s

/-- A write that breaks a rule leaves the entry and sets the flag of each rule that it breaks. -/
theorem routeWrite_refused {s : State} {req : Req} {n : Nat} {v : Word} (h : req ≠ .anchor) (hb : (s.routeLocked n v || routeToAnchor n v) = true) :
    s.routeWrite req n v = (s.flagIf (s.routeLocked n v) F.INTC_FAULT_ROUTE_LOCKED).flagIf (routeToAnchor n v) F.INTC_FAULT_ANCHOR_TARGET := by
  unfold State.routeLocked routeToAnchor at hb
  simp only [State.routeWrite, if_neg h, hb, if_true]
  rfl

theorem onlyRegs_flagIf (s : State) (b : Bool) (f : Fld) : onlyRegs s (s.flagIf b f) [f.key] := by
  unfold State.flagIf
  split
  · exact onlyRegs_flag s f
  · exact ⟨rfl, fun _ _ => rfl⟩

theorem State.flagIf_fset (s : State) {b : Bool} {f : Fld} (hb : b = true) (h1 : f.hi = f.lo) (h2 : f.lo < 32) : (s.flagIf b f).fset f = true := by
  rw [State.flagIf, if_pos hb]
  exact s.fset_flag f h1 h2

theorem flagIf_fset_disjoint (s : State) (b : Bool) {f g : Fld} (hlo : f.lo ≤ f.hi) (hhi : f.hi < 32) (h : g.hi < f.lo ∨ f.hi < g.lo) :
    (s.flagIf b f).fset g = s.fset g := by
  unfold State.flagIf
  split
  · rw [State.fset, State.flag, s.fget_fput_disjoint 1 hlo hhi h, State.fset]
  · rfl

/-! ### The statement -/

/-- Settles O9: a claim by the best source, a completion by the table of claims, a route by its rules, and SWI_SET by its 16 bits. -/
theorem interruptController : Obligations.InterruptController := by
  unfold Obligations.InterruptController
  refine ⟨?claim, ?claimNone, ?complete, ?badComplete, ?route, ?anchorRoute, ?badRoute, ?swi⟩
  case claim =>
    intro req target n s hawake hopen hbest
    refine runs_regReadCmd (c := .intcClaim req target) (f := fun s => s.claimTake target) rfl hawake hopen ?_
    rw [claimTake_some hbest]
    exact ⟨rfl, rfl, fun hn => congrArg Resp.data (zeroExtend_claimWord hn)⟩
  case claimNone =>
    intro req target s hawake hopen hbest
    refine runs_regReadCmd (c := .intcClaim req target) (f := fun s => s.claimTake target) rfl hawake hopen ?_
    rw [claimTake_none hbest]
    rfl
  case complete =>
    intro req target source s hawake hopen hclaimed
    refine runs_regCmd (c := .intcComplete req target source) rfl hawake hopen ?_
    rw [complete_claimed hclaimed]
  case badComplete =>
    intro req target source s hawake hopen hunclaimed
    refine runs_regCmd (c := .intcComplete req target source) rfl hawake hopen ?_
    rw [complete_unclaimed hunclaimed]
    have hset : (s.flag F.INTC_FAULT_BAD_COMPLETE).fset F.INTC_FAULT_BAD_COMPLETE = true := s.fset_flag _ rfl (show 17 < 32 by decide)
    exact ⟨onlyAnswer_of_onlyRegs 0 (onlyRegs_flag s _), (fset_answered ..).trans hset⟩
  case route =>
    intro req source v s hawake hopen hreq hfree hkeep htarget
    have hl : s.routeLocked source v = false := by simp [State.routeLocked, hfree, hkeep]
    have ht : routeToAnchor source v = false := by simp [routeToAnchor, htarget]
    refine runs_regCmd (c := .intcRouteWrite req source v) rfl hawake hopen ?_
    rw [routeWrite_taken hreq hl ht]
    exact ⟨onlyAnswer_of_onlyRegs 0 (onlyRegs_wr s _ _), s.rd_wr_self _ _⟩
  case anchorRoute =>
    intro source v s hawake
    refine runs_regCmd (c := .intcRouteWrite .anchor source v) rfl hawake (opens_anchor s _) ?_
    obtain ⟨htarget, hprio, hlock⟩ := anchorRoute_fields source v
    rw [routeWrite_anchor]
    have hrd (f : Fld) (hf : f.key = R.INTC_ROUTE source) (w : Word) : (s.wr (R.INTC_ROUTE source) w).fget f = fieldOf f w := by
      rw [State.fget, hf, State.rd_wr_self]
    exact ⟨onlyAnswer_of_onlyRegs 0 (onlyRegs_wr s _ _), (hrd _ rfl _).trans htarget, (hrd _ rfl _).trans hprio, (hrd _ rfl _).trans hlock⟩
  case badRoute =>
    intro req source v s hawake hopen hreq hbad
    have hb : (s.routeLocked source v || routeToAnchor source v) = true := by
      simp only [State.routeLocked, routeToAnchor, Bool.or_eq_true, beq_iff_eq, bne_iff_ne, or_assoc]
      exact hbad
    refine runs_regCmd (c := .intcRouteWrite req source v) rfl hawake hopen ?_
    rw [routeWrite_refused hreq hb]
    refine ⟨onlyAnswer_of_onlyRegs 0 (onlyRegs_trans (onlyRegs_flagIf s _ _) (onlyRegs_flagIf _ _ _)), fun h7 => ?_, fun h1 => ?_⟩
    · exact State.flagIf_fset _ (by simp [routeToAnchor, h7]) rfl (show 18 < 32 by decide)
    · have hlocked : s.routeLocked source v = true := by simp [State.routeLocked, h1]
      have hset := s.flagIf_fset hlocked (f := F.INTC_FAULT_ROUTE_LOCKED) rfl (show 16 < 32 by decide)
      exact (flagIf_fset_disjoint _ _ (Nat.le_refl 18) (show 18 < 32 by decide) (Or.inl (show 16 < 18 by decide))).trans hset
  case swi =>
    intro req v s hawake hopen
    refine runs_regCmd (c := .intcSwiSet req v) rfl hawake hopen ?_
    exact ⟨onlyAnswer_of_onlyRegs 0 (onlyRegs_wr s _ _), s.rd_wr_self _ _⟩

end Sys2Proof.Machine
end

section
/-! What the start and the stop of a block leave alone, I: the operations over registers, memory and records. Each operation that a start or a stop is
written with has one equation here or in the two parts after, `ctlView_` and its name, which those of its callers use. -/
namespace Sys2Proof.Machine

/-- What no start and no stop of a block changes: the fuses, the flash, the waiting commands, and BLK_CTL of every page. -/
def State.ctlView (s : State) : Otp × Flash × List Instr × (Nat → Word) := (s.trust.otp, s.flash, s.pending, fun p => s.rd (R.BLK_CTL p))

theorem ctlView_otp {s t : State} (h : t.ctlView = s.ctlView) : t.trust.otp = s.trust.otp := congrArg Prod.fst h
theorem ctlView_flash {s t : State} (h : t.ctlView = s.ctlView) : t.flash = s.flash := congrArg (·.2.1) h
theorem ctlView_pending {s t : State} (h : t.ctlView = s.ctlView) : t.pending = s.pending := congrArg (·.2.2.1) h
theorem ctlView_enabled {s t : State} (h : t.ctlView = s.ctlView) (p : Nat) : t.enabled p = s.enabled p := by
  have hctl : t.rd (R.BLK_CTL p) = s.rd (R.BLK_CTL p) := congrFun (congrArg (·.2.2.2) h) p
  exact congrArg (fun w => fieldOf (F.HDR_ENABLE p) w == 1) hctl

/-! ### Branches and lists -/

@[simp] theorem ctlView_ite (c : Prop) [Decidable c] (s t : State) : (if c then s else t).ctlView = if c then s.ctlView else t.ctlView :=
  apply_ite State.ctlView c s t

theorem ctlView_foldl {α : Type} {f : State → α → State} {l : List α} (h : ∀ s, ∀ a ∈ l, (f s a).ctlView = s.ctlView) (s : State) :
    (l.foldl f s).ctlView = s.ctlView := by
  induction l generalizing s with
  | nil => rfl
  | cons a l ih =>
    rw [List.foldl_cons, ih (fun s b hb => h s b (List.mem_cons_of_mem a hb)), h s a List.mem_cons_self]

/-! ### Registers -/

/-- An operation over registers, of which none is a BLK_CTL. -/
theorem ctlView_of_onlyRegs {s t : State} {ks : List Nat} (h : onlyRegs s t ks) (hk : ∀ k ∈ ks, k % 0x1000 ≠ 8) : t.ctlView = s.ctlView := by
  obtain ⟨hframe, hkept⟩ := h
  have hctl : (fun p => t.rd (R.BLK_CTL p)) = fun p => s.rd (R.BLK_CTL p) := funext fun p => hkept _ (blkCtl_not_mem p hk)
  rw [State.ctlView, hctl, hframe]
  rfl

@[simp] theorem ctlView_wr (s : State) {k : Nat} (v : Word) (h : k % 0x1000 ≠ 8) : (s.wr k v).ctlView = s.ctlView :=
  ctlView_of_onlyRegs (onlyRegs_wr s k v) (List.forall_mem_singleton.2 h)

@[simp] theorem ctlView_fput (s : State) {f : Fld} (x : Nat) (h : f.key % 0x1000 ≠ 8) : (s.fput f x).ctlView = s.ctlView := ctlView_wr s _ h
@[simp] theorem ctlView_setBit (s : State) {k : Nat} (i : Nat) (b : Bool) (h : k % 0x1000 ≠ 8) : (s.setBit k i b).ctlView = s.ctlView :=
  ctlView_wr s _ h
@[simp] theorem ctlView_flag (s : State) {f : Fld} (h : f.key % 0x1000 ≠ 8) : (s.flag f).ctlView = s.ctlView := ctlView_wr s _ h
@[simp] theorem ctlView_addSat (s : State) {f : Fld} (n : Nat) (h : f.key % 0x1000 ≠ 8) : (s.addSat f n).ctlView = s.ctlView := ctlView_wr s _ h
@[simp] theorem ctlView_countSat (s : State) {k : Nat} (n : Nat) (h : k % 0x1000 ≠ 8) : (s.countSat k n).ctlView = s.ctlView := ctlView_wr s _ h
@[simp] theorem ctlView_setPair (s : State) {lo hi : Nat} (v : Nat) (hl : lo % 0x1000 ≠ 8) (hh : hi % 0x1000 ≠ 8) :
    (s.setPair lo hi v).ctlView = s.ctlView := (ctlView_wr _ _ hh).trans (ctlView_wr _ _ hl)

@[simp] theorem ctlView_raise (s : State) (p k : Nat) : (s.raise p k).ctlView = s.ctlView := by
  simp [State.raise, R.INT_RAW]

theorem ctlView_pageFault (s : State) (req : Req) (p i kind off : Nat) : (s.pageFault req p i kind off).ctlView = s.ctlView :=
  ctlView_of_onlyRegs (onlyRegs_pageFault ..) (faultRegs_off p (by decide))

/-! ### Fields that are no registers -/

@[simp] theorem ctlView_unlock (s : State) (u : Tab (Req × Nat)) : ({ s with unlock := u } : State).ctlView = s.ctlView := rfl
@[simp] theorem ctlView_pins (s : State) (x : Pins) : ({ s with pins := x } : State).ctlView = s.ctlView := rfl
@[simp] theorem ctlView_sup (s : State) (x : Supply) : ({ s with sup := x } : State).ctlView = s.ctlView := rfl
@[simp] theorem ctlView_trigs (s : State) (l : List Trig) : ({ s with trigs := l } : State).ctlView = s.ctlView := rfl
@[simp] theorem ctlView_ochg (s : State) (x : Ochg) : ({ s with ochg := x } : State).ctlView = s.ctlView := rfl
@[simp] theorem ctlView_eccx (s : State) (x : Vector EccX 8) : ({ s with eccx := x } : State).ctlView = s.ctlView := rfl
@[simp] theorem ctlView_mfpSet (s : State) (f : Mfp → Mfp) : (s.mfpSet f).ctlView = s.ctlView := rfl
@[simp] theorem ctlView_netSet (s : State) (f : Net → Net) : (s.netSet f).ctlView = s.ctlView := rfl
@[simp] theorem ctlView_nrgSet (s : State) (f : Nrg → Nrg) : (s.nrgSet f).ctlView = s.ctlView := rfl
@[simp] theorem ctlView_mtrSet (s : State) (f : Mtr → Mtr) : (s.mtrSet f).ctlView = s.ctlView := rfl
@[simp] theorem ctlView_cairnSet (s : State) (f : Cairn → Cairn) : (s.cairnSet f).ctlView = s.ctlView := rfl
@[simp] theorem ctlView_belSet (s : State) (f : Bel → Bel) : (s.belSet f).ctlView = s.ctlView := rfl
@[simp] theorem ctlView_canSet (s : State) (n : Nat) (f : CanX → CanX) : (s.canSet n f).ctlView = s.ctlView := rfl
@[simp] theorem ctlView_loopSet (s : State) (k : Nat) (f : LoopX → LoopX) : (s.loopSet k f).ctlView = s.ctlView := rfl
@[simp] theorem ctlView_taskSet (s : State) (t : Nat) (f : Task → Task) : (s.taskSet t f).ctlView = s.ctlView := rfl
@[simp] theorem ctlView_pointPut (s : State) (p : Nat) (x : Point) : (s.pointPut p x).ctlView = s.ctlView := rfl
@[simp] theorem ctlView_setFlips (s : State) (a : Nat) (f : BitVec 72) : (s.setFlips a f).ctlView = s.ctlView := rfl
@[simp] theorem ctlView_setByte (s : State) (a : Nat) (v : Byte) : (s.setByte a v).ctlView = s.ctlView := rfl

/-! ### Memory -/

@[simp] theorem ctlView_setBytes (s : State) (a : Nat) (l : List Byte) : (s.setBytes a l).ctlView = s.ctlView := by
  induction l generalizing s a with
  | nil => rfl
  | cons b l ih => rw [State.setBytes, ih, ctlView_setByte]

@[simp] theorem ctlView_setLe (s : State) (a n v : Nat) : (s.setLe a n v).ctlView = s.ctlView := ctlView_setBytes ..

/-- An armed test is disarmed by the store that it flips (R142). -/
@[simp] theorem ctlView_testFlips (s : State) (a : Nat) : (s.testFlips a).2.ctlView = s.ctlView := by
  unfold State.testFlips
  split
  · rfl
  · split
    · simp [F.ECC_TEST_CTL_ARM, R.ECC_TEST_CTL]
    · rfl

@[simp] theorem ctlView_storeWord (s : State) (a : Nat) (v : Word64) : (s.storeWord a v).ctlView = s.ctlView := by
  have heq : s.storeWord a v = ((s.testFlips a).2.setLe (wordBase a) 8 v.toNat).setFlips a (s.testFlips a).1 := rfl
  rw [heq, ctlView_setFlips, ctlView_setLe, ctlView_testFlips]

@[simp] theorem ctlView_storeWords (s : State) (a : Nat) (l : List Word64) : (s.storeWords a l).ctlView = s.ctlView := by
  induction l generalizing s a with
  | nil => rfl
  | cons w l ih => rw [State.storeWords, ih, ctlView_storeWord]

@[simp] theorem ctlView_mergeWord (s : State) (a n v : Nat) : (s.mergeWord a n v).ctlView = s.ctlView := by
  simp only [State.mergeWord, ctlView_setLe, ctlView_setFlips]

@[simp] theorem ctlView_bucketCheck (s : State) (n : Nat) : (s.bucketCheck n).ctlView = s.ctlView := by
  simp only [State.bucketCheck]
  split
  · exact (ctlView_eccx _ _).trans (ctlView_raise ..)
  · split
    · exact ctlView_eccx s _
    · rfl

@[simp] theorem ctlView_eccCorrected (s : State) (n a bit : Nat) (req : Req) (scrub : Bool) : (s.eccCorrected n a bit req scrub).ctlView = s.ctlView := by
  simp [State.eccCorrected, F.ECC_CE_INFO_BIT, F.ECC_CE_INFO_REQ, F.ECC_CE_INFO_SCRUB, F.ECC_BUCKET_LEVEL, R.ECC_CE_INFO, R.ECC_BUCKET,
    R.ECC_CE_TOTAL, R.ECC_CE_ADDR_LO, R.ECC_CE_ADDR_HI]

@[simp] theorem ctlView_eccUncorrectable (s : State) (n a : Nat) (req : Req) (scrub write : Bool) :
    (s.eccUncorrectable n a req scrub write).ctlView = s.ctlView := by
  simp only [State.eccUncorrectable, ctlView_raise]
  split
  · simp [F.ECC_UE_INFO_MORE, R.ECC_UE_INFO, R.ECC_UE_COUNT]
  · simp [F.ECC_UE_INFO_CAPT, F.ECC_UE_INFO_SCRUB, F.ECC_UE_INFO_REQ, F.ECC_UE_INFO_WRITE, R.ECC_UE_INFO, R.ECC_UE_COUNT, R.ECC_UE_ADDR_LO,
      R.ECC_UE_ADDR_HI]

@[simp] theorem ctlView_storeNarrow (s : State) (a n v : Nat) (req : Req) : (s.storeNarrow a n v req).2.ctlView = s.ctlView := by
  unfold State.storeNarrow
  split
  · exact ctlView_setLe ..
  · split
    · exact ctlView_mergeWord ..
    · exact (ctlView_eccCorrected ..).trans (ctlView_mergeWord ..)
    · exact ctlView_eccUncorrectable ..

@[simp] theorem ctlView_putPart (s : State) (req : Req) (a : Nat) (l : List Byte) (w : Nat) : (s.putPart req a l w).ctlView = s.ctlView := by
  simp only [State.putPart]
  split
  · exact ctlView_storeWord ..
  · exact ctlView_storeNarrow ..

@[simp] theorem ctlView_putBytes (s : State) (req : Req) (a : Nat) (l : List Byte) : (s.putBytes req a l).ctlView = s.ctlView :=
  ctlView_foldl (fun s w _ => ctlView_putPart s req a l w) s

/-! ### Records -/

@[simp] theorem ctlView_submit (s : State) (r : Rec) : (s.submit r).ctlView = s.ctlView := by
  unfold State.submit
  split
  · rfl
  · exact (ctlView_raise ..).trans (ctlView_countSat _ _ (by decide))

@[simp] theorem ctlView_noteAs (s : State) (cls sev comp p bit : Nat) (fields : List Byte) : (s.noteAs cls sev comp p bit fields).ctlView = s.ctlView :=
  ctlView_submit ..
@[simp] theorem ctlView_note (s : State) (p bit : Nat) (fields : List Byte) : (s.note p bit fields).ctlView = s.ctlView := ctlView_submit ..
@[simp] theorem ctlView_warn (s : State) (p bit : Nat) (fields : List Byte) : (s.warn p bit fields).ctlView = s.ctlView := ctlView_submit ..

end Sys2Proof.Machine
end

section
/-! What the start and the stop of a block leave alone, II: events, points and the tasks that a trigger releases; then the blocks one after another. -/
namespace Sys2Proof.Machine

/-! ### Tasks -/

@[simp] theorem ctlView_idleUpdate (s : State) : s.idleUpdate.ctlView = s.ctlView := by
  have hfput (x : Nat) : (s.fput F.TASK_STAT_IDLE x).ctlView = s.ctlView := ctlView_fput _ _ (by decide)
  simp only [State.idleUpdate]
  split
  · exact (ctlView_ochg _ _).trans (hfput _)
  · exact hfput _

@[simp] theorem ctlView_relEdge (s : State) (c : Nat) (was : Option Nat) : (s.relEdge c was).ctlView = s.ctlView := by
  simp [State.relEdge]

@[simp] theorem ctlView_taskWithdraw (s : State) (t : Nat) (st : TState) : (s.taskWithdraw t st).ctlView = s.ctlView := by
  simp only [State.taskWithdraw, ctlView_relEdge, ctlView_idleUpdate, ctlView_taskSet]
  exact ctlView_trigs s _

theorem ctlView_taskGate (s : State) : s.taskGate.ctlView = s.ctlView :=
  ctlView_foldl (fun s _ _ => by simp) s

theorem ctlView_taskUngate (s : State) : s.taskUngate.ctlView = s.ctlView :=
  ctlView_foldl (fun s _ _ => ctlView_taskSet s _ _) s

/-! ### Triggers -/

@[simp] theorem ctlView_overrun (s : State) (t instant : Nat) : (s.overrun t instant).ctlView = s.ctlView := by
  have hcnt : R.TASK_OVR_CNT t % 0x1000 ≠ 8 := by simp only [R.TASK_OVR_CNT]; omega
  simp only [State.overrun, ctlView_warn, ctlView_raise]
  exact (ctlView_taskSet ..).trans ((ctlView_countSat _ _ (by decide)).trans (ctlView_countSat s _ hcnt))

@[simp] theorem ctlView_triggerTask (s : State) (t instant : Nat) : (s.triggerTask t instant).2.ctlView = s.ctlView := by
  unfold State.triggerTask
  split
  · rfl
  · split
    case h_1 => rfl
    case h_2 => exact ctlView_taskSet ..
    case h_3 => exact (ctlView_ochg _ _).trans ((ctlView_taskSet ..).trans (ctlView_taskSet ..))
    case h_4 => exact ctlView_overrun ..
    case h_5 => exact (ctlView_idleUpdate _).trans (ctlView_taskSet ..)

@[simp] theorem ctlView_triggerAll (s : State) (g : Trig) (l : List Nat) : (s.triggerAll g l).ctlView = s.ctlView := by
  induction l generalizing s g with
  | nil =>
    unfold State.triggerAll
    split <;> rfl
  | cons t l ih => exact (ih ..).trans (ctlView_triggerTask ..)

@[simp] theorem ctlView_trigger (s : State) (kind source : Nat) (detail : Word) (skipped : Bool) :
    (s.trigger kind source detail skipped).ctlView = s.ctlView := ctlView_triggerAll ..

/-! ### Points -/

@[simp] theorem ctlView_lioPin (s : State) (pin : Nat) (v : View) : (s.lioPin pin v).ctlView = s.ctlView := by
  unfold State.lioPin
  split
  · rfl
  split
  · rfl
  split
  case isTrue hpin => exact ctlView_fput _ _ (by simp only [F.LIO_AOUT_CODE, R.LIO_AOUT]; omega)
  split
  · exact ctlView_setBit _ _ _ (by decide)
  · rfl

@[simp] theorem ctlView_lioDrive (s : State) (p : Nat) (v : View) : (s.lioDrive p v).ctlView = s.ctlView := by
  unfold State.lioDrive
  split
  · exact ctlView_foldl (fun s pin _ => ctlView_lioPin s pin v) s
  · rfl

@[simp] theorem ctlView_pointLog (s : State) (p : Nat) (b a : View) : (s.pointLog p b a).ctlView = s.ctlView := by
  simp only [State.pointLog]
  split
  · split
    · exact ctlView_cairnSet ..
    · exact ctlView_submit ..
  · rfl

@[simp] theorem ctlView_pointChanged (s : State) (p : Nat) (b a : View) : (s.pointChanged p b a).ctlView = s.ctlView := by
  simp [State.pointChanged]

theorem ctlView_pointMod {act : State → State} (h : ∀ u, (act u).ctlView = u.ctlView) (s : State) (p : Nat) : (s.pointMod p act).ctlView = s.ctlView :=
  (ctlView_pointChanged ..).trans (h _)

@[simp] theorem ctlView_pointStore (s : State) (p : Nat) (f : Point → Point) : (s.pointStore p f).ctlView = s.ctlView :=
  ctlView_testFlips s (pointAddr p)

@[simp] theorem ctlView_sourceWrite (s : State) (p : Nat) (v : Word) (q inst : Nat) : (s.sourceWrite p v q inst).ctlView = s.ctlView :=
  ctlView_pointMod (fun u => ctlView_pointStore u p _) s p

/-! ### CAN, the sleep and FNET -/

@[simp] theorem ctlView_canStat (s : State) (n : Nat) : (s.canStat n).ctlView = s.ctlView := by
  simp only [State.canStat]
  refine (ctlView_pins _ _).trans ?_
  simp [F.CAN_STAT_OPEN, F.CAN_STAT_STANDBY_LISTEN, F.CAN_STAT_RX_FULL, F.CAN_STATE_WARN, F.CAN_STATE_LISTEN_ACT, F.CAN_RX_RD_FW_WIN_VALID,
    R.BLK_STAT, R.CAN_STATE, R.CAN_RX_RD_FW]

@[simp] theorem ctlView_canGo (s : State) (n st : Nat) : (s.canGo n st).ctlView = s.ctlView := by
  simp [State.canGo, F.CAN_STATE_STATE, R.CAN_STATE]

theorem ctlView_canEnable (s : State) (n : Nat) : (s.canEnable n).ctlView = s.ctlView := by
  have hcheck (u : State) : (u.canBtCheck n).ctlView = u.ctlView := by
    simp [State.canBtCheck, F.CAN_FAULT_BT_INVALID, R.BLK_FAULT]
  have hstart (u : State) : (u.canStart n).ctlView = u.ctlView := by
    simp [State.canStart, F.CAN_ERR_CNT_TEC, F.CAN_ERR_CNT_REC, R.CAN_ERR_CNT]
  simp only [State.canEnable, ctlView_ite, hstart, hcheck, ite_self]

theorem ctlView_canDisable (s : State) (n : Nat) : (s.canDisable n).ctlView = s.ctlView := by
  simp [State.canDisable]

theorem ctlView_ready (s : State) (b : Bool) : (s.ready b).ctlView = s.ctlView := ctlView_fput s (f := F.SYS_STAT_READY) _ (by decide)

theorem ctlView_syncRestart (s : State) : s.syncRestart.ctlView = s.ctlView := ctlView_mfpSet ..

theorem ctlView_iosRestart (s : State) : s.iosRestart.ctlView = s.ctlView := ctlView_mfpSet ..

theorem ctlView_wokeReady (s : State) : s.wokeReady.ctlView = s.ctlView := by
  have hrest (x : Tab Task) (y : Tab LoopX) (z : Lio) : ({ s with tasks := x, loops := y, lio := z } : State).ctlView = s.ctlView := rfl
  exact (ctlView_iosRestart _).trans ((ctlView_syncRestart _).trans (hrest _ _ _))

theorem ctlView_wakeCheck (s : State) : s.wakeCheck.ctlView = s.ctlView := by
  unfold State.wakeCheck
  split
  · rw [ctlView_ite, ctlView_wokeReady, ctlView_ready, ctlView_sup, ite_self]
  · rfl

theorem ctlView_fnetEnable (s : State) : s.fnetEnable.ctlView = s.ctlView := (ctlView_mfpSet ..).trans (ctlView_syncRestart s)

theorem ctlView_fnetDisable (s : State) : s.fnetDisable.ctlView = s.ctlView := ctlView_fput _ _ (by decide)

/-! ### The loop engine with its tuning units, and the local I/O -/

theorem ctlView_laneStat (s : State) : s.laneStat.ctlView = s.ctlView := ctlView_fput _ _ (by decide)

theorem ctlView_loopEnable (s : State) : s.loopEnable.ctlView = s.ctlView :=
  (ctlView_foldl (fun s k _ => ctlView_loopSet s k _) _).trans (ctlView_laneStat s)

theorem ctlView_tuneStat (s : State) : s.tuneStat.ctlView = s.ctlView := (ctlView_fput _ _ (by decide)).trans (ctlView_fput _ _ (by decide))

theorem ctlView_injEnd (s : State) (i reason : Nat) : (s.injEnd i reason).ctlView = s.ctlView := by
  have hkey : R.TUNE_INJ_STAT i % 0x1000 ≠ 8 := by simp only [R.TUNE_INJ_STAT]; omega
  simp only [State.injEnd, ctlView_tuneStat, ctlView_raise]
  exact (ctlView_fput _ _ hkey).trans (ctlView_fput s _ hkey)

theorem ctlView_capEnd (s : State) (j reason : Nat) : (s.capEnd j reason).ctlView = s.ctlView := by
  have hkey : R.TUNE_CAP_STAT j % 0x1000 ≠ 8 := by simp only [R.TUNE_CAP_STAT]; omega
  simp only [State.capEnd, ctlView_tuneStat, ctlView_raise]
  exact (ctlView_fput _ _ hkey).trans (ctlView_fput s _ hkey)

theorem ctlView_unitsEnd (s : State) (p : Nat → Bool) (reason : Nat) : (s.unitsEnd p reason).ctlView = s.ctlView := by
  refine (ctlView_foldl (fun u j _ => ?_) _).trans (ctlView_foldl (fun u i _ => ?_) s)
  · rw [ctlView_ite, ctlView_capEnd, ite_self]
  · rw [ctlView_ite, ctlView_injEnd, ite_self]

theorem ctlView_loopDisable (s : State) : s.loopDisable.ctlView = s.ctlView := by
  simp only [State.loopDisable, ctlView_unitsEnd, ctlView_laneStat]
  exact ctlView_foldl (fun s k _ => ctlView_loopSet s k _) s

theorem ctlView_lioEnable (s : State) : s.lioEnable.ctlView = s.ctlView := by
  simp only [State.lioEnable]
  exact ctlView_foldl (fun s e _ => ctlView_lioPin s _ _) _

/-! ### Metering -/

theorem ctlView_mtrStat (s : State) : s.mtrStat.ctlView = s.ctlView := (ctlView_fput _ _ (by decide)).trans (ctlView_fput _ _ (by decide))

theorem ctlView_mtrEnable (s : State) : s.mtrEnable.ctlView = s.ctlView := ctlView_mtrStat _

@[simp] theorem ctlView_intervalFlag (s : State) (m flags : Nat) : (s.intervalFlag m flags).ctlView = s.ctlView := by
  simp only [State.intervalFlag]
  split <;> rfl

theorem ctlView_mtrEvent (s : State) (k d : Nat) : (s.mtrEvent k d).ctlView = s.ctlView := by
  simp [State.mtrEvent]

theorem ctlView_leaveValid (s : State) (m : Nat) : (s.leaveValid m).ctlView = s.ctlView := by
  have hkey : R.MTR_CIRC_STAT m % 0x1000 ≠ 8 := by simp only [R.MTR_CIRC_STAT]; omega
  have hbits (u : State) : (((u.fput (F.MTR_CIRC_STAT_VALID m) 0).fput (F.MTR_CIRC_STAT_TIMED m) 0).fput (F.MTR_CIRC_STAT_FREQ_OK m) 0).ctlView
      = u.ctlView := (ctlView_fput _ _ hkey).trans ((ctlView_fput _ _ hkey).trans (ctlView_fput _ _ hkey))
  have hpoints (u : State) (l : List Nat) : (l.foldl (fun s p => s.sourceWrite p (s.point p).value 2 s.monoNow) u).ctlView = u.ctlView :=
    ctlView_foldl (fun s p _ => ctlView_sourceWrite s p _ _ _) u
  simp only [State.leaveValid]
  split
  · refine (ctlView_intervalFlag ..).trans ((ctlView_mtrEvent ..).trans ?_)
    split
    · exact hbits _
    · exact (hpoints _ _).trans (hbits _)
  · exact hbits _

theorem ctlView_leaveAll (s : State) : s.leaveAll.ctlView = s.ctlView := by
  simp only [State.leaveAll]
  refine (ctlView_foldl (fun u v _ => ?_) _).trans (ctlView_foldl (fun u m _ => ?_) s)
  · exact (ctlView_setBit _ _ _ (by decide)).trans (ctlView_setBit _ _ _ (by decide))
  · rw [ctlView_ite, ctlView_leaveValid, ite_self]

theorem ctlView_mtrDisable (s : State) : s.mtrDisable.ctlView = s.ctlView := (ctlView_mtrStat _).trans (ctlView_leaveAll s)

end Sys2Proof.Machine
end

section
/-! What the start and the stop of a block leave alone, III: the energy totals, the ports of the switch and the scan. -/
namespace Sys2Proof.Machine

/-! ### Energy totals -/

theorem ctlView_nrgPut (s : State) (m : Nat) (c : NrgC) : (s.nrgPut m c).ctlView = s.ctlView := rfl

/-- The mark that energy has been written is no fuse. -/
theorem ctlView_energyWritten (s : State) : ({ s with trust := { s.trust with energyWritten := true } } : State).ctlView = s.ctlView := rfl

theorem ctlView_nrgStat (s : State) : s.nrgStat.ctlView = s.ctlView := (ctlView_fput _ _ (by decide)).trans (ctlView_fput _ _ (by decide))

theorem ctlView_mirror (s : State) (m : Nat) : (s.mirror m).ctlView = s.ctlView := ctlView_storeWords ..

theorem ctlView_mramNote (s : State) (a n : Nat) : (s.mramNote a n).ctlView = s.ctlView := by
  simp [State.mramNote]

theorem ctlView_nrgEvent (s : State) (k d : Nat) : (s.nrgEvent k d).ctlView = s.ctlView := by
  simp [State.nrgEvent]

theorem ctlView_nrgCircEnable (s : State) (m : Nat) : (s.nrgCircEnable m).ctlView = s.ctlView := by
  unfold State.nrgCircEnable
  split
  · rfl
  split
  · exact ctlView_intervalFlag ..
  · rfl

theorem ctlView_intervalEnd (s : State) (m flags skipped : Nat) : (s.intervalEnd m flags skipped).ctlView = s.ctlView := by
  simp only [State.intervalEnd]
  split
  · rfl
  · simp only [ctlView_ite, ctlView_nrgEvent, ctlView_mirror, ctlView_nrgPut, ctlView_storeWords, ite_self]

theorem ctlView_circLoad (s : State) (b : List Byte) (m flags : Nat) : (s.circLoad b m flags).ctlView = s.ctlView := by
  simp only [State.circLoad]
  split <;> rfl

theorem ctlView_circResume (s : State) (m : Nat) : (s.circResume m).ctlView = s.ctlView := by
  simp only [State.circResume]
  split
  · rfl
  split
  · exact ctlView_intervalFlag ..
  · exact (ctlView_nrgPut ..).trans (ctlView_intervalEnd ..)

/-- The unit of a circuit is in the register of that circuit: circuits 0 to 17 have one. -/
theorem ctlView_unitLoad (s : State) (b : List Byte) {m : Nat} (h : m < circCount) : (s.unitLoad b m).ctlView = s.ctlView := by
  have hkey : R.NRG_CIRC_TCFG m % 0x1000 ≠ 8 := by
    simp only [circCount] at h
    simp only [R.NRG_CIRC_TCFG]
    omega
  simp only [State.unitLoad]
  split
  · rfl
  · exact ctlView_fput _ _ hkey

theorem ctlView_slotLoad (s : State) (k : Nat) (b : List Byte) (start : Bool) : (s.slotLoad k b start).ctlView = s.ctlView := by
  have hload (u : State) (x : Nat) (f : Nrg → Nrg) : ((u.fput F.NRG_STAT_LOAD x).nrgSet f).ctlView = u.ctlView :=
    (ctlView_nrgSet ..).trans (ctlView_fput _ _ (by decide))
  have hunsaved (u : State) (l : List Byte) :
      (((u.fput F.NRG_STAT_UNSAVED 1).raiseAlways Pg.NRG Ev.NRG_UNSAVED).note Pg.NRG Ev.NRG_UNSAVED l).ctlView = u.ctlView :=
    (ctlView_note ..).trans ((ctlView_setBit _ _ _ (by decide)).trans (ctlView_fput _ _ (by decide)))
  simp only [State.slotLoad]
  refine (ctlView_foldl (fun u m hm => ?_) _).trans ?_
  · rw [ctlView_mirror, ctlView_circResume, ctlView_unitLoad _ _ (List.mem_range.1 hm), ctlView_circLoad]
  · rw [ctlView_ite, hunsaved, ite_self, hload]

theorem ctlView_nrgLoad (s : State) (start : Bool) : (s.nrgLoad start).ctlView = s.ctlView := by
  have hnotes : ((s.mramNote (slotAddr 0) 4676).mramNote (slotAddr 1) 4676).ctlView = s.ctlView := by
    simp only [ctlView_mramNote]
  have hmirrors (u : State) : ((List.range circCount).foldl (fun s m => s.mirror m) u).ctlView = u.ctlView :=
    ctlView_foldl (fun s m _ => ctlView_mirror s m) u
  have hload (u : State) (x : Nat) : (u.fput F.NRG_STAT_LOAD x).ctlView = u.ctlView := ctlView_fput _ _ (by decide)
  unfold State.nrgLoad
  generalize (s.mramNote (slotAddr 0) 4676).mramNote (slotAddr 1) 4676 = u at hnotes ⊢
  dsimp only
  split
  · exact (ctlView_slotLoad ..).trans hnotes
  split
  · exact (ctlView_noteAs ..).trans ((hload _ _).trans ((hmirrors _).trans ((ctlView_nrgSet ..).trans hnotes)))
  · exact (hload _ _).trans ((hmirrors _).trans ((ctlView_nrgSet ..).trans hnotes))

theorem ctlView_nrgEnable (s : State) : s.nrgEnable.ctlView = s.ctlView := by
  simp only [State.nrgEnable, ctlView_nrgStat]
  refine (ctlView_foldl (fun u m _ => ?_) _).trans ((ctlView_nrgSet ..).trans ?_)
  · rw [ctlView_ite, ctlView_nrgCircEnable, ite_self]
  · simp only [ctlView_ite, ctlView_nrgSet, ctlView_nrgLoad, ite_self]

theorem ctlView_nrgSave (s : State) (reason : Nat) : (s.nrgSave reason).ctlView = s.ctlView := by
  have hbegin : (s.saveBegin reason).ctlView = s.ctlView := by
    simp only [State.saveBegin]
    refine (ctlView_energyWritten _).trans ?_
    rw [ctlView_nrgSet, ctlView_fput _ _ (by decide), ctlView_putBytes]
  have hjoin (v : Save) : (s.saveJoin v reason).ctlView = s.ctlView := by
    simp [State.saveJoin]
  unfold State.nrgSave
  split
  · rfl
  split
  · rw [ctlView_ite, hjoin, ctlView_nrgSet, ite_self]
  · exact hbegin

theorem ctlView_nrgDisable (s : State) : s.nrgDisable.ctlView = s.ctlView := by
  simp only [State.nrgDisable, ctlView_ite, ctlView_nrgStat, ctlView_nrgSave, ctlView_nrgSet, ite_self]

/-! ### The switch and its ports -/

theorem ctlView_swStat (s : State) : s.swStat.ctlView = s.ctlView := ctlView_fput _ _ (by decide)

theorem ctlView_mac4Stat (s : State) : s.mac4Stat.ctlView = s.ctlView := (ctlView_fput _ _ (by decide)).trans (ctlView_fput _ _ (by decide))

theorem ctlView_txAdvance (s : State) (n : Nat) : (s.txAdvance n).ctlView = s.ctlView := by
  induction n generalizing s with
  | zero => rfl
  | succ n ih =>
    simp only [State.txAdvance]
    split
    · exact (ih _).trans ((ctlView_raise ..).trans ((ctlView_fput _ _ (by decide)).trans (ctlView_netSet ..)))
    · rfl

theorem ctlView_txRetire (s : State) (i status ts : Nat) : (s.txRetire i status ts).ctlView = s.ctlView := by
  unfold State.txRetire
  exact (ctlView_txAdvance _ 65536).trans ((ctlView_netSet ..).trans ((ctlView_putBytes ..).trans (ctlView_putBytes ..)))

theorem ctlView_egDiscard (s : State) (p status : Nat) (counted : Bool) : (s.egDiscard p status counted).ctlView = s.ctlView := by
  refine (ctlView_foldl (fun u e _ => ?_) _).trans (ctlView_netSet s _)
  have hcount : (if counted then u.countSat R.SW_DROP 1 else u).ctlView = u.ctlView := by
    rw [ctlView_ite, ctlView_countSat _ _ (by decide), ite_self]
  cases e.idx with
  | none => exact hcount
  | some i => exact (ctlView_txRetire ..).trans hcount

theorem ctlView_lqPut (s : State) (p : Nat) (l : List LqEnt) : (s.lqPut p l).ctlView = s.ctlView := by
  simp [State.lqPut, F.MAC_LQ_FILL_COUNT, R.MAC_LQ_FILL]

theorem ctlView_linkSet (s : State) (p : Nat) (up : Bool) : (s.linkSet p up).ctlView = s.ctlView := by
  have hlink (u : State) : ((((u.fput (F.MAC_STAT_LINK p) (boolNat up)).setBit (R.BLK_STAT Pg.SW) p up).raise (Pg.MAC p) Ev.MAC_LINK_CHG).raise
      Pg.SW Ev.SW_LINK_CHG).ctlView = u.ctlView := by
    simp [F.MAC_STAT_LINK, R.BLK_STAT]
  have hqueue (u : State) (l : List LqEnt) : (l.foldl (fun s e => s.txRetire e.idx stLinkDown 0) (u.lqPut p [])).ctlView = u.ctlView :=
    (ctlView_foldl (fun s e _ => ctlView_txRetire s _ _ _) _).trans (ctlView_lqPut ..)
  simp only [State.linkSet]
  split
  · rfl
  split
  · exact hlink s
  split
  · rw [ctlView_raise, ctlView_egDiscard, hqueue, ctlView_note, hlink]
  · rw [ctlView_egDiscard, hqueue, ctlView_note, hlink]

theorem ctlView_phyPower (s : State) (p : Nat) : (s.phyPower p).ctlView = s.ctlView := by
  unfold State.phyPower
  split <;> rfl

theorem ctlView_macEnabled (s : State) (p : Nat) : (s.macEnabled p).ctlView = s.ctlView := by
  simp only [State.macEnabled, ctlView_ite, ctlView_linkSet, ctlView_phyPower, ite_self]

/-! ### The scan -/

theorem ctlView_q0 (s : State) (f : Q0Frame) : (s.q0 f).ctlView = s.ctlView := by
  have hstore : (s.q0Store f).ctlView = s.ctlView := by
    simp [State.q0Store, R.CAN_TXQ0_WR]
  unfold State.q0
  split
  · rfl
  split
  · exact ctlView_countSat _ _ (by decide)
  split
  · exact hstore
  · exact (ctlView_raise ..).trans ((ctlView_countSat _ _ (by decide)).trans (ctlView_mfpSet ..))

theorem ctlView_startSend (s : State) : s.startSend.ctlView = s.ctlView := by
  simp only [State.startSend]
  exact (ctlView_fput _ _ (by decide)).trans ((ctlView_mfpSet ..).trans (ctlView_foldl (fun s c _ => ctlView_q0 s _) s))

theorem ctlView_iosEvent (s : State) (kind ch addr : Nat) (fields : List Byte) : (s.iosEvent kind ch addr fields).ctlView = s.ctlView := by
  simp only [State.iosEvent, ctlView_ite, ctlView_trigger, ctlView_note, ctlView_raise, ctlView_mfpSet, ite_self]

theorem ctlView_lostActions (s : State) (k : Nat) (x : Stn) : (s.lostActions k x).ctlView = s.ctlView := by
  simp only [State.lostActions]
  refine (ctlView_countSat _ _ (by decide)).trans ((ctlView_mfpSet ..).trans (ctlView_foldl (fun u p _ => ?_) s))
  rw [ctlView_ite, ctlView_pointMod (fun u => ctlView_pointPut u p _), ite_self]

theorem ctlView_stationLost (s : State) (k : Nat) : (s.stationLost k).ctlView = s.ctlView := by
  have hset (f : Stn → Stn) : (s.stnSet k f).ctlView = s.ctlView := by
    unfold State.stnSet
    split <;> rfl
  unfold State.stationLost
  split
  · rfl
  · exact (ctlView_iosEvent ..).trans ((ctlView_lostActions ..).trans (hset _))

theorem ctlView_tmoFloor (s : State) : s.tmoFloor.ctlView = s.ctlView := by
  simp only [State.tmoFloor]
  refine (ctlView_foldl (fun u e _ => ctlView_stationLost u _) _).trans ?_
  rw [ctlView_ite, ctlView_startSend, ite_self]

theorem ctlView_iosEnable (s : State) : s.iosEnable.ctlView = s.ctlView := by
  simp only [State.iosEnable, ctlView_ite, ctlView_tmoFloor, ctlView_mfpSet, ctlView_iosRestart, ite_self]

theorem ctlView_iosDisable (s : State) : s.iosDisable.ctlView = s.ctlView := by
  refine ctlView_foldl (fun u n _ => ?_) s
  simp [F.CAN_RX_RD_IOS_INDEX, R.CAN_RX_RD_IOS]

end Sys2Proof.Machine
end

section
/-! ENABLE, INT_CLR and BLK_OWNER of a page (R89, R91, R93, R96), and the statement about them. -/
namespace Sys2Proof.Machine

/-! ### ENABLE (R91) -/

theorem ctlView_blockOn (s : State) (p : Nat) : (s.blockOn p).ctlView = s.ctlView := by
  simp only [State.blockOn, ctlView_ite, ctlView_canEnable, ctlView_fnetEnable, ctlView_iosEnable, ctlView_taskUngate, ctlView_loopEnable,
    ctlView_lioEnable, ctlView_mtrEnable, ctlView_nrgEnable, ctlView_swStat, ctlView_mac4Stat, ctlView_macEnabled, ctlView_belSet, ite_self]

theorem ctlView_blockOff (s : State) (p : Nat) : (s.blockOff p).ctlView = s.ctlView := by
  simp only [State.blockOff, ctlView_ite, ctlView_canDisable, ctlView_wakeCheck, ctlView_fnetDisable, ctlView_iosDisable, ctlView_taskGate,
    ctlView_loopDisable, ctlView_mtrDisable, ctlView_nrgDisable, ctlView_swStat, ctlView_mac4Stat, ctlView_macEnabled, ite_self]

/-- ENABLE of page `p` reads `on`, and the fuses, the flash and the waiting commands are as they were. -/
structure EnableSet (s t : State) (p : Nat) (on : Bool) : Prop where
  enabled : t.enabled p = on
  otp : t.trust.otp = s.trust.otp
  flash : t.flash = s.flash
  pending : t.pending = s.pending

/-- What leaves BLK_CTL and the three others alone keeps it so. -/
theorem EnableSet.of_ctlView {s t u : State} {p : Nat} {on : Bool} (h : EnableSet s t p on) (hv : u.ctlView = t.ctlView) : EnableSet s u p on :=
  ⟨(ctlView_enabled hv p).trans h.enabled, (ctlView_otp hv).trans h.otp, (ctlView_flash hv).trans h.flash, (ctlView_pending hv).trans h.pending⟩

theorem EnableSet.refl {s : State} {p : Nat} {on : Bool} (h : s.enabled p = on) : EnableSet s s p on := ⟨h, rfl, rfl, rfl⟩

theorem enableSet_fput (s : State) (p : Nat) (on : Bool) : EnableSet s (s.fput (F.HDR_ENABLE p) (boolNat on)) p on := by
  have hget : (s.fput (F.HDR_ENABLE p) (boolNat on)).fget (F.HDR_ENABLE p) = boolNat on % 2 := s.fget_fput _ _ (Nat.le_refl 0) (show 0 < 32 by decide)
  refine ⟨?_, rfl, rfl, rfl⟩
  rw [State.enabled, State.fset, hget]
  cases on <;> rfl

/-- A write of ENABLE takes effect on every page whose ENABLE is not fixed, but for an enable of MAC4 with unfit rings (R443). -/
theorem enableSet_setEnable {s : State} {p : Nat} {on : Bool} (hfree : pageAlwaysOn p = false) (hmac : on = true → p ≠ Pg.MAC4 ∨ s.mac4Ok = true) :
    EnableSet s (s.setEnable p on) p on := by
  by_cases hsame : s.enabled p = on
  · rw [setEnable_same hsame]
    exact .refl hsame
  cases on with
  | false =>
    have heq : s.setEnable p false = (s.fput (F.HDR_ENABLE p) 0).blockOff p := by simp [State.setEnable, hfree, hsame]
    rw [heq]
    exact (enableSet_fput s p false).of_ctlView (ctlView_blockOff ..)
  | true =>
    have hfit : (p == Pg.MAC4 && !s.mac4Ok) = false := by
      rcases hmac rfl with hp | hok
      · simp [hp]
      · simp [hok]
    have heq : s.setEnable p true = (s.fput (F.HDR_ENABLE p) 1).blockOn p := by simp [State.setEnable, hfree, hsame, hfit]
    rw [heq]
    exact (enableSet_fput s p true).of_ctlView (ctlView_blockOn ..)

/-- KEY 0 with EXPERT 1 leaves an EXPERT of 1, and does not set it. -/
theorem blkCtlKey_keep (s : State) (req : Req) (p : Nat) :
    s.blkCtlKey req p 0 true = if s.fset (F.HDR_EXPERT p) then s.disarmed p else (s.disarmed p).pageFault req p 1 5 8 := by
  simp only [State.blkCtlKey, if_true, Bool.true_eq_false, if_false, unlockFault_eq, State.disarmed]

/-- KEY 0 acts on EXPERT, the arming and UNLOCK_SEQ: ENABLE stays as the same write has set it. -/
theorem enableSet_blkCtlKey_zero {s t : State} {p : Nat} {on : Bool} (h : EnableSet s t p on) (req : Req) (expert : Bool) :
    EnableSet s (t.blkCtlKey req p 0 expert) p on := by
  have hdisarmed : EnableSet s (t.disarmed p) p on := h.of_ctlView (ctlView_unlock ..)
  cases expert with
  | false =>
    rw [blkCtlKey_clear]
    have hkept : ((t.disarmed p).fput (F.HDR_EXPERT p) 0).fget (F.HDR_ENABLE p) = (t.disarmed p).fget (F.HDR_ENABLE p) :=
      State.fget_fput_disjoint _ _ (Nat.le_refl 1) (show 1 < 32 by decide) (Or.inl (show 0 < 1 by decide))
    obtain ⟨henabled, hotp, hflash, hpending⟩ := hdisarmed
    exact ⟨(congrArg (· == 1) hkept).trans henabled, hotp, hflash, hpending⟩
  | true =>
    rw [blkCtlKey_keep]
    split
    · exact hdisarmed
    · exact hdisarmed.of_ctlView (ctlView_pageFault ..)

theorem enableSet_ctlWrite {s : State} {p : Nat} {on : Bool} (req : Req) (expert : Bool) (hfree : pageAlwaysOn p = false)
    (hmac : on = true → p ≠ Pg.MAC4 ∨ s.mac4Ok = true) : EnableSet s (s.ctlWrite req p 0 expert on) p on := by
  rw [State.ctlWrite, if_pos (show keyActs 0 = true from rfl)]
  exact enableSet_blkCtlKey_zero (enableSet_setEnable hfree hmac) req expert

/-! ### INT_CLR and BLK_OWNER (R89, R93) -/

theorem ownerWrite_anchor (s : State) {p : Nat} (v : Word) (h : pageOwnerFixed p = false) :
    s.ownerWrite .anchor p v = s.wr (R.BLK_OWNER p) (v &&& 0x3F) := by
  simp only [State.ownerWrite, h, if_true, Bool.false_eq_true, if_false]

/-- A fault of the page leaves its BLK_OWNER. -/
theorem pageFault_rd_owner (s : State) (req : Req) (p i kind off : Nat) : (s.pageFault req p i kind off).rd (R.BLK_OWNER p) = s.rd (R.BLK_OWNER p) := by
  refine (onlyRegs_pageFault ..).2 _ (fun hin => ?_)
  have hoff : R.BLK_OWNER p % 0x1000 = 0x20 := by simp only [R.BLK_OWNER]; omega
  exact faultRegs_off p (by decide) _ hin hoff

/-! ### The statement -/

/-- Settles O8: BLK_CTL with KEY 0 sets ENABLE and the block's start or stop leaves it; INT_CLR and BLK_OWNER write one register, or hold the fault. -/
theorem pageHeaders : Obligations.PageHeaders := by
  unfold Obligations.PageHeaders
  refine ⟨?enable, ?disable, ?clear, ?ownerAnchor, ?ownerOther⟩
  case enable =>
    intro req page expert s hawake hopen hfree hmac
    refine runs_regCmd (c := .blockEnable req page expert) rfl hawake hopen ?_
    obtain ⟨henabled, hotp, hflash, hpending⟩ := enableSet_ctlWrite (s := s) (on := true) req expert hfree (fun _ => hmac)
    exact ⟨henabled, rfl, hotp, hflash, hpending⟩
  case disable =>
    intro req page expert s hawake hopen hfree
    refine runs_regCmd (c := .blockDisable req page expert) rfl hawake hopen ?_
    obtain ⟨henabled, hotp, hflash, hpending⟩ := enableSet_ctlWrite (s := s) (on := false) req expert hfree (fun h => nomatch h)
    exact ⟨henabled, rfl, hotp, hflash, hpending⟩
  case clear =>
    intro req page v s hawake hopen
    refine runs_regCmd (c := .intClr req page v) rfl hawake hopen ?_
    exact ⟨onlyAnswer_of_onlyRegs 0 (onlyRegs_wr s _ _), s.rd_wr_self _ _⟩
  case ownerAnchor =>
    intro page v s hawake hfree
    refine runs_regCmd (c := .blkOwnerWrite .anchor page v) rfl hawake (opens_anchor s _) ?_
    rw [ownerWrite_anchor s v hfree]
    exact ⟨onlyAnswer_of_onlyRegs 0 (onlyRegs_wr s _ _), s.rd_wr_self _ _⟩
  case ownerOther =>
    intro req page v s hawake hopen hreq
    refine runs_regCmd (c := .blkOwnerWrite req page v) rfl hawake hopen ?_
    rw [ownerWrite_other _ _ hreq]
    exact ⟨onlyAnswer_of_onlyRegs 0 (onlyRegs_pageFault ..), (fset_answered ..).trans (pageFault_fset _ _ _ _ _ (by decide)), pageFault_rd_owner ..⟩

end Sys2Proof.Machine
end

section
/-! The answer to an online change that finds another one in progress (R261, R266), and the statement about online changes: it keeps every page but
ANC's, while the answer is a whole-word write, which uses up an ECC test armed for the mailbox buffer (R142). -/
namespace Sys2Proof.Machine

/-! ### A mailbox request that is served (R555) -/

/-- The anchor takes up a request in its own SRAM without a word there that has flips. -/
theorem anchorWork_clean {s : State} (h : s.ecc.all (fun e => eccInst e.1 != some 5) = true) : s.anchorWork = s := by
  have hnone : (s.ecc.map (·.1)).filter (fun a => eccInst a == some 5) = [] := by
    simpa [List.filter_eq_nil_iff] using h
  simp only [State.anchorWork, hnone, List.foldl_nil]

/-- Taking a request changes registers alone. -/
theorem mboxTaken_regs (s : State) (core code : Nat) (args : List Word) :
    ∃ r, (s.mboxArgs core code args).mboxTake core = { s with regs := r } := by
  have hargs := mboxArgs_regs s core code args
  generalize s.mboxArgs core code args = u at hargs ⊢
  rw [hargs]
  exact ⟨_, rfl⟩

/-- A permitted request of an idle mailbox is served in the state in which its GO has been taken. -/
theorem mbox_served {s : State} {core : Nat} (code : Nat) (args : List Word) (f : State → State) (hlive : s.live = true) (hhold : s.upd.hold = false)
    (hidle : s.fset (F.ANC_RSP_BUSY core) = false) (hdecom : s.trust.otp.decom = false) (hclean : s.ecc.all (fun e => eccInst e.1 != some 5) = true) :
    s.mbox core code args true f = f ((s.mboxArgs core code args).mboxTake core) := by
  obtain ⟨r, htaken⟩ := mboxTaken_regs s core code args
  simp only [State.mbox, hhold, hidle, Bool.false_eq_true, if_false]
  have hreset : s.sup.inReset = false := by simpa [State.live] using hlive
  rw [htaken, anchorWork_clean (s := { s with regs := r }) hclean, hreset, hdecom]
  rfl

/-- The end of a request writes the core's two answer registers and its event. -/
theorem mboxEnd_rd (s : State) (core result : Nat) {k : Nat} (h : k ∉ [R.ANC_RSP core, R.ANC_RSP_1 core, R.INT_RAW Pg.ANC]) :
    (s.mboxEnd core result).rd k = s.rd k := by
  simp only [List.mem_cons, List.not_mem_nil, or_false, not_or] at h
  obtain ⟨hrsp, hrsp1, hraw⟩ := h
  simp only [State.mboxEnd, State.mboxDone]
  rw [rd_raise_ne _ _ _ hraw, State.rd_wr_ne _ _ hrsp1, State.rd_wr_ne _ _ hrsp]
  rfl

/-! ### OCHG_ARM while another change is going on (R261) -/

theorem ochgArm_busy {s : State} (core : Nat) (sigOk digestOk partnerOk : Bool) (h : s.ochg.st ≠ .idle) :
    s.ochgArm core sigOk digestOk partnerOk = s.ochgReply core mbBusy 5 0 (s.pkgId s.spareBase) 0 0 0 0 := by
  have hbusy : (s.ochg.st != .idle || s.updBusy) = true := by simp [h]
  simp only [State.ochgArm, hbusy, if_true, ochgMbox]

theorem exec_ochgArm_busy {s : State} (core : Fin 4) (sigOk digestOk partnerOk : Bool) (hawake : s.awake = true) (hhold : s.upd.hold = false)
    (hidle : s.fset (F.ANC_RSP_BUSY core) = false) (hdecom : s.trust.otp.decom = false) (hcomp : s.coreComp0 core = true) (hst : s.ochg.st ≠ .idle)
    (hclean : s.ecc.all (fun e => eccInst e.1 != some 5) = true) :
    exec (.ochgArm core sigOk digestOk partnerOk) s
      = .next (let u := (s.mboxArgs core 0x10 []).mboxTake core; u.ochgReply core mbBusy 5 0 (u.pkgId u.spareBase) 0 0 0 0) := by
  have hlive : s.live = true := (Bool.and_eq_true_iff.1 hawake).1
  have hst' : ((s.mboxArgs core 0x10 []).mboxTake core).ochg.st ≠ .idle := by
    obtain ⟨r, htaken⟩ := mboxTaken_regs s core 0x10 []
    rw [htaken]
    exact hst
  show execOchgArm core sigOk digestOk partnerOk s = _
  rw [execOchgArm, whenAwake_awake _ hawake, hcomp, mbox_served _ _ _ hlive hhold hidle hdecom hclean, ochgArm_busy core _ _ _ hst']

/-! ### The statement -/

/-- A change is ARMED, and the ECC test of R142 is armed for the first word of AC0's mailbox buffer: the anchor may write the test registers at any time. -/
def testedMailbox : State :=
  { ((State.reset.wr (R.ECC_TEST_ADDR_LO 4) (BitVec.ofNat 32 (mboxBuf 0))).wr (R.ECC_TEST_CTL 4) 0x100) with ochg := { st := .armed, core := 1 } }

/-- Refutes O27: an OCHG_ARM of AC0 beside an armed change is answered at byte 0 of its buffer, and where a test is armed for that word, the write of the
answer clears ECC4.TEST_CTL.ARM (R142), a register outside the page ANC, to which the statement confines the answer. -/
theorem not_onlineChange : ¬ Obligations.OnlineChange := by
  unfold Obligations.OnlineChange
  rintro ⟨-, hbusyArm, -⟩
  have hmeets : testedMailbox.awake = true ∧ testedMailbox.upd.hold = false ∧ testedMailbox.fset (F.ANC_RSP_BUSY 0) = false
      ∧ testedMailbox.trust.otp.decom = false ∧ testedMailbox.coreComp0 0 = true ∧ testedMailbox.ochg.st ≠ .idle
      ∧ testedMailbox.ecc.all (fun e => eccInst e.1 != some 5) = true := by decide +kernel
  obtain ⟨hawake, hhold, hidle, hdecom, hcomp, hst, hclean⟩ := hmeets
  obtain ⟨t, hnext, -, -, -, -, -, hpages⟩ := hbusyArm 0 true true true testedMailbox hawake hhold hidle hdecom hcomp (.inl hst) hclean
  rw [exec_ochgArm_busy 0 true true true hawake hhold hidle hdecom hcomp hst hclean, Host.Outcome.next.injEq] at hnext
  have hkept : t.rd (R.ECC_TEST_CTL 4) = testedMailbox.rd (R.ECC_TEST_CTL 4) := hpages _ (by decide)
  rw [← hnext, State.ochgReply, mboxEnd_rd _ _ _ (by decide)] at hkept
  revert hkept
  decide +kernel

end Sys2Proof.Machine
end

section
/-! What a source write of a point can change (R131, R142, R225, R240, R301, R514): the image, the triggers and tasks that it reaches, the records that it
leaves, and of the registers those of the pages TASK, CAIRN and ECC0 to ECC7 and the output pins of local I/O. -/
namespace Sys2Proof.Machine

/-- The pages on which a change of the image counts and tells: tasks, records, and the checkers with their armed tests. -/
def imagePages : List Nat := Pg.TASK :: Pg.CAIRN :: (List.range 8).map Pg.ECC

/-- The output pins that follow the image (R301). -/
def imagePins : List Nat := R.LIO_DIO_OUT :: (List.range 4).map R.LIO_AOUT

/-- A register that a change of the image may change. -/
def imageReg (k : Nat) : Prop := k / 0x1000 ∈ imagePages ∨ k ∈ imagePins

/-- Only the image and what follows from its change differ. -/
def onlyImage (s t : State) : Prop :=
  t = { s with regs := t.regs, ecc := t.ecc, points := t.points, prior := t.prior, priorAt := t.priorAt, trigs := t.trigs, tasks := t.tasks,
               ochg := t.ochg, cairn := t.cairn }
    ∧ ∀ k, ¬ imageReg k → t.rd k = s.rd k

/-! ### The relation -/

theorem onlyImage_refl (s : State) : onlyImage s s := ⟨rfl, fun _ _ => rfl⟩

theorem onlyImage_trans {s t u : State} (h1 : onlyImage s t) (h2 : onlyImage t u) : onlyImage s u := by
  obtain ⟨e1, k1⟩ := h1
  obtain ⟨e2, k2⟩ := h2
  refine ⟨?_, fun k hk => (k2 k hk).trans (k1 k hk)⟩
  rw [e1] at e2
  exact e2

theorem onlyImage_ite {s t u : State} (c : Prop) [Decidable c] (ht : onlyImage s t) (hu : onlyImage s u) : onlyImage s (if c then t else u) := by
  split
  · exact ht
  · exact hu

theorem onlyImage_foldl {α : Type} {f : State → α → State} {l : List α} (h : ∀ s, ∀ a ∈ l, onlyImage s (f s a)) (s : State) :
    onlyImage s (l.foldl f s) := by
  induction l generalizing s with
  | nil => exact onlyImage_refl s
  | cons a l ih => exact onlyImage_trans (h s a List.mem_cons_self) (ih (fun s b hb => h s b (List.mem_cons_of_mem a hb)) _)

theorem onlyImage_of_regs {s t : State} {ks : List Nat} (h : onlyRegs s t ks) (hk : ∀ k ∈ ks, imageReg k) : onlyImage s t := by
  obtain ⟨hframe, hkept⟩ := h
  refine ⟨?_, fun k hout => hkept k (fun hin => hout (hk k hin))⟩
  rw [hframe]

theorem onlyImage_fput (s : State) {f : Fld} (x : Nat) (h : imageReg f.key) : onlyImage s (s.fput f x) :=
  onlyImage_of_regs (onlyRegs_fput s f x) (List.forall_mem_singleton.2 h)

theorem onlyImage_mem {s t : State} (h : onlyImage s t) : t.mem = s.mem := by rw [h.1]
theorem onlyImage_lio {s t : State} (h : onlyImage s t) : t.lio = s.lio := by rw [h.1]
theorem onlyImage_cyc {s t : State} (h : onlyImage s t) : t.cyc = s.cyc := by rw [h.1]

theorem onlyImage_fget {s t : State} (h : onlyImage s t) {f : Fld} (hk : ¬ imageReg f.key) : t.fget f = s.fget f := by
  simp only [State.fget, h.2 _ hk]

theorem imageReg_task {k : Nat} (h : k / 0x1000 = Pg.TASK) : imageReg k := .inl (h ▸ by decide)
theorem imageReg_cairn {k : Nat} (h : k / 0x1000 = Pg.CAIRN) : imageReg k := .inl (h ▸ by decide)
theorem imageReg_ecc {k n : Nat} (hn : n < 8) (h : k / 0x1000 = Pg.ECC n) : imageReg k := by
  refine .inl (h ▸ ?_)
  simp only [imagePages, List.mem_cons, List.mem_map, List.mem_range]
  exact .inr (.inr ⟨n, hn, rfl⟩)

/-! ### Records -/

theorem onlyImage_submit (s : State) (r : Rec) : onlyImage s (s.submit r) := by
  refine ⟨?_, fun k hk => regsKept_submit s r k (fun hin => hk ?_)⟩
  · rw [submit_frame]
  · simp only [recordRegs, List.mem_cons, List.not_mem_nil, or_false] at hin
    rcases hin with rfl | rfl <;> exact imageReg_cairn rfl

/-! ### Tasks and triggers -/

theorem onlyImage_ochg (s : State) (x : Ochg) : onlyImage s { s with ochg := x } := ⟨rfl, fun _ _ => rfl⟩
theorem onlyImage_taskSet (s : State) (t : Nat) (f : Task → Task) : onlyImage s (s.taskSet t f) := ⟨rfl, fun _ _ => rfl⟩
theorem onlyImage_skip (s : State) (t : Nat) : onlyImage s (s.skip t) := onlyImage_taskSet ..

theorem onlyImage_idleUpdate (s : State) : onlyImage s s.idleUpdate := by
  have hstat (x : Nat) : onlyImage s (s.fput F.TASK_STAT_IDLE x) := onlyImage_fput s x (imageReg_task rfl)
  simp only [State.idleUpdate]
  exact onlyImage_ite _ (onlyImage_trans (hstat _) (onlyImage_ochg ..)) (hstat _)

theorem onlyImage_overrun (s : State) {t : Nat} (instant : Nat) (ht : t < 48) : onlyImage s (s.overrun t instant) := by
  have hcount : imageReg (R.TASK_OVR_CNT t) := imageReg_task (by simp only [R.TASK_OVR_CNT, Pg.TASK]; omega)
  have htotal : imageReg R.TASK_OVR_TOTAL := imageReg_task rfl
  have hraw : imageReg (R.INT_RAW Pg.TASK) := imageReg_task rfl
  simp only [State.overrun]
  refine onlyImage_trans ?_ (onlyImage_submit ..)
  refine onlyImage_trans ?_ (onlyImage_of_regs (onlyRegs_raise ..) (List.forall_mem_singleton.2 hraw))
  refine onlyImage_trans ?_ (onlyImage_taskSet ..)
  refine onlyImage_trans ?_ (onlyImage_of_regs (onlyRegs_countSat ..) (List.forall_mem_singleton.2 htotal))
  exact onlyImage_of_regs (onlyRegs_countSat ..) (List.forall_mem_singleton.2 hcount)

theorem onlyImage_triggerTask (s : State) {t : Nat} (instant : Nat) (ht : t < 48) : onlyImage s (s.triggerTask t instant).2 := by
  unfold State.triggerTask
  split
  · exact onlyImage_refl s
  · split
    case h_1 => exact onlyImage_refl s
    case h_2 => exact onlyImage_skip s t
    case h_3 => exact onlyImage_trans (onlyImage_trans (onlyImage_skip s t) (onlyImage_taskSet ..)) (onlyImage_ochg ..)
    case h_4 => exact onlyImage_overrun s instant ht
    case h_5 => exact onlyImage_trans (onlyImage_taskSet ..) (onlyImage_idleUpdate _)

theorem onlyImage_triggerAll (s : State) (g : Trig) {l : List Nat} (hl : ∀ t ∈ l, t < 48) : onlyImage s (s.triggerAll g l) := by
  induction l generalizing s g with
  | nil =>
    unfold State.triggerAll
    exact onlyImage_ite _ (onlyImage_refl s) ⟨rfl, fun _ _ => rfl⟩
  | cons t l ih =>
    exact onlyImage_trans (onlyImage_triggerTask s g.time (hl t List.mem_cons_self)) (ih _ _ (fun u hu => hl u (List.mem_cons_of_mem t hu)))

/-- Triggers go to event tasks, 16 to 47. -/
theorem lt_of_mem_trigTasks {s : State} {g : Trig} {t : Nat} (h : t ∈ s.trigTasks g) : t < 48 := by
  obtain ⟨i, hi, rfl⟩ := List.mem_map.1 (List.mem_filter.1 h).1
  have := List.mem_range.1 hi
  omega

theorem onlyImage_trigger (s : State) (kind source : Nat) (detail : Word) (skipped : Bool) : onlyImage s (s.trigger kind source detail skipped) :=
  onlyImage_triggerAll s _ (fun _ => lt_of_mem_trigTasks)

/-! ### Output pins -/

theorem onlyImage_lioPin (s : State) (pin : Nat) (v : View) : onlyImage s (s.lioPin pin v) := by
  unfold State.lioPin
  split
  · exact onlyImage_refl s
  split
  · exact onlyImage_refl s
  split
  · have hpin : R.LIO_AOUT (pin - 8) ∈ imagePins :=
      List.mem_cons_of_mem _ (List.mem_map_of_mem (List.mem_range.2 (by omega)))
    exact onlyImage_fput s _ (.inr hpin)
  · exact onlyImage_ite _ (onlyImage_fput s _ (.inr List.mem_cons_self)) (onlyImage_refl s)

theorem onlyImage_lioDrive (s : State) (p : Nat) (v : View) : onlyImage s (s.lioDrive p v) := by
  unfold State.lioDrive
  exact onlyImage_ite _ (onlyImage_foldl (fun s pin _ => onlyImage_lioPin s pin v) s) (onlyImage_refl s)

/-! ### Points -/

theorem onlyImage_pointLog (s : State) (p : Nat) (b a : View) : onlyImage s (s.pointLog p b a) := by
  simp only [State.pointLog]
  exact onlyImage_ite _ (onlyImage_ite _ ⟨rfl, fun _ _ => rfl⟩ (onlyImage_submit ..)) (onlyImage_refl s)

theorem onlyImage_pointChanged (s : State) (p : Nat) (b a : View) : onlyImage s (s.pointChanged p b a) := by
  unfold State.pointChanged
  exact onlyImage_ite _ (onlyImage_refl s) (onlyImage_trans (onlyImage_trans (onlyImage_lioDrive ..) (onlyImage_trigger ..)) (onlyImage_pointLog ..))

theorem onlyImage_pointMod {act : State → State} (h : ∀ u, onlyImage u (act u)) (s : State) (p : Nat) : onlyImage s (s.pointMod p act) := by
  have hprior : onlyImage s (s.keepPrior p) := ⟨rfl, fun _ _ => rfl⟩
  exact onlyImage_trans (onlyImage_trans hprior (h _)) (onlyImage_pointChanged ..)

theorem eccInst_lt {a n : Nat} (h : eccInst a = some n) : n < 8 := by
  unfold eccInst at h
  grind

/-- The test that a store uses up is armed on a page ECC0 to ECC7. -/
theorem onlyImage_testFlips (s : State) (a : Nat) : onlyImage s (s.testFlips a).2 := by
  unfold State.testFlips
  split
  · exact onlyImage_refl s
  case h_2 n hn =>
    have hkey : R.ECC_TEST_CTL n / 0x1000 = Pg.ECC n := by simp only [R.ECC_TEST_CTL]; omega
    split
    · exact onlyImage_fput s _ (imageReg_ecc (eccInst_lt hn) hkey)
    · exact onlyImage_refl s

theorem onlyImage_pointStore (s : State) (p : Nat) (f : Point → Point) : onlyImage s (s.pointStore p f) :=
  onlyImage_trans (onlyImage_testFlips s (pointAddr p)) ⟨rfl, fun _ _ => rfl⟩

/-- A source write changes the image and what follows from its change. -/
theorem onlyImage_sourceWrite (s : State) (p : Nat) (v : Word) (q inst : Nat) : onlyImage s (s.sourceWrite p v q inst) :=
  onlyImage_pointMod (fun u => onlyImage_pointStore u p _) s p

end Sys2Proof.Machine
end

section
/-! Local I/O (R301, R302, R315, R568): the hold on the grid, its results, and the short circuits of the outputs; and the statement about them. -/
namespace Sys2Proof.Machine

/-! ### Time and pairs of registers -/

/-- The cycles that pass until a counter reaches its instant are never taken back. -/
theorem reachN_cyc_le (f : State → Nat) (x n : Nat) (s : State) : s.cyc ≤ (State.reachN f x n s).cyc := by
  induction n generalizing s with
  | zero => exact Nat.le_refl _
  | succ n ih =>
    unfold State.reachN
    split
    · exact Nat.le_refl _
    · split
      · exact Nat.le_add_right s.cyc _
      · exact Nat.le_trans (Nat.le_add_right s.cyc 1) (ih (s.jump 1).servo)

theorem reach_cyc_le (s : State) (x : Nat) : s.cyc ≤ (s.reach x).cyc := reachN_cyc_le _ x _ s

theorem atTimeOf_rd (s t : State) (k : Nat) : (s.atTimeOf t).rd k = s.rd k := rfl
theorem atTimeOf_mem (s t : State) : (s.atTimeOf t).mem = s.mem := rfl
theorem atTimeOf_lio (s t : State) : (s.atTimeOf t).lio = s.lio := rfl

theorem reach_rd (s : State) (x k : Nat) : (s.reach x).rd k = s.rd k := by rw [reach_time, atTimeOf_rd]
theorem reach_mem (s : State) (x : Nat) : (s.reach x).mem = s.mem := by rw [reach_time, atTimeOf_mem]
theorem reachCyc_mem (s : State) (c : Nat) : (s.reachCyc c).mem = s.mem := by rw [reachCyc_time, atTimeOf_mem]
theorem reachCyc_lio (s : State) (c : Nat) : (s.reachCyc c).lio = s.lio := by rw [reachCyc_time, atTimeOf_lio]

theorem rd_put64_ne (s : State) {lo k : Nat} (v : Nat) (h : k ≠ lo) : (s.put64 lo v).rd k = s.rd k := s.rd_wr_ne _ h

/-- A field is read of its register alone. -/
theorem fget_congr {s t : State} {f : Fld} (h : t.rd f.key = s.rd f.key) : t.fget f = s.fget f := by simp only [State.fget, h]

theorem fset_congr {s t : State} {f : Fld} (h : t.rd f.key = s.rd f.key) : t.fset f = s.fset f := by simp only [State.fset, fget_congr h]

/-- A quantity put into a pair of registers reads back modulo 2^64 (R9). -/
theorem get64_put64 (s : State) (lo v : Nat) : (s.put64 lo v).get64 lo = v % 2 ^ 64 := by
  have hlow : (s.put64 lo v).rd lo = BitVec.ofNat 32 v := s.rd_wr_self lo _
  have hhigh : tabGet (fun _ => (0 : Word)) (s.put64 lo v).hiWords lo = BitVec.ofNat 32 (v / 2 ^ 32) := tabGet_tabSet_self ..
  rw [State.get64, hlow, hhigh, BitVec.toNat_ofNat, BitVec.toNat_ofNat]
  omega

/-! ### The hold (R301) -/

theorem not_imageReg_dioIn : ¬ imageReg R.LIO_DIO_IN := by
  unfold imageReg
  decide

/-- The word that DIO_IN takes: the pins of the inputs, and the levels driven on the outputs. -/
def State.dioWord (s : State) (levels : BitVec 16) : Word :=
  (levels.zeroExtend 32 &&& ~~~(s.rd R.LIO_DIO_DIR)) ||| (s.rd R.LIO_DIO_OUT &&& s.rd R.LIO_DIO_DIR &&& 0xFFFF)

/-- The DIO inputs are sampled into DIO_IN, with the event of a change that is enabled; the rest is source writes of their points. -/
theorem dioSample_frame (s : State) (levels : BitVec 16) :
    ∃ u, onlyRegs (s.wr R.LIO_DIO_IN (s.dioWord levels)) u [R.INT_RAW Pg.LIO] ∧ onlyImage u (s.dioSample levels) := by
  have hraise (c : Prop) [Decidable c] (u : State) : onlyRegs u (if c then u else u.raise Pg.LIO Ev.LIO_DIO_CHG) [R.INT_RAW Pg.LIO] := by
    split
    · exact ⟨rfl, fun _ _ => rfl⟩
    · exact onlyRegs_raise ..
  refine ⟨_, hraise _ _, onlyImage_foldl (fun v i _ => ?_) _⟩
  split
  · exact onlyImage_ite _ (onlyImage_refl v) (onlyImage_sourceWrite ..)
  · exact onlyImage_refl v

theorem dioSample_lio (s : State) (levels : BitVec 16) : (s.dioSample levels).lio = s.lio := by
  obtain ⟨u, ⟨hframe, -⟩, himage⟩ := dioSample_frame s levels
  rw [onlyImage_lio himage, hframe]
  rfl

theorem dioSample_mem (s : State) (levels : BitVec 16) : (s.dioSample levels).mem = s.mem := by
  obtain ⟨u, ⟨hframe, -⟩, himage⟩ := dioSample_frame s levels
  rw [onlyImage_mem himage, hframe]
  rfl

theorem dioSample_cyc (s : State) (levels : BitVec 16) : (s.dioSample levels).cyc = s.cyc := by
  obtain ⟨u, ⟨hframe, -⟩, himage⟩ := dioSample_frame s levels
  rw [onlyImage_cyc himage, hframe]
  rfl

theorem dioSample_dioIn (s : State) (levels : BitVec 16) : (s.dioSample levels).rd R.LIO_DIO_IN = s.dioWord levels := by
  obtain ⟨u, ⟨-, hkept⟩, himage⟩ := dioSample_frame s levels
  rw [himage.2 _ not_imageReg_dioIn, hkept _ (by decide), State.rd_wr_self]

/-- The conversions are held in the cycle of `s`, for the grid instant `t`. -/
def State.ainHold (s : State) (volts : List Int) (t : Nat) : State :=
  { s with lio := { s.lio with held := (List.range 8).map (fun i => ainLimit (volts.getD i 0)), heldAt := t, heldMono := s.monoNow,
                               readyAt := some (s.cyc + 1024) } }

theorem exec_lioAinHold {s : State} (volts : List Int) (levels : BitVec 16) (hawake : s.awake = true) (hon : s.enabled Pg.LIO = true) :
    exec (.lioAinHold volts levels) s = .next (((s.reach s.nextHold).ainHold volts s.nextHold).dioSample levels) := by
  show execLioAinHold volts levels s = _
  rw [execLioAinHold, whenAwake_awake _ hawake, hon]
  rfl

theorem ainHold_dioWord (s : State) (volts : List Int) (t : Nat) (levels : BitVec 16) : (s.ainHold volts t).dioWord levels = s.dioWord levels := rfl
theorem ainHold_mem (s : State) (volts : List Int) (t : Nat) : (s.ainHold volts t).mem = s.mem := rfl
theorem ainHold_cyc (s : State) (volts : List Int) (t : Nat) : (s.ainHold volts t).cyc = s.cyc := rfl
theorem ainHold_held (s : State) (volts : List Int) (t : Nat) :
    (s.ainHold volts t).lio.held = (List.range 8).map (fun i => ainLimit (volts.getD i 0)) := rfl
theorem ainHold_heldAt (s : State) (volts : List Int) (t : Nat) : (s.ainHold volts t).lio.heldAt = t := rfl
theorem ainHold_readyAt (s : State) (volts : List Int) (t : Nat) : (s.ainHold volts t).lio.readyAt = some (s.cyc + 1024) := rfl

/-- Time that passes changes no level of the DIO pins. -/
theorem reach_dioWord (s : State) (x : Nat) (levels : BitVec 16) : (s.reach x).dioWord levels = s.dioWord levels := by
  simp only [State.dioWord, reach_rd]

/-! ### The results (R302) -/

/-- The conversion held for AIN `i`, and whether it was limited. -/
def State.ainConv (s : State) (i : Nat) : Int × Bool := s.lio.held.getD i (0, false)

/-- The code of AIN `i` and its CLIP bit stand in AINi. -/
def State.ainCode (s : State) (i : Nat) : State :=
  (s.fput (F.LIO_AIN_CODE i) (BitVec.ofInt 16 (s.ainConv i).1).toNat).fput (F.LIO_AIN_CLIP i) (boolNat (s.ainConv i).2)

/-- They stand there, with the event of a limited conversion. -/
def State.ainPut (s : State) (i : Nat) : State := if (s.ainConv i).2 then (s.ainCode i).raise Pg.LIO Ev.LIO_CLIP else s.ainCode i

/-- The point of AIN `i`, if it has one, takes the conversion `e`, dated at the hold instant. -/
def State.ainPublish (s : State) (i : Nat) (e : Int × Bool) : State :=
  match tabFind s.lioPids i with
  | some p => s.sourceWrite p (word32 e.1) (boolNat e.2) s.lio.heldMono
  | none => s

theorem ainResult_eq (s : State) (i : Nat) : s.ainResult i = (s.ainPut i).ainPublish i (s.ainConv i) := rfl

theorem onlyRegs_ainCode (s : State) (i : Nat) : onlyRegs s (s.ainCode i) [R.LIO_AIN i, R.INT_RAW Pg.LIO] :=
  onlyRegs_trans (onlyRegs_fput_mem _ _ List.mem_cons_self) (onlyRegs_fput_mem _ _ List.mem_cons_self)

/-- The event leaves the code and the bit as they are. -/
theorem onlyRegs_ainPut_ainCode (s : State) (i : Nat) : onlyRegs (s.ainCode i) (s.ainPut i) [R.INT_RAW Pg.LIO] := by
  unfold State.ainPut
  split
  · exact onlyRegs_raise ..
  · exact ⟨rfl, fun _ _ => rfl⟩

theorem onlyRegs_ainPut (s : State) (i : Nat) : onlyRegs s (s.ainPut i) [R.LIO_AIN i, R.INT_RAW Pg.LIO] :=
  onlyRegs_trans (onlyRegs_ainCode s i) (onlyRegs_mono (onlyRegs_ainPut_ainCode s i) (by simp))

/-- The rest of a result is the source write of its point. -/
theorem onlyImage_ainResult (s : State) (i : Nat) : onlyImage (s.ainPut i) (s.ainResult i) := by
  rw [ainResult_eq, State.ainPublish]
  split
  · exact onlyImage_sourceWrite ..
  · exact onlyImage_refl _

theorem not_imageReg_ain {i : Nat} (hi : i < 8) : ¬ imageReg (R.LIO_AIN i) := by
  have hall : ∀ j < 8, ¬ imageReg (R.LIO_AIN j) := by
    unfold imageReg
    decide
  exact hall i hi

theorem ain_not_mem_raw (i : Nat) : R.LIO_AIN i ∉ [R.INT_RAW Pg.LIO] := by
  simp only [R.LIO_AIN, R.INT_RAW, Pg.LIO, List.mem_singleton]
  omega

theorem ainPut_code (s : State) (i : Nat) : (s.ainPut i).fget (F.LIO_AIN_CODE i) = (BitVec.ofInt 16 (s.ainConv i).1).toNat := by
  rw [onlyRegs_fget (onlyRegs_ainPut_ainCode s i) (ain_not_mem_raw i), State.ainCode,
    State.fget_fput_disjoint _ _ (by decide : 16 ≤ 16) (by decide : 16 < 32) (.inl (by decide : 15 < 16)),
    State.fget_fput _ _ _ (by decide : 0 ≤ 15) (by decide : 15 < 32)]
  exact Nat.mod_eq_of_lt (BitVec.isLt _)

theorem ainPut_clip (s : State) (i : Nat) : (s.ainPut i).fset (F.LIO_AIN_CLIP i) = (s.ainConv i).2 := by
  have hbit (b : Bool) : (boolNat b % fieldSize (F.LIO_AIN_CLIP i) == 1) = b := by cases b <;> rfl
  rw [State.fset, onlyRegs_fget (onlyRegs_ainPut_ainCode s i) (ain_not_mem_raw i), State.ainCode,
    State.fget_fput _ _ _ (by decide : 16 ≤ 16) (by decide : 16 < 32), hbit]

/-- The results of AIN0 to AIN `n` − 1, one after the other. -/
def State.ainResults (s : State) (n : Nat) : State := (List.range n).foldl (fun s i => s.ainResult i) s

theorem ainResults_succ (s : State) (n : Nat) : s.ainResults (n + 1) = (s.ainResults n).ainResult n := by
  simp only [State.ainResults, List.range_succ, List.foldl_append, List.foldl_cons, List.foldl_nil]

theorem ainResult_lio (s : State) (i : Nat) : (s.ainResult i).lio = s.lio := by
  rw [onlyImage_lio (onlyImage_ainResult s i), (onlyRegs_ainPut s i).1]

theorem ainResult_mem (s : State) (i : Nat) : (s.ainResult i).mem = s.mem := by
  rw [onlyImage_mem (onlyImage_ainResult s i), (onlyRegs_ainPut s i).1]

theorem ainResult_cyc (s : State) (i : Nat) : (s.ainResult i).cyc = s.cyc := by
  rw [onlyImage_cyc (onlyImage_ainResult s i), (onlyRegs_ainPut s i).1]

/-- A result leaves the registers of the other inputs. -/
theorem ainResult_rd_ain_ne (s : State) {i j : Nat} (hi : i < 8) (h : i ≠ j) : (s.ainResult j).rd (R.LIO_AIN i) = s.rd (R.LIO_AIN i) := by
  have hkeys : R.LIO_AIN i ∉ [R.LIO_AIN j, R.INT_RAW Pg.LIO] := by
    simp only [R.LIO_AIN, R.INT_RAW, Pg.LIO, List.mem_cons, List.not_mem_nil, or_false, not_or]
    omega
  rw [(onlyImage_ainResult s j).2 _ (not_imageReg_ain hi), (onlyRegs_ainPut s j).2 _ hkeys]

theorem ainResult_rd_ain_self (s : State) {i : Nat} (hi : i < 8) : (s.ainResult i).rd (R.LIO_AIN i) = (s.ainPut i).rd (R.LIO_AIN i) :=
  (onlyImage_ainResult s i).2 _ (not_imageReg_ain hi)

theorem ainResults_lio (s : State) (n : Nat) : (s.ainResults n).lio = s.lio := by
  induction n with
  | zero => rfl
  | succ n ih => rw [ainResults_succ, ainResult_lio, ih]

theorem ainResults_conv (s : State) (n i : Nat) : (s.ainResults n).ainConv i = s.ainConv i := by
  rw [State.ainConv, ainResults_lio, State.ainConv]

theorem ainResults_mem (s : State) (n : Nat) : (s.ainResults n).mem = s.mem := by
  induction n with
  | zero => rfl
  | succ n ih => rw [ainResults_succ, ainResult_mem, ih]

theorem ainResults_cyc (s : State) (n : Nat) : (s.ainResults n).cyc = s.cyc := by
  induction n with
  | zero => rfl
  | succ n ih => rw [ainResults_succ, ainResult_cyc, ih]

/-- Each input's register holds its code and its CLIP bit once its result has come. -/
theorem ainResults_ain (s : State) {i n : Nat} (hi : i < n) (hn : n ≤ 8) :
    (s.ainResults n).fget (F.LIO_AIN_CODE i) = (BitVec.ofInt 16 (s.ainConv i).1).toNat
      ∧ (s.ainResults n).fset (F.LIO_AIN_CLIP i) = (s.ainConv i).2 := by
  induction n with
  | zero => omega
  | succ n ih =>
    rw [ainResults_succ]
    by_cases hlast : i = n
    · subst hlast
      have hreg := ainResult_rd_ain_self (s.ainResults i) (i := i) (by omega)
      rw [fget_congr (f := F.LIO_AIN_CODE i) hreg, fset_congr (f := F.LIO_AIN_CLIP i) hreg, ainPut_code, ainPut_clip, ainResults_conv]
      exact ⟨rfl, rfl⟩
    · have hreg := ainResult_rd_ain_ne (s.ainResults n) (i := i) (by omega) hlast
      rw [fget_congr (f := F.LIO_AIN_CODE i) hreg, fset_congr (f := F.LIO_AIN_CLIP i) hreg]
      exact ih (by omega) (by omega)

/-- The results are complete: the hold instant stands in AIN_TS, and no result is awaited. -/
def State.ainDone (s : State) : State :=
  let u := s.put64 R.LIO_AIN_TS_LO s.lio.heldAt
  { u with lio := { u.lio with readyAt := none, resMono := u.lio.heldMono } }

theorem exec_lioAinResult {s : State} {c : Nat} (hawake : s.awake = true) (hon : s.enabled Pg.LIO = true) (hready : s.lio.readyAt = some c) :
    exec .lioAinResult s = .next ((s.reachCyc c).ainResults 8).ainDone := by
  show execLioAinResult s = _
  rw [execLioAinResult, whenAwake_awake _ hawake, hready, hon]
  simp only [State.ainResults, State.ainDone]

theorem exec_lioAinResult_disabled {s : State} (hawake : s.awake = true) (hoff : s.enabled Pg.LIO = false) : exec .lioAinResult s = .next s := by
  show execLioAinResult s = _
  rw [execLioAinResult, whenAwake_awake _ hawake, hoff]
  cases s.lio.readyAt <;> rfl

theorem ainDone_rd (s : State) (k : Nat) : s.ainDone.rd k = (s.put64 R.LIO_AIN_TS_LO s.lio.heldAt).rd k := rfl

theorem ainDone_rd_ain (s : State) {i : Nat} (hi : i < 8) : s.ainDone.rd (R.LIO_AIN i) = s.rd (R.LIO_AIN i) := by
  have hkey : R.LIO_AIN i ≠ R.LIO_AIN_TS_LO := by
    simp only [R.LIO_AIN, R.LIO_AIN_TS_LO]
    omega
  rw [ainDone_rd, rd_put64_ne _ _ hkey]

theorem ainDone_ts (s : State) : s.ainDone.get64 R.LIO_AIN_TS_LO = s.lio.heldAt % 2 ^ 64 := get64_put64 ..
theorem ainDone_lio (s : State) : s.ainDone.lio = { s.lio with readyAt := none, resMono := s.lio.heldMono } := rfl
theorem ainDone_mem (s : State) : s.ainDone.mem = s.mem := rfl
theorem ainDone_cyc (s : State) : s.ainDone.cyc = s.cyc := rfl

/-- The registers of the inputs after LIO_AIN_RESULT. -/
theorem lioAinResult_ain (s : State) (c : Nat) {i : Nat} (hi : i < 8) :
    ((s.reachCyc c).ainResults 8).ainDone.fget (F.LIO_AIN_CODE i) = (BitVec.ofInt 16 (s.ainConv i).1).toNat
      ∧ ((s.reachCyc c).ainResults 8).ainDone.fset (F.LIO_AIN_CLIP i) = (s.ainConv i).2 := by
  have hreg := ainDone_rd_ain ((s.reachCyc c).ainResults 8) hi
  have hconv : (s.reachCyc c).ainConv i = s.ainConv i := by rw [State.ainConv, reachCyc_lio, State.ainConv]
  rw [fget_congr (f := F.LIO_AIN_CODE i) hreg, fset_congr (f := F.LIO_AIN_CLIP i) hreg, ← hconv]
  exact ainResults_ain (s.reachCyc c) hi (Nat.le_refl 8)

/-! ### Short circuits of the outputs (R315) -/

theorem exec_lioAoutShort {s : State} (n : Fin 4) (hawake : s.awake = true) :
    exec (.lioAoutShort n) s = .next ((s.fput (F.LIO_AOUT_SHORT n) 1).raise Pg.LIO Ev.LIO_SHORT) := by
  show execLioAoutShort n s = _
  rw [execLioAoutShort, whenAwake_awake _ hawake]

theorem exec_aoutShortEnd {s : State} (n : Fin 4) (hawake : s.awake = true) :
    exec (.aoutShortEnd n) s = .next (s.fput (F.LIO_AOUT_SHORT n) 0) := by
  show execAoutShortEnd n s = _
  rw [execAoutShortEnd, whenAwake_awake _ hawake]

theorem fget_short_fput (s : State) (n x : Nat) : (s.fput (F.LIO_AOUT_SHORT n) x).fget (F.LIO_AOUT_SHORT n) = x % 2 :=
  s.fget_fput _ x (by decide : 17 ≤ 17) (by decide : 17 < 32)

/-- The SHORT bit lies beside the code. -/
theorem fget_code_fput_short (s : State) (n x : Nat) : (s.fput (F.LIO_AOUT_SHORT n) x).fget (F.LIO_AOUT_CODE n) = s.fget (F.LIO_AOUT_CODE n) :=
  s.fget_fput_disjoint x (by decide : 17 ≤ 17) (by decide : 17 < 32) (.inl (by decide : 15 < 17))

theorem aout_not_mem_raw (n : Nat) : R.LIO_AOUT n ∉ [R.INT_RAW Pg.LIO] := by
  simp only [R.LIO_AOUT, R.INT_RAW, Pg.LIO, List.mem_singleton]
  omega

theorem enabled_fput_short (s : State) (n x : Nat) : (s.fput (F.LIO_AOUT_SHORT n) x).enabled Pg.LIO = s.enabled Pg.LIO := by
  have hkey : (F.HDR_ENABLE Pg.LIO).key ≠ (F.LIO_AOUT_SHORT n).key := by
    simp only [F.HDR_ENABLE, F.LIO_AOUT_SHORT, R.BLK_CTL, R.LIO_AOUT, Pg.LIO]
    omega
  simp only [State.enabled, State.fset, s.fget_fput_ne x hkey]

/-- An event of a block that runs sets its bit. -/
theorem bit_raise {s : State} {p k : Nat} (hk : k < 32) (h : s.enabled p = true) : (s.raise p k).bit (R.INT_RAW p) k = true := by
  simp only [State.raise, h, if_true, State.setBit, State.fput, State.bit, State.rd_wr_self]
  rw [getLsbD_fieldPut _ _ _ _ (Nat.le_refl k) hk]
  simp [boolNat]

/-! ### The statement -/

/-- Settles O34: the hold limits and dates the conversions, their results come into AINn, and an output's short circuit is told by its SHORT bit. -/
theorem localInputsOutputs : Obligations.LocalInputsOutputs := by
  unfold Obligations.LocalInputsOutputs
  refine ⟨fun volts levels s hawake hon => ?hold, fun s hawake hoff => ⟨s, exec_lioAinResult_disabled hawake hoff, rfl⟩,
    fun c s hawake hon hready => ?results, fun n s hawake => ?short, fun n s hawake => ?shortEnd⟩
  case hold =>
    refine ⟨_, exec_lioAinHold volts levels hawake hon, ?_, ?_, ?_, ?_, ?_, ?_⟩
    · rw [dioSample_lio, ainHold_held]
    · rw [dioSample_lio, ainHold_heldAt]
    · rw [dioSample_lio, ainHold_readyAt, Option.isSome_some]
    · rw [dioSample_dioIn, ainHold_dioWord, reach_dioWord, State.dioWord]
    · rw [dioSample_mem, ainHold_mem, reach_mem]
    · rw [dioSample_cyc, ainHold_cyc]
      exact reach_cyc_le s s.nextHold
  case results =>
    refine ⟨_, exec_lioAinResult hawake hon hready, fun i hi => (lioAinResult_ain s c hi).1, fun i hi => (lioAinResult_ain s c hi).2, ?_, ?_, ?_, ?_⟩
    · rw [ainDone_ts, ainResults_lio, reachCyc_lio]
    · rw [ainDone_lio, ainResults_lio, reachCyc_lio]
    · rw [ainDone_mem, ainResults_mem, reachCyc_mem]
    · rw [ainDone_cyc, ainResults_cyc]
      exact reachCyc_le s c
  case short =>
    have hshort := onlyRegs_raise (s.fput (F.LIO_AOUT_SHORT n) 1) Pg.LIO Ev.LIO_SHORT
    refine ⟨_, exec_lioAoutShort n hawake, ?_, fun hon => ?_, ?_, ?_⟩
    · rw [State.fset, onlyRegs_fget hshort (aout_not_mem_raw n), fget_short_fput]
      rfl
    · exact bit_raise (by decide) ((enabled_fput_short ..).trans hon)
    · rw [onlyRegs_fget hshort (aout_not_mem_raw n), fget_code_fput_short]
    · exact onlyRegs_trans (onlyRegs_fput_mem _ _ List.mem_cons_self) (onlyRegs_mono hshort (by simp))
  case shortEnd =>
    refine ⟨_, exec_aoutShortEnd n hawake, ?_, fget_code_fput_short .., onlyRegs_fput ..⟩
    rw [State.fset, fget_short_fput]
    rfl

end Sys2Proof.Machine
end

section
/-! Statements about the loop engine that fail: a sample instant of a module that has left its sleep without READY (R171), an output that an event task
waits for (R240), and an enable beside a test armed in the slot's block, which is memory of ECC2 (R105, R142). -/
namespace Sys2Proof.Machine

/-! ### Between the end of a sleep and READY (R171) -/

theorem whenReady_resting {s : State} (f : State → State) (h : s.resting = true) : s.whenReady f = .next s := by
  simp only [State.whenReady, h, Bool.not_true, Bool.and_false, Bool.false_eq_true, if_false]

theorem exec_loopSample_resting (slot : Fin 512) {s : State} (h : s.resting = true) : exec (.loopSample slot) s = .next s := whenReady_resting _ h

/-- CAN0 has ended the module's sleep and is INTEGRATING, so READY has not risen yet. The loop engine runs, with slot 20 enabled. -/
def wakingLoops : State :=
  { ((((State.reset.fput (F.HDR_ENABLE (Pg.CAN 0)) 1).fput (F.CAN_STATE_STATE 0) canIntegrating).fput (F.HDR_ENABLE Pg.LOOP) 1).setBit
      (R.LOOP_EN 0) 20 true) with
    sup := { waking := some (some 0) } }

theorem wakingLoops_resting : wakingLoops.resting = true := rfl

/-- Refutes O31: after a sleep and before READY the module is awake, and LOOP_SAMPLE takes no instant (R171). -/
theorem not_loopInstants : ¬ Obligations.LoopInstants := by
  unfold Obligations.LoopInstants
  rintro ⟨hsample, -⟩
  have hmeets : wakingLoops.awake = true ∧ wakingLoops.laneRuns 0 = true ∧ wakingLoops.slotOn 20 = true ∧ (wakingLoops.loopx 20).due = none := by
    decide +kernel
  obtain ⟨hawake, hruns, hon, hdue⟩ := hmeets
  obtain ⟨t, hnext, htaken, -⟩ := hsample 20 wakingLoops hawake hruns hon hdue
  rw [exec_loopSample_resting 20 wakingLoops_resting, Host.Outcome.next.injEq] at hnext
  rw [← hnext] at htaken
  exact Option.some_ne_none _ (htaken.symm.trans hdue)

/-! ### An event task that waits for the output of a slot (R240) -/

theorem exec_loopFixedOutput {s : State} {slot : Fin 16} {c q : Nat} {v : Int} (hawake : s.awake = true) (hout : (s.loopx slot).out = some (c, v, q)) :
    exec (.loopFixedOutput slot) s = .next (((s.reachCyc c).loopSet slot (fun x => { x with out := none })).loopPublish slot v q) := by
  show execLoopFixedOutput slot s = _
  rw [execLoopFixedOutput, whenAwake_awake _ hawake, hout]

/-- Fixed-phase slot 5 awaits its output cycle for point 4100, and event task 16, enabled and waiting, has the changes of that point for its trigger. -/
def triggeredOutput : State :=
  { (((((((State.reset.fput (F.HDR_ENABLE Pg.LOOP) 1).setLe (slotBase 5 + 8 * wSrc2) 8 (2 ^ 32 * (2 ^ 16 + 4100))).fput (F.HDR_ENABLE Pg.TASK) 1).fput
      F.TASK_STAT_RELEASE_OK 1).fput (F.TASK_TCFG_EN 16) 1).fput (F.TASK_TRIG_KIND 16) 1).wr (R.TASK_TRIG_ARG 16) 4100) with
    loops := [(5, { out := some (2048, -3, 0) })], points := [(4100, { src := .loop 5, ptype := 1, isOut := true })]
    tasks := [(16, { st := .waiting })] }

/-- Refutes O32: the output of a fixed-phase slot changes its point, and an event task that waits for the change is LATCHING from then on, so that
TASK.BLK_STAT.IDLE falls to 0 (R240, R250): a register outside the pages LIO and CAIRN, to which the statement confines the output cycle. -/
theorem not_loopEvaluations : ¬ Obligations.LoopEvaluations := by
  unfold Obligations.LoopEvaluations
  rintro ⟨-, -, houtput, -⟩
  have hmeets : triggeredOutput.awake = true ∧ (triggeredOutput.loopx (5 : Fin 16)).out = some (2048, -3, 0)
      ∧ triggeredOutput.outPoint? (5 : Fin 16) = some 4100 ∧ triggeredOutput.forceOn 4100 = none
      ∧ triggeredOutput.untested (pointAddr 4100) = true := by decide +kernel
  obtain ⟨hawake, hout, hpoint, hforce, htest⟩ := hmeets
  obtain ⟨t, hnext, -, -, -, -, -, -, hpages⟩ := houtput 5 2048 0 4100 (-3) triggeredOutput hawake hout hpoint hforce htest
  rw [exec_loopFixedOutput hawake hout, Host.Outcome.next.injEq] at hnext
  have hkept : t.rd (R.BLK_STAT Pg.TASK) = triggeredOutput.rd (R.BLK_STAT Pg.TASK) := hpages _ (by decide)
  rw [← hnext] at hkept
  revert hkept
  decide +kernel

/-! ### A test armed for a word of a slot block (R142) -/

/-- Slot 20 holds a PID block that passes the checks of its enable, and the anchor has armed a test of ECC2 for its count of evaluations. -/
def testedStatistics : State :=
  { (((((((State.reset.fput (F.HDR_ENABLE Pg.LOOP) 1).setLe (slotBase 20) 8 4).setLe (slotBase 20 + 8 * wTiming) 8 25).setLe
      (slotBase 20 + 8 * wSrc) 8 0x20000).setLe (slotBase 20 + 8 * wSrc2) 8 (2 ^ 32 * (2 ^ 16 + 4100))).wr
      (R.ECC_TEST_ADDR_LO 2) (BitVec.ofNat 32 (slotBase 20 + 8 * wNEval))).wr (R.ECC_TEST_CTL 2) 0x100) with
    points := [(4100, { src := .loop 20, ptype := 1, isOut := true })] }

/-- Refutes O33: the block of a slot is memory of ECC2 (R105), and the clearing of its statistics uses up a test armed for one of their words: the store
clears ARM of ECC2.TEST_CTL (R142), on a page that the statement has unchanged (it names ECC1). -/
theorem not_loopSlots : ¬ Obligations.LoopSlots := by
  unfold Obligations.LoopSlots
  rintro ⟨henable, -⟩
  have hmeets : testedStatistics.awake = true ∧ testedStatistics.opens .ac0 (R.LOOP_EN ((20 : Fin 512).val / 32)) = true
      ∧ testedStatistics.slotOn (20 : Fin 512) = false ∧ testedStatistics.enableReason (20 : Fin 512) = 0 := by decide +kernel
  obtain ⟨hawake, hopens, hoff, hreason⟩ := hmeets
  obtain ⟨t, hnext, -, -, -, -, -, -, -, hpages, -⟩ := henable .ac0 20 testedStatistics hawake hopens hoff hreason
  have hserved : exec (.loopSlotEnable .ac0 20) testedStatistics = .next { testedStatistics.slotEnable 20 with resp := .data 0 } :=
    regCmd_opens _ hawake hopens
  rw [hserved, Host.Outcome.next.injEq] at hnext
  have hkept : t.rd (R.ECC_TEST_CTL 2) = testedStatistics.rd (R.ECC_TEST_CTL 2) := hpages _ (by decide)
  rw [← hnext] at hkept
  revert hkept
  decide +kernel

end Sys2Proof.Machine
end
